-- ==== Sys2Proof/Word.lean ====
section
/-! DEFINITION. Word types: the widths in which the KX-960 holds registers, bytes and wide values. -/

namespace Sys2Proof

/-- One byte of memory, and one byte of a register. -/
abbrev Byte := BitVec 8

/-- One register of the register fabric: 32 bits (03, "Widths, alignment and side effects"). -/
abbrev Word := BitVec 32

/-- One declared 64-bit pair, one pass-core accumulator (R210), one binary64 value. -/
abbrev DWord := BitVec 64

end Sys2Proof
end

