-- ==== Sys2Proof/Syntax.lean ====
section
/-! DEFINITION. The commands of the block: one constructor per row of spec/opcode_table.json, with the row's operands,
and the data that the commands carry in. -/

namespace Sys2Proof

/-- Stands for an outcome that a command has and that is computed from the state: it carries nothing. -/
abbrev Computed := Unit

/-- The levels of the straps that are read as a unit comes out of reset: PAIR_ROLE (true for B) and TEST_MODE (R41, R421). -/
structure Straps where
  role : Bool
  testMode : Bool
deriving DecidableEq, Repr


/-- An access to BAR4 of a function (R93): offset, width in bits, and the data of a write. -/
inductive Bar4Access where
  | read (off : Nat) (width : Nat)
  | write (off : Nat) (width : Nat) (data : Nat)
deriving DecidableEq, Repr

/-- What an MSI-X enable, function mask or vector mask write acts on (R100), or the access to the MSI-X structures in BAR4
that brings it about (R93). -/
inductive MsixTarget where
  | enable
  | function
  | vector (n : Nat)
  | bar4 (a : Bar4Access)
deriving DecidableEq, Repr

/-- What resets the PCIe link (R101). -/
inductive PcieResetCause where
  | perst
  | hotReset
  | linkDown
deriving DecidableEq, Repr

/-- The queue channels that carry requests (R104, R108, R109): QCH_00, QCH_01 and QCH_07. -/
inductive ReqChannel where
  | qch00
  | qch01
  | qch07
deriving DecidableEq, Repr


/-- A field's estimate (R156), delivered with a success status: the values of its variables as binary64 bits, and the
solution of each stage. -/
structure Estimate where
  field : Nat
  press : List (Nat × Nat)
  temp : List (Nat × Nat)
  inj : List (Nat × Nat)
  flow : List (Nat × Nat)
deriving DecidableEq, Repr

/-- A stage of a stored solution (R196): its counts of variables, equality and inequality rows, and X, Y, Z and ZB. -/
structure StoredStage where
  n : Nat
  m : Nat
  p : Nat
  data : List Byte
deriving DecidableEq, Repr

/-- A field's entry in the solution store (R196). -/
structure Stored where
  field : Nat
  stages : List StoredStage
deriving DecidableEq, Repr


/-- The operand of formats B and W (R221): area code [23:20], base n [19:18], offset [17:0]. -/
structure MemOp where
  area : BitVec 4
  base : BitVec 2
  off : BitVec 18
deriving DecidableEq, Repr


/-- A PTP message is handled on a port (R286); the correction in SYS cycles is the one that the discipline makes where it
corrects calendar time (R438; its law is not given, assumption 99). -/
structure PtpInput where
  port : Fin 4
  correction : Int
deriving DecidableEq, Repr


/-- A CAN frame as received (R311, R317): format and identifier, FD flags, DLC and data bytes. -/
structure CanFrame where
  ide : Bool
  id : Nat
  remote : Bool
  fdf : Bool
  brs : Bool
  esi : Bool
  dlc : Nat
  data : List Byte
deriving DecidableEq, Repr

/-- What a CAN protocol error is (R322): the errors of ISO 11898-1, and a protocol exception. -/
inductive CanErr where
  | bit
  | stuff
  | form
  | crc
  | ack
  | exception
deriving DecidableEq, Repr

/-- What the fault confinement rules of ISO 11898-1 make of an error (R322): neither counter changes (such as a stuff error
during arbitration), REC rises by 1 or by 8, or TEC of a transmitter rises by 8 (such as a bit error in its error flag). -/
inductive CanStep where
  | same
  | rec1
  | rec8
  | tec8
deriving DecidableEq, Repr

/-- How a transmitted frame ends (R321). -/
inductive CanTxEnd where
  | sent
  | noAck
  | busError (kind : CanErr)
deriving DecidableEq, Repr

/-- What a sleeping channel sees (R324). -/
inductive CanWake where
  | dominant
  | frame (f : CanFrame)
deriving DecidableEq, Repr

/-- One sample of an ADC channel as its modulators give it (R327, R329): the input voltage of the low-gain and of the
high-gain modulator as binary64 bits, and whether each overloaded. -/
structure AdcSample where
  low : BitVec 64
  high : BitVec 64
  lowOver : Bool
  highOver : Bool
deriving DecidableEq, Repr

/-- The readings of a chain at the internal reference (R332): at zero and at +0.75 and −0.75 of full scale, in volts as
binary64 bits, before its gain and offset. -/
structure CalReading where
  zero : BitVec 64
  plus : BitVec 64
  minus : BitVec 64
deriving DecidableEq, Repr

/-- What happens in a calibration step (R332): it begins; the chain at the reference has been measured at both gains; the two
chains on the channel's input have been compared, with their mean difference as a fraction of full scale, binary64 bits. -/
inductive CalStep where
  | begins
  | measured (low high : CalReading)
  | compared (difference : BitVec 64)
deriving DecidableEq, Repr

/-- A pair HELLO (R361): role (true for B), GLOBAL_UID, protocol version, configuration digest, field root key check value,
and STATE with READY beside it, as PAIR_STAT holds them (DESIGN CHOICE for READY, assumption 100). -/
structure PairHello where
  role : Bool
  uid : Nat
  version : Nat
  digest : Nat
  kcv : Nat
  state : Nat
  ready : Bool
deriving DecidableEq, Repr

/-- A changed block of pass-critical state (R356): 64 bytes of a memory area by area and block number, or a record of an
area that is no memory: the flow basis of R146 with T_node and the substation draw, a metering register with its
fraction, DIR and REVERSALS of a meter, calendar time, a loop engine, the pass state (PASS_MS, mode and cause, PROG_ID,
whether an exchange is pending, epoch, and the entries whose pending order has been sent), or the campaign block. -/
inductive PairBlock where
  | bytes (area block : Nat) (data : List Byte)
  | flow (qhat tnode : List (Nat × Nat)) (draw : List (Nat × Int))
  | meter (lo value frac : Nat)
  | dir (meter dir reversals : Nat)
  | time (cal : Nat)
  | engine (n : Nat) (acc e1 e2 f1 d1 z v : Int) (run manual : Bool)
  | passState (ms msAcc mode cause progId : Nat) (exchange : Bool) (epoch : Nat) (sent : List Nat)
  | campaign (table : List Byte) (ests : List Estimate) (store : List Stored)
deriving DecidableEq, Repr

/-- A forwarded change (R373): a register write by its offset, the bits it changes and their values; a CFG_REF commit with
the new reference; or an amendment by opcode, inline words and payload. -/
inductive PairWrite where
  | write (off mask value : Nat)
  | commit (ref : Nat)
  | amend (op : Nat) (inl : List Nat) (payload : List Byte)
deriving DecidableEq, Repr

/-- A JOIN frame (R361, R372): a request, a part of the journal, blocks, the refusal of a full journal, or completion. -/
inductive PairJoin where
  | request
  | journal (writes : List PairWrite)
  | blocks (blocks : List PairBlock)
  | refused
  | complete
deriving DecidableEq, Repr

/-- What the headland link carries (R360, R361): the control blocks ALIGN and ALIVE, with the sender's AUTH_OUT and pass
count, and frames. A campaign digest comes with whether its campaign was published at the
deadline (R357). -/
inductive PairFrame where
  | align
  | alive (auth : Bool) (pass : Nat)
  | hello (h : PairHello)
  | blocks (pass seq : Nat) (blocks : List PairBlock)
  | write (pass seq : Nat) (writes : List PairWrite)
  | digest (pass seq digest : Nat) (campaign : Option (Nat × Bool))
  | end_ (pass frames epoch mode : Nat)
  | ack (pass : Nat) (failed : Bool)
  | verdict (tests : Nat)
  | handover
  | join (j : PairJoin)
deriving DecidableEq, Repr


/-- What one step of the harrow's scrubbing finds (R412). -/
inductive ScrubFound where
  | clean
  | corrected
  | uncorrectable
deriving DecidableEq, Repr

/-- The commands of spec/opcode_table.json, row by row; each docstring gives the row's mnemonic, its rule and its
summary. -/
inductive Instr where
  /-- POWER_UP (R39): VDD_AON rises: the always-on domain and everything else are reset, and sowing starts with the configured restart kind. -/
  | powerUp (role : Straps)
  /-- AON_POWER_LOSS (R40): VDD_AON is lost: calendar time, the mailboxes, the counter reservation and the archive indices are lost. -/
  | aonPowerLoss
  /-- PORST_ASSERT (R39): PORST_N goes low: everything except the always-on domain is reset, AUTH_OUT is released and the host link goes down. -/
  | porstAssert
  /-- PORST_RELEASE (R41): PORST_N is released: PAIR_ROLE is sampled and sowing begins at stage RESET_EXIT. -/
  | porstRelease (role : Straps)
  /-- WARM_RESET (R39): WARM_N is held low while PORST_N is high: a restart that keeps the always-on domain and the locked PLLs. -/
  | warmReset
  /-- CP_RESTART (R39): A write to CP_RESTART starts a restart of the kind in KIND, from the NOR slots or from a host image as SOURCE selects; during a power-fail save the restart is held until the commit. -/
  | cpRestart (master : Fin 16) (kind : Fin 4) (fromHost : Bool)
  /-- RESET_EXIT (R41): PLL lock, SEC oscillator start and fuse sensing complete, and stage SECURITY_ROM begins. -/
  | resetExit
  /-- SECURITY_ROM (R41): The security ROM reads the life-cycle state, completes any pending life-cycle transition and makes the first measurement entry. -/
  | securityRom
  /-- NVM_BRINGUP (R41): The xSPI devices are identified and switched to octal DTR, the retention devices are probed and the PCIe endpoint is enabled. -/
  | nvmBringup (nor0 : Byte) (nor1 : Byte) (ret0 : Byte) (ret1 : Byte) (storeOk : Bool)
  /-- NOR_IDENT_TIMEOUT (R45): A NOR device does not answer its identification read within 1 ms, and its slot fails with E_TIMEOUT. -/
  | norIdentTimeout (device : Fin 2)
  /-- SDRAM_INIT (R41): SDRAM training and ECC initialisation of the lowest 1 GiB complete. -/
  | sdramInit (sizeGib : Nat)
  /-- SDRAM_ECC_INIT_COMPLETE (R42): Background ECC initialisation of the rest of the fitted SDRAM completes, and ECC_DONE is set. -/
  | sdramEccInitComplete
  /-- SLOT_READ (R54): A slot or host image has been streamed to the SDRAM staging area, and its checks of R54 begin. -/
  | slotRead
  /-- VERIFY (R54): The header, check word, binding, rollback, signatures and directory are checked; the first failure fails the slot and the next slot is tried. -/
  | verify (imageSig : Computed) (secSig : Computed) (stewardSig : Computed)
  /-- FIRMWARE_START (R61): The security and steward firmware start, the measurement chain closes and the BOUND keys are derived. -/
  | firmwareStart
  /-- UNPACK (R56): The sections are checked and unpacked in their fixed order, including the REG_PRESET writes. -/
  | unpack
  /-- RESTORE (R67): The retained record is chosen and applied, the furrows are seeded or restored, the loop engines start, the configuration is committed and the pass timer starts. -/
  | restore
  /-- CHECKPOINT_DUE (R64): CHECKPOINT_S has elapsed, and the warm set is captured at the next headland for writing in the background. -/
  | checkpointDue
  /-- CHECKPOINT_WRITE_COMPLETE (R64): A checkpoint record and its commit word have been written to the alternate checkpoint area. -/
  | checkpointWriteComplete
  /-- PWR_WARN_ASSERT (R65): PWR_WARN is asserted, and the 20 µs confirmation time starts. -/
  | pwrWarnAssert
  /-- PWR_WARN_GLITCH (R65): PWR_WARN is released before 20 µs: PWR_WARN_GLITCH is set and the glitch is counted. -/
  | pwrWarnGlitch
  /-- PWR_WARN_CONFIRMED (R65): PWR_WARN has stayed asserted for 20 µs: passes stop, outputs go safe or authority is released, metering freezes and the power-fail save begins. -/
  | pwrWarnConfirmed
  /-- POWER_FAIL_SAVE_COMMIT (R65): The save record and its commit word have been written, and STAGE becomes SAVED. -/
  | powerFailSaveCommit
  /-- SAVE_ERROR (R66): A retention device fails or times out during a save: the save ends with SAVE_INCOMPLETE and no commit. -/
  | saveError (capacity : Bool)
  /-- COUNTER_RESERVATION_WRITE (R69): Before any TX_CTR would pass the reservation, the steward writes a new reservation to the always-on domain. -/
  | counterReservationWrite
  /-- COUNTER_RESERVATION_LANDED (R69): The new reservation lands in the always-on domain, and telegrams above the old reservation may be sent. -/
  | counterReservationLanded
  /-- PASS_TIMER_TICK (R21): A pass timer tick starts a pass at the freeze edge: the input image is swapped, PASS_MS is advanced, presence is updated, furrow advance starts, and set-point and CAN objects are taken into the image. -/
  | passTimerTick (gpio : BitVec 64)
  /-- LATE_PASS_START (R252): A tick came before the previous headland ended, and the pass starts when that headland ends; LATE is counted. -/
  | latePassStart (gpio : BitVec 64)
  /-- INPUT_FREEZE_COMPLETE (R220): Input freeze completes, and every running strip starts at ENTRY in its initial core state. -/
  | inputFreezeComplete
  /-- LOGIC_PHASE_END (R235): The last running strip reaches END or halts: output write begins with the output edge, orders are taken, buffers are copied and transmissions are queued. -/
  | logicPhaseEnd
  /-- OUTPUT_WRITE_END (R440): Output write ends and the headland begins: the set-point table is copied, the checkpoint captured and, in a pair, the headland set sent. -/
  | outputWriteEnd
  /-- HEADLAND_END (R24): On the edge that ends the headland, the class-A values, amendments, exchanges, mode requests and publication all take effect together. -/
  | headlandEnd
  /-- PASS_WATCHDOG (R253): The headland of a pass has not ended by t_WD: cores halt, outputs go safe or authority is released, and the mode becomes STOP. -/
  | passWatchdog
  /-- REGISTER_WRITE (R73): A write to a register that has no row of its own is checked for width, alignment, reach, guard and class and then applied or rejected. -/
  | registerWrite (master : Fin 16) (width : Nat) (addr : Nat) (data : Nat)
  /-- REGISTER_WRITE_LAND (R82): A write lands in its block's domain, where class-I values take effect and class-S writes are checked against running state. -/
  | registerWriteLand (off : Nat)
  /-- CROSSING_WRITE_TIMEOUT (R31): A write to a domain whose clock is stopped or absent is discarded after 256 SYS cycles with E_TIMEOUT. -/
  | crossingWriteTimeout (off : Nat)
  /-- CLOCK_STOPPED (R31): The clock monitor finds a domain clock stopped or absent and sets its bits in CP_CLK_STAT; a stopped CLK_REF records F3. -/
  | clockStopped (domain : Fin 12)
  /-- UNLOCK_KEY_WRITE (R81): A write to ACCESS_UNLOCK unlocks the writing master for 4,096 cycles, or with a wrong key re-arms its lock and counts a bad key. -/
  | unlockKeyWrite (master : Fin 16) (key : Word)
  /-- UNLOCK_WINDOW_EXPIRY (R81): A master's unlock window ends, and its lock re-arms. -/
  | unlockWindowExpiry (master : Fin 16)
  /-- SEMAPHORE_ACQUIRE_READ (R85): A full read of ACCESS_SEM_nn acquires a free semaphore or reports BUSY or OWN. -/
  | semaphoreAcquireRead (master : Fin 16) (sem : Fin 32)
  /-- SEMAPHORE_RELEASE (R85): The owner writes RELEASE, and the semaphore becomes free. -/
  | semaphoreRelease (master : Fin 16) (sem : Fin 32)
  /-- SEMAPHORE_FORCE (R86): The steward or PF1 forces a semaphore free through ACCESS_SEM_FORCE, setting ABANDONED. -/
  | semaphoreForce (master : Fin 16) (sem : Fin 32)
  /-- CFG_EDIT (R89): EDIT is set in ACCESS_CFG_CTL, and comparison of the configuration check is suspended. -/
  | cfgEdit (master : Fin 16)
  /-- CFG_COMMIT (R90): COMMIT is written, and the commit waits for the class-A writes pending at that time. -/
  | cfgCommit (master : Fin 16)
  /-- CFG_COMMIT_COMPLETE (R90): The first recomputation after those writes have taken effect becomes ACCESS_CFG_REF, and EDIT and COMMIT clear. -/
  | cfgCommitComplete
  /-- EDIT_EXPIRY (R89): EDIT has stayed at 1 for EDIT_MAX seconds: hardware clears it, sets EDIT_EXPIRED and records F0. -/
  | editExpiry
  /-- CFG_RECOMPUTATION_COMPLETE (R89): A configuration CRC completes and is compared with the reference; a new mismatch sets CFG_MISMATCH and records F1. -/
  | cfgRecomputationComplete
  /-- BAR2_WRITE (R97): A BAR2 write enters the posted-write buffer, or is dropped and counted when the buffer has no room or the target is protected. -/
  | bar2Write (fn : Bool) (offset : Nat) (bytes : List (Option Byte))
  /-- BAR2_READ (R97): A BAR2 read is served from SDRAM through the function's window, with poisoned data on an uncorrectable error. -/
  | bar2Read (fn : Bool) (offset : Nat) (len : Nat)
  /-- BAR2_READ_TIMEOUT (R97): A BAR2 read not served within TMO_MS is withdrawn and completed with Completer Abort. -/
  | bar2ReadTimeout (fn : Bool) (offset : Nat)
  /-- WINDOW_WRITE (R96): A write to HL_WIN_0n moves a function's BAR2 window, affecting the requests received after it. -/
  | windowWrite (fn : Bool) (win : Fin 2) (base : Word)
  /-- MSIX_UNMASK (R100): MSI-X is enabled or a vector unmasked, and a vector with its cause or pending bit set fires once. -/
  | msixUnmask (fn : Bool) (what : MsixTarget)
  /-- PCIE_RESET (R101): PE_PERST_N low, a hot reset or a link down resets configuration space, windows and MSI-X while passes continue. -/
  | pcieReset (cause : PcieResetCause)
  /-- FUNCTION_LEVEL_RESET (R101): An FLR resets one function's configuration space, window and MSI-X state, clears its unlock and releases its semaphores. -/
  | functionLevelReset (fn : Bool)
  /-- D3HOT_ENTRY (R103): A function enters D3hot, answers only configuration requests and signals PM_PME on vector causes. -/
  | d3hotEntry (fn : Bool)
  /-- MAILBOX_POST (R105): A sender posts a word to a word mailbox or queue direction, which is accepted and wakes the receiver or is rejected with E_BUSY. -/
  | mailboxPost (master : Fin 16) (off : Nat) (word : Word)
  /-- MAILBOX_POP (R105): A receiver's full read pops a word, updating FULL or LEVEL and PRE_LEVEL. -/
  | mailboxPop (master : Fin 16) (off : Nat)
  /-- PASS_CORE_WAKE (R106): A gated pass core or security core is powered up by a post or by ungating. -/
  | passCoreWake (core : Option (Fin 4))
  /-- REQUEST_WORDS_TIMEOUT (R111): The words of a request have not all arrived within 10 ms of its header, and the request is discarded with E_TIMEOUT. -/
  | requestWordsTimeout (channel : ReqChannel)
  /-- GROUP_TIMEOUT (R111): An open group is not closed within 100 ms, and it is rejected whole with E_TIMEOUT. -/
  | groupTimeout (channel : ReqChannel)
  /-- ATLAS_WRITE (R133): An amendment writes count atlas records of one table into the candidate bank. -/
  | atlasWrite (channel : ReqChannel)
  /-- ATLAS_CLEAR (R133): An amendment makes a range of atlas records unused. -/
  | atlasClear (channel : ReqChannel)
  /-- ATLAS_SERVICE (R133): An amendment sets IN_SERVICE of pipes, pumps and valves, or AVAILABLE of plants. -/
  | atlasService (channel : ReqChannel)
  /-- ATLAS_REPLACE (R133): An amendment replaces the atlas with a complete ATLAS section. -/
  | atlasReplace (channel : ReqChannel)
  /-- GAZ_WRITE (R135): An amendment writes the H fields of gazetteer entries, creating new entries with counters under R69. -/
  | gazWrite (channel : ReqChannel)
  /-- GAZ_DELETE (R135): An amendment deletes entries: their registers are archived, CLOSE DELETED is sent and the entries become UNUSED. -/
  | gazDelete (channel : ReqChannel)
  /-- GAZ_ADMIT (R304): An amendment admits a waiting-room station to an entry, frees its slot and sends a WELCOME. -/
  | gazAdmit (channel : ReqChannel)
  /-- GAZ_SUBST (R133): An amendment sets the substitution mode, age and values of one entry. -/
  | gazSubst (channel : ReqChannel)
  /-- GAZ_ENABLE (R135): An amendment enables entries to EXPECTED, or disables them with CLOSE DISABLED. -/
  | gazEnable (channel : ReqChannel)
  /-- GAZ_REFUSE (R304): An amendment refuses a waiting-room station with CLOSE REFUSED and frees its slot. -/
  | gazRefuse (channel : ReqChannel)
  /-- EXCH_LOAD (R261): An amendment checks a program, with an optional library, and places it in the spare banks as the staged program. -/
  | exchLoad (channel : ReqChannel)
  /-- EXCH_SWAP (R261): An amendment performs the exchange to the staged program at its applying headland. -/
  | exchSwap (channel : ReqChannel)
  /-- EXCH_REVERT (R265): An amendment exchanges the program in force with the kept program. -/
  | exchRevert (channel : ReqChannel)
  /-- EXCH_DISCARD (R261): An amendment drops the staged program. -/
  | exchDiscard (channel : ReqChannel)
  /-- TARIFF_WRITE (R348): An amendment replaces the tariff schedule from the next launch. -/
  | tariffWrite (channel : ReqChannel)
  /-- GL_DEF_WRITE (R402): An amendment replaces histogram definitions, clearing slices where LO, HI or LOG changes. -/
  | glDefWrite (channel : ReqChannel)
  /-- GL_DEF_CLEAR (R402): An amendment makes histogram definitions unused and clears their slices. -/
  | glDefClear (channel : ReqChannel)
  /-- PROFILE_WRITE (R193): An amendment sets the forecast profile factors of fields from the next launch. -/
  | profileWrite (channel : ReqChannel)
  /-- CAMPAIGN_NOW (R193): An amendment makes a campaign launch due at the first freeze edge after its applying headland or after the campaign in flight. -/
  | campaignNow (channel : ReqChannel)
  /-- NOR_WRITE (R110): A steward command erases and programs a range of a NOR seed slot from the staged payload. -/
  | norWrite (channel : ReqChannel) (failed : Bool)
  /-- NOR_CHECK (R110): A steward command returns the CRC-32C of a range of a NOR seed slot. -/
  | norCheck (channel : ReqChannel)
  /-- ARCH_READ (R414): A telemetry request on QCH_06 copies archive records to the export buffer and replies with their count. -/
  | archRead
  /-- ARCHIVE_ACK (R414): The host writes HR_ARCH_ACK, marking archive records as read so that their sectors may be erased. -/
  | archiveAck (master : Fin 16) (seq : Word)
  /-- SURVEYOR_RESTART (R138): SV_CTL.RESTART restarts a surveyor: its semaphores are released, unassigned fields go to fallback and F1 is recorded. -/
  | surveyorRestart (master : Fin 16) (region : Fin 8)
  /-- SURVEYOR_RESTART_COMPLETE (R138): The surveyor restart completes, and the surveyor resumes with the next work due. -/
  | surveyorRestartComplete (region : Fin 8)
  /-- SNAPSHOT_COMPLETE (R142): The measurement snapshot and profile extraction of a launch are finished in SDRAM. -/
  | snapshotComplete (region : Fin 8)
  /-- FURROW_ADVANCE_COMPLETE (R148): A surveyor's furrow advance finishes, writing outlet temperatures and delays into the furrow summary. -/
  | furrowAdvanceComplete (region : Fin 8)
  /-- PROBLEM_ASSEMBLED (R159): An estimation or optimisation problem of a field is assembled and copied into its lane, and GO is written, or the field goes to fallback. -/
  | problemAssembled (region : Fin 8) (field : Fin 256)
  /-- CAMPAIGN_LAUNCH (R190): A due launch at a freeze edge pins the bank, binds fields to lanes and starts the snapshot, or is skipped and counted. -/
  | campaignLaunch
  /-- LANE_GO (R165): GO lands on a lane, which checks the problem and starts solving, or delivers FORMAT. -/
  | laneGo (master : Fin 16) (lane : Fin 256)
  /-- LANE_ABORT (R185): ABORT ends a running solve with status ABORTED and the result area unchanged. -/
  | laneAbort (master : Fin 16) (lane : Fin 256)
  /-- LANE_RETEST (R188): RETEST starts a lane self-test at once. -/
  | laneRetest (master : Fin 16) (lane : Fin 256)
  /-- LANE_HOLD_OUT (R194): HOLD_OUT puts a lane in OUT at the next headland once its solve has delivered, or returns it. -/
  | laneHoldOut (master : Fin 16) (lane : Fin 256) (hold : Bool)
  /-- LANE_UPDATE_COMPLETE (R175): An interior-point update completes atomically, and the lane tests convergence, the budget, infeasibility and numeric failure. -/
  | laneUpdateComplete (lane : Fin 256)
  /-- LANE_DELIVERY_COMPLETE (R183): A lane finishes writing its result area and delivery record, with SEQ last, and returns to IDLE. -/
  | laneDeliveryComplete (lane : Fin 256)
  /-- WORKSPACE_UNCORRECTABLE (R187): An uncorrectable workspace error ends the solve with FAULT or sets OOS for the lane, and records F1. -/
  | workspaceUncorrectable (lane : Fin 256) (offset : Nat)
  /-- SELF_TEST_COMPLETE (R188): A lane self-test finishes and compares its CRC with the ROM reference, passing or failing the lane. -/
  | selfTestComplete (lane : Fin 256) (wrong : List (Nat × Byte))
  /-- CAMPAIGN_DEADLINE (R184): The deadline expires at the headland of pass k + D − 1 and reaches every lane, which delivers its deadline outcome. -/
  | campaignDeadline
  /-- CONSENSUS_STEP (R199): Every participant of a group has delivered a round: the coordinator updates z, λ and T_fix and either converges or starts the next round. -/
  | consensusStep (first : Fin 256)
  /-- CAMPAIGN_PUBLISH (R203): At the publishing headland the set-point table is written into the images and the SDRAM buffer, and BUF flips. -/
  | campaignPublish
  /-- LD (R222): LA is loaded from a bit operand. -/
  | furLd (core : Fin 4) (x : MemOp)
  /-- LDN (R222): LA is loaded with the inverse of a bit operand. -/
  | furLdn (core : Fin 4) (x : MemOp)
  /-- AND (R222): LA is ANDed with a bit operand. -/
  | furAnd (core : Fin 4) (x : MemOp)
  /-- ANDN (R222): LA is ANDed with the inverse of a bit operand. -/
  | furAndn (core : Fin 4) (x : MemOp)
  /-- OR (R222): LA is ORed with a bit operand. -/
  | furOr (core : Fin 4) (x : MemOp)
  /-- ORN (R222): LA is ORed with the inverse of a bit operand. -/
  | furOrn (core : Fin 4) (x : MemOp)
  /-- XOR (R222): LA is XORed with a bit operand. -/
  | furXor (core : Fin 4) (x : MemOp)
  /-- XORN (R222): LA is XORed with the inverse of a bit operand. -/
  | furXorn (core : Fin 4) (x : MemOp)
  /-- ST (R222): A bit operand is stored from LA. -/
  | furSt (core : Fin 4) (x : MemOp)
  /-- STN (R222): A bit operand is stored from the inverse of LA. -/
  | furStn (core : Fin 4) (x : MemOp)
  /-- SET (R222): A bit operand is set if LA is 1. -/
  | furSet (core : Fin 4) (x : MemOp)
  /-- RST (R222): A bit operand is cleared if LA is 1. -/
  | furRst (core : Fin 4) (x : MemOp)
  /-- PUSH (R223): LA and an operation are pushed on the branch stack. -/
  | furPush (core : Fin 4) (op : BitVec 3)
  /-- POP (R223): The branch stack is popped, and its value is combined with LA. -/
  | furPop (core : Fin 4)
  /-- NOT (R223): LA is inverted. -/
  | furNot (core : Fin 4)
  /-- SETLA (R223): LA is set to 1. -/
  | furSetla (core : Fin 4)
  /-- CLRLA (R223): LA is cleared to 0. -/
  | furClrla (core : Fin 4)
  /-- PEEK (R223): LA is loaded from the top entry of the branch stack, which is kept. -/
  | furPeek (core : Fin 4)
  /-- DROP (R223): The top entry of the branch stack is discarded. -/
  | furDrop (core : Fin 4)
  /-- LW8U (R224): A byte is loaded into W0 or W1, zero-extended. -/
  | furLw8u (core : Fin 4) (toW1 : Bool) (x : MemOp)
  /-- LW8S (R224): A byte is loaded into W0 or W1, sign-extended. -/
  | furLw8s (core : Fin 4) (toW1 : Bool) (x : MemOp)
  /-- LW16U (R224): 16 bits are loaded, zero-extended. -/
  | furLw16u (core : Fin 4) (toW1 : Bool) (x : MemOp)
  /-- LW16S (R224): 16 bits are loaded, sign-extended. -/
  | furLw16s (core : Fin 4) (toW1 : Bool) (x : MemOp)
  /-- LW32U (R224): 32 bits are loaded, zero-extended. -/
  | furLw32u (core : Fin 4) (toW1 : Bool) (x : MemOp)
  /-- LW32S (R224): 32 bits are loaded, sign-extended. -/
  | furLw32s (core : Fin 4) (toW1 : Bool) (x : MemOp)
  /-- LW64 (R224): 64 bits are loaded. -/
  | furLw64 (core : Fin 4) (toW1 : Bool) (x : MemOp)
  /-- LWF32 (R224): An f32 is loaded and converted exactly to binary64. -/
  | furLwf32 (core : Fin 4) (toW1 : Bool) (x : MemOp)
  /-- SW8 (R224): A byte is stored from W0. -/
  | furSw8 (core : Fin 4) (x : MemOp)
  /-- SW16 (R224): 16 bits are stored from W0. -/
  | furSw16 (core : Fin 4) (x : MemOp)
  /-- SW32 (R224): 32 bits are stored from W0. -/
  | furSw32 (core : Fin 4) (x : MemOp)
  /-- SW64 (R224): 64 bits are stored from W0, refreshing the ECC check bits. -/
  | furSw64 (core : Fin 4) (x : MemOp)
  /-- SWF32 (R224): W0 is stored as a rounded f32. -/
  | furSwf32 (core : Fin 4) (x : MemOp)
  /-- LDI (R224): W0 is loaded with a sign-extended 24-bit immediate. -/
  | furLdi (core : Fin 4) (imm : BitVec 24)
  /-- LDI1 (R224): W1 is loaded with a sign-extended 24-bit immediate. -/
  | furLdi1 (core : Fin 4) (imm : BitVec 24)
  /-- LIH (R224): W0[47:24] is loaded with an immediate. -/
  | furLih (core : Fin 4) (imm : BitVec 24)
  /-- LIT (R224): W0[63:48] is loaded with an immediate. -/
  | furLit (core : Fin 4) (imm : BitVec 16)
  /-- SWAP (R224): W0 and W1 are exchanged. -/
  | furSwap (core : Fin 4)
  /-- MOV (R224): W1 is set to W0. -/
  | furMov (core : Fin 4)
  /-- LDB (R224): A base register is loaded with an immediate times 16. -/
  | furLdb (core : Fin 4) (n : BitVec 2) (imm : BitVec 18)
  /-- ADB (R224): W0 is added to a base register, modulo 2²². -/
  | furAdb (core : Fin 4) (n : BitVec 2)
  /-- ADD (R225): Integer W0 + W1, wrapping, with OV. -/
  | furAdd (core : Fin 4)
  /-- SUB (R225): Integer W0 − W1, wrapping, with OV. -/
  | furSub (core : Fin 4)
  /-- MUL (R225): The low 64 bits of W0 × W1. -/
  | furMul (core : Fin 4)
  /-- DIV (R226): Signed division truncated toward zero, with DZ and OV. -/
  | furDiv (core : Fin 4)
  /-- MOD (R226): Signed remainder with the sign of W0. -/
  | furMod (core : Fin 4)
  /-- WORD_AND (R225): Bitwise AND of W0 and W1. -/
  | furWordAnd (core : Fin 4)
  /-- WORD_OR (R225): Bitwise OR of W0 and W1. -/
  | furWordOr (core : Fin 4)
  /-- WORD_XOR (R225): Bitwise XOR of W0 and W1. -/
  | furWordXor (core : Fin 4)
  /-- SHL (R225): W0 is shifted left by W1[5:0]. -/
  | furShl (core : Fin 4)
  /-- SHR (R225): W0 is shifted right logically. -/
  | furShr (core : Fin 4)
  /-- SAR (R225): W0 is shifted right arithmetically. -/
  | furSar (core : Fin 4)
  /-- NEG (R225): W0 is negated. -/
  | furNeg (core : Fin 4)
  /-- ABS (R225): The absolute value of W0. -/
  | furAbs (core : Fin 4)
  /-- MIN (R225): The signed minimum of W0 and W1. -/
  | furMin (core : Fin 4)
  /-- MAX (R225): The signed maximum of W0 and W1. -/
  | furMax (core : Fin 4)
  /-- ADDS (R226): Saturating addition of W0 and W1. -/
  | furAdds (core : Fin 4)
  /-- FADD (R226): binary64 sum. -/
  | furFadd (core : Fin 4)
  /-- FSUB (R226): binary64 difference. -/
  | furFsub (core : Fin 4)
  /-- FMUL (R226): binary64 product. -/
  | furFmul (core : Fin 4)
  /-- FDIV (R226): binary64 quotient. -/
  | furFdiv (core : Fin 4)
  /-- FSQRT (R226): binary64 square root of W0. -/
  | furFsqrt (core : Fin 4)
  /-- FMIN (R226): binary64 minimum. -/
  | furFmin (core : Fin 4)
  /-- FMAX (R226): binary64 maximum. -/
  | furFmax (core : Fin 4)
  /-- FABS (R225): The sign bit of W0 is cleared. -/
  | furFabs (core : Fin 4)
  /-- FNEG (R225): The sign bit of W0 is inverted. -/
  | furFneg (core : Fin 4)
  /-- ITOF (R225): A signed integer is converted to binary64. -/
  | furItof (core : Fin 4)
  /-- FTOI (R226): binary64 is converted to a signed integer, rounding to even and saturating. -/
  | furFtoi (core : Fin 4)
  /-- CMP (R227): A signed integer comparison joined into LA. -/
  | furCmp (core : Fin 4) (join : BitVec 3) (cond : BitVec 3)
  /-- CMPU (R227): An unsigned comparison joined into LA. -/
  | furCmpu (core : Fin 4) (join : BitVec 3) (cond : BitVec 3)
  /-- FCMP (R227): A binary64 comparison joined into LA. -/
  | furFcmp (core : Fin 4) (join : BitVec 3) (cond : BitVec 3)
  /-- LDWB (R227): LA is loaded from a bit of W0. -/
  | furLdwb (core : Fin 4) (n : Fin 64)
  /-- STWB (R227): A bit of W0 is set from LA. -/
  | furStwb (core : Fin 4) (n : Fin 64)
  /-- JMP (R228): Unconditional jump. -/
  | furJmp (core : Fin 4) (disp : BitVec 24)
  /-- JC (R228): Jump if LA is 1. -/
  | furJc (core : Fin 4) (disp : BitVec 24)
  /-- JNC (R228): Jump if LA is 0. -/
  | furJnc (core : Fin 4) (disp : BitVec 24)
  /-- CALL (R228): The return index is pushed, and the core jumps. -/
  | furCall (core : Fin 4) (disp : BitVec 24)
  /-- RET (R228): The return index is popped, and the core continues there. -/
  | furRet (core : Fin 4)
  /-- CALLFB (R259): A function-block instance is called through the KX-310 compatibility path. -/
  | furCallfb (core : Fin 4) (inst : BitVec 14)
  /-- LOOPW (R228): W1 is decremented, and the core jumps if W1 is not zero. -/
  | furLoopw (core : Fin 4) (disp : BitVec 24)
  /-- BAR (R235): The strip arrives at a barrier and waits for its participants. -/
  | furBar (core : Fin 4) (b : Fin 16)
  /-- BARRIER_RELEASE (R235): The last participant arrives, and all waiting strips are released 4 cycles later. -/
  | barrierRelease (b : Fin 16)
  /-- END (R228): The strip ends its pass, ORs its flags into PASS_CORE_STAT and arrives at its remaining barriers. -/
  | furEnd (core : Fin 4)
  /-- NOP (R228): No operation. -/
  | furNop (core : Fin 4)
  /-- TON (R232): On-delay timer evaluation. -/
  | furTon (core : Fin 4) (index : BitVec 13)
  /-- TOF (R232): Off-delay timer evaluation. -/
  | furTof (core : Fin 4) (index : BitVec 13)
  /-- TP (R232): Pulse timer evaluation. -/
  | furTp (core : Fin 4) (index : BitVec 13)
  /-- TRD (R228): Timer Q and ET are read without evaluation. -/
  | furTrd (core : Fin 4) (index : BitVec 13)
  /-- TRS (R228): A timer is reset if LA is 1. -/
  | furTrs (core : Fin 4) (index : BitVec 13)
  /-- CTU (R233): Up-counter evaluation. -/
  | furCtu (core : Fin 4) (index : BitVec 13)
  /-- CTD (R233): Down-counter evaluation. -/
  | furCtd (core : Fin 4) (index : BitVec 13)
  /-- CRS (R228): CV is cleared if LA is 1. -/
  | furCrs (core : Fin 4) (index : BitVec 13)
  /-- CLV (R228): CV is loaded with PV if LA is 1. -/
  | furClv (core : Fin 4) (index : BitVec 13)
  /-- CPV (R228): PV is set from W0, clamped to the i32 range. -/
  | furCpv (core : Fin 4) (index : BitVec 13)
  /-- CRD (R228): CV is read into W0, and LA is set to CV ≥ PV. -/
  | furCrd (core : Fin 4) (index : BitVec 13)
  /-- RTRG (R234): Rising-edge detector evaluation. -/
  | furRtrg (core : Fin 4) (index : BitVec 13)
  /-- FTRG (R234): Falling-edge detector evaluation. -/
  | furFtrg (core : Fin 4) (index : BitVec 13)
  /-- RDR (R236): A pass core reads a register into W0, with read side effects. -/
  | furRdr (core : Fin 4) (reg : BitVec 22)
  /-- WRR (R236): A pass core posts a register write from W0. -/
  | furWrr (core : Fin 4) (reg : BitVec 22)
  /-- HIST (R403): W0 is entered into a Gleaner histogram definition with the pass time. -/
  | furHist (core : Fin 4) (defn : BitVec 10)
  /-- FLG (R228): The flags of the pass are read into W0. -/
  | furFlg (core : Fin 4)
  /-- FLC (R228): The three flags are cleared. -/
  | furFlc (core : Fin 4)
  /-- REQ_RUN (R247): A request for RUN in PASS_MODE_CTL, applied at the next headland. -/
  | reqRun (master : Fin 16)
  /-- REQ_HOLD (R247): A request for HOLD, applied at the next headland. -/
  | reqHold (master : Fin 16)
  /-- REQ_STOP (R247): A request for STOP, applied at the next headland. -/
  | reqStop (master : Fin 16)
  /-- LOOP_TICK (R269): The 125 µs loop tick comes; engines due on it await their feedback, and unstarted samples overrun. -/
  | loopTick
  /-- LOOP_SAMPLE (R270): An engine's feedback is present, and the sample runs the law and the limiter and drives its output. -/
  | loopSample (engine : Fin 32)
  /-- LOOP_START (R277): RUN goes from 0 to 1, and the engine starts bumplessly from its output. -/
  | loopStart (master : Fin 16) (engine : Fin 32)
  /-- LOOP_STOP (R276): RUN is written 0, and the engine stops with its output at its safe value. -/
  | loopStop (master : Fin 16) (engine : Fin 32)
  /-- HOLD_LAW_SET (R281): HOLD_LAW is set, and samples use a frozen copy of the coefficients. -/
  | holdLawSet (master : Fin 16) (engine : Fin 32)
  /-- HOLD_LAW_CLEAR (R281): HOLD_LAW is cleared, and the next sample uses the whole new coefficient set. -/
  | holdLawClear (master : Fin 16) (engine : Fin 32)
  /-- HOLD_LAW_EXPIRY (R281): 16 samples have started with HOLD_LAW set: hardware clears it, sets HOLD_EXPIRED and records F0. -/
  | holdLawExpiry (engine : Fin 32)
  /-- XSP_FRAME (R273): A complete 128-bit external set-point frame arrives and updates words 0 to 7, or a broken frame is discarded. -/
  | xspFrame (frame : Option (BitVec 128))
  /-- XSP_WORD_TIMEOUT (R273): No complete external set-point frame arrives for 250 µs, and the words become invalid. -/
  | xspWordTimeout
  /-- FRAME_RECEIVE (R285): An Ethernet frame passes the MAC checks into the port's receive queue, or is dropped and counted. -/
  | frameReceive (port : Fin 4) (frame : List Byte)
  /-- HELLO (R296): An authentic HELLO is answered with WELCOME, or with CLOSE DISABLED; from an unknown station it enters the waiting room. -/
  | hello (port : Fin 4)
  /-- REPORT (R300): An authentic REPORT in a session updates the entry's inputs, status, order acknowledgement and energy, or is answered with CLOSE NO_SESSION. -/
  | report (port : Fin 4)
  /-- NEIGHBOR_DISCOVERY (R284): Neighbor Discovery and MLD messages for the port's addresses are handled. -/
  | neighborDiscovery (port : Fin 4)
  /-- ECHO_REQUEST (R284): An ICMPv6 Echo Request is answered, up to 10 per second. -/
  | echoRequest (port : Fin 4)
  /-- PTP_MESSAGE (R286): A PTP message is timestamped and handled, disciplining calendar time on the time receiver port. -/
  | ptpMessage (port : PtpInput)
  /-- PPS_EDGE (R429): A PPS_IN rising edge is timestamped and disciplines calendar time. -/
  | ppsEdge (correction : Int)
  /-- WAITING_ROOM_AGE_EXPIRY (R303): A waiting-room slot's LAST_SEEN passes WR_AGE_M minutes, and the slot is freed. -/
  | waitingRoomAgeExpiry (slot : Fin 256)
  /-- PORT_ENABLE (R284): FP_CTL.EN starts or stops a field port. -/
  | portEnable (master : Fin 16) (port : Fin 4) (on : Bool)
  /-- PORT_LINK_DOWN (R308): An enabled port loses its link, recording F1 until it comes up. -/
  | portLinkDown (port : Fin 4) (los : Bool) (absent : Bool)
  /-- PORT_LINK_TIMEOUT (R308): An enabled port's link has not come up within 2 s of EN, recording F1. -/
  | portLinkTimeout (port : Fin 4)
  /-- CHANNEL_ENABLE (R314): CB_CTL.EN 0 → 1 checks the bit timing, clears the counters and starts integration; EN 0 stops the channel. -/
  | channelEnable (master : Fin 16) (channel : Fin 8) (on : Bool)
  /-- INTEGRATION_COMPLETE (R314): 11 recessive bits are seen, and the channel enters ERROR_ACTIVE or MONITORING. -/
  | integrationComplete (channel : Fin 8)
  /-- CAN_FRAME_RECEIVED (R317): A frame received without error is stored in its RX object, with LOST where unread, or counted as unmatched. -/
  | canFrameReceived (channel : Fin 8) (frame : CanFrame)
  /-- CAN_TRANSMIT_END (R321): A transmitted frame ends SENT, NO_ACK or BUS_ERROR, updating TEC, ALONE and bus-off. -/
  | canTransmitEnd (channel : Fin 8) (how : CanTxEnd) (loop : Option Nat)
  /-- TRANSMIT_WINDOW_CLOSE (R320): The transmit window closes TXW_US before the next tick, and queued objects end NOT_SENT. -/
  | transmitWindowClose (channel : Fin 8) (past : Bool)
  /-- BUSOFF_RECOVERY (R322): 128 occurrences of 11 recessive bits clear TEC and REC, and the channel is error active. -/
  | busoffRecovery (channel : Fin 8)
  /-- CHANNEL_SLEEP_REQUEST (R324): SLEEP_REQ ends queued objects with ASLEEP, and the channel sleeps at the next bus idle. -/
  | channelSleepRequest (channel : Fin 8) (past : Bool)
  /-- CHANNEL_WAKE (R324): A dominant level or a matching wake frame wakes a sleeping channel, which then integrates. -/
  | channelWake (channel : Fin 8) (seen : CanWake)
  /-- METER_SAMPLE (R327): A 125 µs metering sample completes, updating channels and meter registers and feeding classification. -/
  | meterSample (adc : List AdcSample)
  /-- RTD_CONVERSION (R330): A 25 ms RTD conversion completes and updates temperatures and enthalpies, or sets OPEN or SHORT. -/
  | rtdConversion (ohms : List (BitVec 64))
  /-- PULSE_EDGE (R331): A counted pulse edge is timestamped and metered as a mass for pulse-fed meters. -/
  | pulseEdge (input : Fin 32) (level : Bool)
  /-- CALIBRATION_STEP (R332): Every CAL_S seconds a channel is calibrated through the spare chain without a gap, or the step fails and records F1. -/
  | calibrationStep (how : CalStep)
  /-- ALIGN (R355): An ALIGN block from the active unit slaves the standby's freeze edge to start its shadow pass. -/
  | align
  /-- ALIVE (R360): An ALIVE block arrives, carrying the partner's AUTH_OUT state and pass count. -/
  | alive (auth : Bool) (pass : Nat)
  /-- LINK_FAILURE (R363): Block lock is lost for 64 blocks or no ALIVE arrives for 100 µs: LINK_UP clears and F1 is recorded. -/
  | linkFailure (lock : BitVec 2)
  /-- HEADLAND_LINK_UP (R363): Both lanes lock and HELLOs have been exchanged, and the link is up again. -/
  | headlandLinkUp
  /-- PAIR_HELLO (R371): A pair HELLO is received, with its role, configuration digest and state checked. -/
  | pairHello (hello : PairHello) (crcOk : Bool)
  /-- PAIR_BLOCKS (R356): A BLOCKS frame of changed 64-byte blocks of one area is staged by the standby. -/
  | pairBlocks (pass : Nat) (seq : Nat) (blocks : List PairBlock) (crcOk : Bool)
  /-- PAIR_WRITE_FRAME (R373): Forwarded amendments and register writes are staged for the standby's headland. -/
  | pairWriteFrame (pass : Nat) (seq : Nat) (writes : List PairWrite) (crcOk : Bool)
  /-- PAIR_DIGEST (R365): An output digest is compared; a mismatch starts triangulation. -/
  | pairDigest (pass : Nat) (seq : Nat) (digest : Nat) (campaign : Option (Nat × Bool)) (crcOk : Bool)
  /-- PAIR_END (R362): END closes a headland set, which is committed when complete or counted as failed. -/
  | pairEnd (pass : Nat) (frames : Nat) (epoch : Nat) (mode : Nat) (crcOk : Bool)
  /-- PAIR_ACK (R362): The standby's acknowledgement lets the active unit clear or keep its change tracking. -/
  | pairAck (pass : Nat) (failed : Bool) (crcOk : Bool)
  /-- TRIANGULATION_COMPLETE (R365): The benchmark, signature and ECC tests of triangulation complete. -/
  | triangulationComplete (wrong : List (Nat × Byte)) (signatures : List (Fin 4))
  /-- PAIR_VERDICT (R366): The triangulation verdicts are resolved into a switchover, a standby fault or an unresolved mismatch. -/
  | pairVerdict (tests : BitVec 3) (crcOk : Bool)
  /-- HANDOVER (R370): The active unit announces that it releases authority at the end of this headland. -/
  | handover (crcOk : Bool)
  /-- PAIR_JOIN_FRAME (R372): A JOIN frame starts, advances or completes the journal and block transfer to a joining unit. -/
  | pairJoinFrame (frame : PairJoin) (crcOk : Bool)
  /-- AUTH_IN_FALL (R368): AUTH_IN falls: a READY standby with the link up takes over at once; otherwise the timed rule starts. -/
  | authInFall
  /-- AUTH_IN_RISE (R368): AUTH_IN rises, and a unit that is not active yields and joins or waits. -/
  | authInRise
  /-- TAKEOVER_WAIT_EXPIRY (R368): The wait of the timed rule ends, and the unit takes over. -/
  | takeoverWaitExpiry
  /-- UNSCHEDULED_FREEZE (R369): The taking unit freezes its own image at an unscheduled edge and starts its own pass grid. -/
  | unscheduledFreeze (gpio : BitVec 64)
  /-- PAIR_YIELD (R367): PAIR_CMD YIELD releases authority at the end of the next headland. -/
  | pairYield (master : Fin 16)
  /-- PAIR_TAKE (R368): PAIR_CMD TAKE lets a FALLOW or WAITING unit take authority. -/
  | pairTake (master : Fin 16)
  /-- PAIR_FALLOW (R367): PAIR_CMD FALLOW makes the unit FALLOW, releasing authority at the next headland end. -/
  | pairFallow (master : Fin 16)
  /-- PAIR_JOIN (R372): PAIR_CMD JOIN starts a FALLOW unit's join. -/
  | pairJoin (master : Fin 16)
  /-- PAIR_CLEAR (R366): PAIR_CMD CLEAR clears UNTRUSTED. -/
  | pairClear (master : Fin 16)
  /-- KS_WRITE (R386): The security core writes a clear key into a slot. -/
  | ksWrite
  /-- KS_UPDATE (R390): A signed update message is checked and its action applied. -/
  | ksUpdate (sigOk : Computed) (tagOk : Computed) (key : Computed)
  /-- KS_DESTROY (R386): A slot is destroyed, and its descendants are invalidated. -/
  | ksDestroy
  /-- KS_REVOKE (R393): A slot is revoked, and it and all its descendants are invalidated on one SEC edge. -/
  | ksRevoke
  /-- KS_STATION (R395): One station's key is revoked, or it is given a new KEY_GEN at the next headland. -/
  | ksStation
  /-- KS_USE (R386): A slot key is used to seal, open, MAC or sign. -/
  | ksUse (tagOk : Computed) (out : Computed)
  /-- KS_PUBLIC (R386): The public keys, the measurement and the owner digest are returned. -/
  | ksPublic
  /-- KS_ATTEST (R396): A signed attestation statement is returned for a nonce. -/
  | ksAttest (signature : Computed)
  /-- KS_LIFECYCLE (R377): A life-cycle transition is carried out, destroying keys and blowing fuses. -/
  | ksLifecycle (cut : Bool)
  /-- KS_COMMAND_TIMEOUT (R385): Word 0 of a key-store command is not followed by word 1 within 10 ms, and is discarded. -/
  | ksCommandTimeout
  /-- KS_STATUS_QUERY (R385): A post to SMBW_00 is answered on SMBW_04 with KS_STAT. -/
  | ksStatusQuery
  /-- DBG_PRESENT (R398): The token in DBG_TOKEN is checked and opens the debug scopes it grants. -/
  | dbgPresent (master : Fin 16) (sigOk : Computed)
  /-- DBG_CLOSE (R398): Every debug scope is closed. -/
  | dbgClose (master : Fin 16)
  /-- DBG_NEW_CHAL (R398): A fresh random challenge is set. -/
  | dbgNewChal (master : Fin 16) (challenge : BitVec 256)
  /-- DEBUG_SCOPE_EXPIRY (R398): NOT_AFTER of the token passes, and the scopes close. -/
  | debugScopeExpiry
  /-- IDCODE (R434): The JTAG IDCODE register is selected. -/
  | idcode
  /-- SAMPLE_PRELOAD (R434): The boundary register is sampled or preloaded. -/
  | samplePreload (sampled : Nat) (preload : Nat)
  /-- EXTEST (R434): Boundary external test, or BYPASS unless boundary scan is open. -/
  | extest
  /-- CLAMP (R434): Outputs are clamped from the boundary register with bypass selected. -/
  | clamp
  /-- HIGHZ (R434): Outputs are placed in high impedance with bypass selected. -/
  | highz
  /-- INTEST (R434): Boundary internal test. -/
  | intest
  /-- JTAG_TOKEN (R398): A token is presented through the TAP token register. -/
  | jtagToken (token : List Byte) (sigOk : Computed)
  /-- JTAG_CHALLENGE (R434): The challenge in force is read through the TAP. -/
  | jtagChallenge
  /-- DEBUG_ACCESS (R434): The debug port of the open scopes is accessed. -/
  | debugAccess
  /-- BYPASS (R434): The 1-bit bypass register is selected. -/
  | bypass
  /-- TAP_RESET (R434): TRST_N resets the TAP and selects IDCODE. -/
  | tapReset
  /-- TIME_SET (R438): SET sends the set registers toward the always-on count and sets TIME_BUSY. -/
  | timeSet (master : Fin 16)
  /-- TIME_SET_LANDED (R32): The time write lands in the always-on count, clearing TIME_BUSY and setting STEPPED on a step. -/
  | timeSetLanded
  /-- GLEANER_FREEZE (R407): FREEZE stops Gleaner writes to SDRAM, holding any roll. -/
  | gleanerFreeze (master : Fin 16)
  /-- GLEANER_UNFREEZE (R407): FREEZE is cleared: the held roll completes and the error queue drains. -/
  | gleanerUnfreeze (master : Fin 16)
  /-- FREEZE_EXPIRY (R407): FREEZE_MAX elapses: hardware clears FREEZE, sets FREEZE_EXPIRED and records F0. -/
  | freezeExpiry
  /-- MINUTE_ROLL (R406): At each UTC minute boundary the minute slices are written and the windows composed. -/
  | minuteRoll
  /-- LOG_RECORD_DRAIN (R410): A report leaves the error queue as a log record in the SDRAM ring, overwriting when full. -/
  | logRecordDrain
  /-- LOG_READ_ADVANCE (R411): The host writes GL_LOG_RD, advancing the read index of the log. -/
  | logReadAdvance (master : Fin 16) (index : Word)
  /-- SCRUB_STEP (R412): The harrow scrubs one unit of memory, writing back corrected data or capturing an uncorrectable error. -/
  | scrubStep (addr : Nat) (found : ScrubFound)
  /-- LANE_TEST_DUE (R413): TEST_S has elapsed, and the next eligible lane's self-test starts at a headland with no campaign in flight. -/
  | laneTestDue
  /-- TELEMETRY_READ (R416): The 1 ms sensor readings update temperatures and supplies and raise temperature faults. -/
  | telemetryRead (temps : List (BitVec 16)) (mv : List (BitVec 16))
  /-- SUPPLY_WINDOW_FAULT (R416): A supply stays outside its window for 100 µs, recording F1 and setting OUT. -/
  | supplyWindowFault (monitor : Fin 20)
  /-- PWR_WARN_RELEASE (R66): PWR_WARN is released while the controller is SAVED after a committed save, and the controller restarts by save recovery. -/
  | pwrWarnRelease
  /-- REGISTER_READ (R74): A full aligned 32-bit or declared 64-bit register read clears RCL fields, latches pair and 96-bit shadows, and logs any rejection. -/
  | registerRead (master : Fin 16) (width : Nat) (addr : Nat)
  /-- POSTED_WRITE_DRAIN (R98): Earlier BAR2 posted writes finish draining into SDRAM, after which a later host mailbox post becomes visible to its receiver. -/
  | postedWriteDrain (fn : Bool) (count : Nat)
  /-- PCIE_LINK_UP (R101): The PCIe link is retrained after PE_PERST_N rises, a hot reset ends or NVM_BRINGUP ends, and LINK_UP is set. -/
  | pcieLinkUp (width : Nat) (speed : Nat)
  /-- D0_ENTRY (R103): A function in D3hot is returned to D0 by a configuration write and answers BAR requests again. -/
  | d0Entry (fn : Bool)
  /-- MSIX_MASK (R100): The driver masks a vector or disables MSI-X, and later rises of its cause set the pending bit instead of sending a message. -/
  | msixMask (fn : Bool) (what : MsixTarget)
  /-- PORT_LINK_UP (R308): An enabled field port's PCS link comes up, and its link-loss F1 ends. -/
  | portLinkUp (port : Fin 4) (anDone : Bool)
  /-- CAN_PROTOCOL_ERROR (R322): A bit, stuff, form, CRC or acknowledgement error, or a protocol exception, is detected on a received frame, and REC, CB_ERR and PEX_SEEN are updated. -/
  | canProtocolError (channel : Fin 8) (kind : CanErr) (step : CanStep)
  /-- CLOCK_RESTORED (R437): A stopped or absent domain clock runs again, and its STOPPED bit in CP_CLK_STAT clears. -/
  | clockRestored (domain : Fin 12)
  /-- PWM_PERIOD_START (R433): The common PWM period starts every 65,536 SYS cycles, and duties written at an output edge or by a loop engine take effect. -/
  | pwmPeriodStart
deriving DecidableEq, Repr

end Sys2Proof
end

