-- ==== Sys2Proof/WellFormed.lean ====
section
/-! DEFINITION. Well-formed commands: the operands that their sender or the hardware around the block can give. -/

namespace Sys2Proof

/-- The bytes that a data length code stands for (R311): up to 8 bytes one for one, then 12 to 64 in a CAN FD frame. -/
def dlcBytes (fdf : Bool) (dlc : Nat) : Nat :=
  if !fdf then min dlc 8 else [0, 1, 2, 3, 4, 5, 6, 7, 8, 12, 16, 20, 24, 32, 48, 64].getD dlc 0

/-- A CAN frame as the bus can carry it: identifier of 11 or 29 bits, DLC of 4 bits, and the data that the DLC names; a
remote frame carries none and is no FD frame. -/
def canFrameOk (f : CanFrame) : Bool :=
  decide (f.id < (if f.ide then 2 ^ 29 else 2 ^ 11)) && decide (f.dlc < 16) && !(f.remote && f.fdf) &&
    f.data.length == (if f.remote then 0 else dlcBytes f.fdf f.dlc)

/-- A block of memory in a BLOCKS frame is 64 bytes (R356). -/
def blockOk (b : PairBlock) : Bool :=
  match b with
  | .bytes _ _ data => data.length == 64
  | _ => true

/-- Fields of format C that the program check admits (R227). -/
def joinOk (join cond : BitVec 3) : Bool := decide (join.toNat ≤ 3) && decide (cond.toNat ≤ 5)

/-- A well-formed command: link widths and speeds of R95, the operand limits of R222 to R227, the channel counts of R327,
R330 and R416, the sizes of R312, R356, R381, R390, R398 and R434, and the SDRAM sizes of R42. -/
def Instr.wf (i : Instr) : Bool :=
  match i with
  | .powerUp _ => true
  | .aonPowerLoss => true
  | .porstAssert => true
  | .porstRelease _ => true
  | .warmReset => true
  | .cpRestart _ _ _ => true
  | .resetExit => true
  | .securityRom => true
  | .nvmBringup _ _ _ _ _ => true
  | .norIdentTimeout _ => true
  | .sdramInit sizeGib => decide (4 ≤ sizeGib) && decide (sizeGib ≤ 16)
  | .sdramEccInitComplete => true
  | .slotRead => true
  | .verify _ _ _ => true
  | .firmwareStart => true
  | .unpack => true
  | .restore => true
  | .checkpointDue => true
  | .checkpointWriteComplete => true
  | .pwrWarnAssert => true
  | .pwrWarnGlitch => true
  | .pwrWarnConfirmed => true
  | .powerFailSaveCommit => true
  | .saveError _ => true
  | .counterReservationWrite => true
  | .counterReservationLanded => true
  | .passTimerTick _ => true
  | .latePassStart _ => true
  | .inputFreezeComplete => true
  | .logicPhaseEnd => true
  | .outputWriteEnd => true
  | .headlandEnd => true
  | .passWatchdog => true
  | .registerWrite _ _ _ _ => true
  | .registerWriteLand _ => true
  | .crossingWriteTimeout _ => true
  | .clockStopped _ => true
  | .unlockKeyWrite _ _ => true
  | .unlockWindowExpiry _ => true
  | .semaphoreAcquireRead _ _ => true
  | .semaphoreRelease _ _ => true
  | .semaphoreForce _ _ => true
  | .cfgEdit _ => true
  | .cfgCommit _ => true
  | .cfgCommitComplete => true
  | .editExpiry => true
  | .cfgRecomputationComplete => true
  | .bar2Write _ offset bytes => decide (1 ≤ bytes.length) && decide (bytes.length ≤ 4096) && decide (offset < 2 ^ 32)
  | .bar2Read _ offset len => decide (1 ≤ len) && decide (len ≤ 4096) && decide (offset < 2 ^ 32)
  | .bar2ReadTimeout _ _ => true
  | .windowWrite _ _ _ => true
  | .msixUnmask _ _ => true
  | .pcieReset _ => true
  | .functionLevelReset _ => true
  | .d3hotEntry _ => true
  | .mailboxPost _ _ _ => true
  | .mailboxPop _ _ => true
  | .passCoreWake _ => true
  | .requestWordsTimeout _ => true
  | .groupTimeout _ => true
  | .atlasWrite _ => true
  | .atlasClear _ => true
  | .atlasService _ => true
  | .atlasReplace _ => true
  | .gazWrite _ => true
  | .gazDelete _ => true
  | .gazAdmit _ => true
  | .gazSubst _ => true
  | .gazEnable _ => true
  | .gazRefuse _ => true
  | .exchLoad _ => true
  | .exchSwap _ => true
  | .exchRevert _ => true
  | .exchDiscard _ => true
  | .tariffWrite _ => true
  | .glDefWrite _ => true
  | .glDefClear _ => true
  | .profileWrite _ => true
  | .campaignNow _ => true
  | .norWrite _ _ => true
  | .norCheck _ => true
  | .archRead => true
  | .archiveAck _ _ => true
  | .surveyorRestart _ _ => true
  | .surveyorRestartComplete _ => true
  | .snapshotComplete _ => true
  | .furrowAdvanceComplete _ => true
  | .problemAssembled _ _ => true
  | .campaignLaunch => true
  | .laneGo _ _ => true
  | .laneAbort _ _ => true
  | .laneRetest _ _ => true
  | .laneHoldOut _ _ _ => true
  | .laneUpdateComplete _ => true
  | .laneDeliveryComplete _ => true
  | .workspaceUncorrectable _ _ => true
  | .selfTestComplete _ _ => true
  | .campaignDeadline => true
  | .consensusStep _ => true
  | .campaignPublish => true
  | .furLd _ _ => true
  | .furLdn _ _ => true
  | .furAnd _ _ => true
  | .furAndn _ _ => true
  | .furOr _ _ => true
  | .furOrn _ _ => true
  | .furXor _ _ => true
  | .furXorn _ _ => true
  | .furSt _ _ => true
  | .furStn _ _ => true
  | .furSet _ _ => true
  | .furRst _ _ => true
  | .furPush _ op => decide (op.toNat ≤ 6)
  | .furPop _ => true
  | .furNot _ => true
  | .furSetla _ => true
  | .furClrla _ => true
  | .furPeek _ => true
  | .furDrop _ => true
  | .furLw8u _ _ _ => true
  | .furLw8s _ _ _ => true
  | .furLw16u _ _ _ => true
  | .furLw16s _ _ _ => true
  | .furLw32u _ _ _ => true
  | .furLw32s _ _ _ => true
  | .furLw64 _ _ _ => true
  | .furLwf32 _ _ _ => true
  | .furSw8 _ _ => true
  | .furSw16 _ _ => true
  | .furSw32 _ _ => true
  | .furSw64 _ _ => true
  | .furSwf32 _ _ => true
  | .furLdi _ _ => true
  | .furLdi1 _ _ => true
  | .furLih _ _ => true
  | .furLit _ _ => true
  | .furSwap _ => true
  | .furMov _ => true
  | .furLdb _ n _ => decide (n ≠ 0)
  | .furAdb _ n => decide (n ≠ 0)
  | .furAdd _ => true
  | .furSub _ => true
  | .furMul _ => true
  | .furDiv _ => true
  | .furMod _ => true
  | .furWordAnd _ => true
  | .furWordOr _ => true
  | .furWordXor _ => true
  | .furShl _ => true
  | .furShr _ => true
  | .furSar _ => true
  | .furNeg _ => true
  | .furAbs _ => true
  | .furMin _ => true
  | .furMax _ => true
  | .furAdds _ => true
  | .furFadd _ => true
  | .furFsub _ => true
  | .furFmul _ => true
  | .furFdiv _ => true
  | .furFsqrt _ => true
  | .furFmin _ => true
  | .furFmax _ => true
  | .furFabs _ => true
  | .furFneg _ => true
  | .furItof _ => true
  | .furFtoi _ => true
  | .furCmp _ join cond => joinOk join cond
  | .furCmpu _ join cond => joinOk join cond
  | .furFcmp _ join cond => joinOk join cond
  | .furLdwb _ _ => true
  | .furStwb _ _ => true
  | .furJmp _ _ => true
  | .furJc _ _ => true
  | .furJnc _ _ => true
  | .furCall _ _ => true
  | .furRet _ => true
  | .furCallfb _ _ => true
  | .furLoopw _ _ => true
  | .furBar _ _ => true
  | .barrierRelease _ => true
  | .furEnd _ => true
  | .furNop _ => true
  | .furTon _ _ => true
  | .furTof _ _ => true
  | .furTp _ _ => true
  | .furTrd _ _ => true
  | .furTrs _ _ => true
  | .furCtu _ _ => true
  | .furCtd _ _ => true
  | .furCrs _ _ => true
  | .furClv _ _ => true
  | .furCpv _ _ => true
  | .furCrd _ _ => true
  | .furRtrg _ _ => true
  | .furFtrg _ _ => true
  | .furRdr _ _ => true
  | .furWrr _ _ => true
  | .furHist _ _ => true
  | .furFlg _ => true
  | .furFlc _ => true
  | .reqRun _ => true
  | .reqHold _ => true
  | .reqStop _ => true
  | .loopTick => true
  | .loopSample _ => true
  | .loopStart _ _ => true
  | .loopStop _ _ => true
  | .holdLawSet _ _ => true
  | .holdLawClear _ _ => true
  | .holdLawExpiry _ => true
  | .xspFrame _ => true
  | .xspWordTimeout => true
  | .frameReceive _ frame => decide (frame.length < 65536)
  | .hello _ => true
  | .report _ => true
  | .neighborDiscovery _ => true
  | .echoRequest _ => true
  | .ptpMessage port => decide (port.correction.natAbs ≤ 1200000000)
  | .ppsEdge _ => true
  | .waitingRoomAgeExpiry _ => true
  | .portEnable _ _ _ => true
  | .portLinkDown _ _ _ => true
  | .portLinkTimeout _ => true
  | .channelEnable _ _ _ => true
  | .integrationComplete _ => true
  | .canFrameReceived _ frame => canFrameOk frame
  | .canTransmitEnd _ _ _ => true
  | .transmitWindowClose _ _ => true
  | .busoffRecovery _ => true
  | .channelSleepRequest _ _ => true
  | .channelWake _ seen => (match seen with | .dominant => true | .frame f => canFrameOk f)
  | .meterSample adc => adc.length == 32
  | .rtdConversion ohms => ohms.length == 16
  | .pulseEdge _ _ => true
  | .calibrationStep _ => true
  | .align => true
  | .alive _ _ => true
  | .linkFailure _ => true
  | .headlandLinkUp => true
  | .pairHello _ _ => true
  | .pairBlocks _ _ blocks _ => blocks.all blockOk
  | .pairWriteFrame _ _ _ _ => true
  | .pairDigest _ _ _ _ _ => true
  | .pairEnd _ _ _ _ _ => true
  | .pairAck _ _ _ => true
  | .triangulationComplete _ _ => true
  | .pairVerdict _ _ => true
  | .handover _ => true
  | .pairJoinFrame frame _ => (match frame with | .blocks xs => xs.all blockOk | _ => true)
  | .authInFall => true
  | .authInRise => true
  | .takeoverWaitExpiry => true
  | .unscheduledFreeze _ => true
  | .pairYield _ => true
  | .pairTake _ => true
  | .pairFallow _ => true
  | .pairJoin _ => true
  | .pairClear _ => true
  | .ksWrite => true
  | .ksUpdate _ _ _ => true
  | .ksDestroy => true
  | .ksRevoke => true
  | .ksStation => true
  | .ksUse _ _ => true
  | .ksPublic => true
  | .ksAttest _ => true
  | .ksLifecycle _ => true
  | .ksCommandTimeout => true
  | .ksStatusQuery => true
  | .dbgPresent _ _ => true
  | .dbgClose _ => true
  | .dbgNewChal _ _ => true
  | .debugScopeExpiry => true
  | .idcode => true
  | .samplePreload sampled preload => decide (sampled < 2 ^ 835) && decide (preload < 2 ^ 835)
  | .extest => true
  | .clamp => true
  | .highz => true
  | .intest => true
  | .jtagToken token _ => token.length == 184
  | .jtagChallenge => true
  | .debugAccess => true
  | .bypass => true
  | .tapReset => true
  | .timeSet _ => true
  | .timeSetLanded => true
  | .gleanerFreeze _ => true
  | .gleanerUnfreeze _ => true
  | .freezeExpiry => true
  | .minuteRoll => true
  | .logRecordDrain => true
  | .logReadAdvance _ _ => true
  | .scrubStep _ _ => true
  | .laneTestDue => true
  | .telemetryRead temps mv => temps.length == 12 && mv.length == 20
  | .supplyWindowFault _ => true
  | .pwrWarnRelease => true
  | .registerRead _ _ _ => true
  | .postedWriteDrain _ _ => true
  | .pcieLinkUp width speed => (width == 1 || width == 2 || width == 4) && decide (1 ≤ speed) && decide (speed ≤ 4)
  | .d0Entry _ => true
  | .msixMask _ _ => true
  | .portLinkUp _ _ => true
  | .canProtocolError _ _ _ => true
  | .clockRestored _ => true
  | .pwmPeriodStart => true

end Sys2Proof
end

