-- ==== Sys2Proof/Decode.lean ====
section
/-! DEFINITION. Words and the commands they spell. The rows of spec/opcode_table.json give no bits, so no table word
spells a command. What the spec does encode is the Furrow instruction that a pass core fetches (R221 to R228): the decoder
and the encoder of its 32-bit words. -/

namespace Sys2Proof

/-- The command that a table word spells: no row of the table has bits. -/
def decodeTableWord (nbits w : Nat) : Option Instr :=
  match nbits, w with
  | _, _ => none

/-- The operand of formats B and W (R221). -/
def memOf (a : Nat) : MemOp := ⟨BitVec.ofNat 4 (a / 2 ^ 20), BitVec.ofNat 2 (a / 2 ^ 18), BitVec.ofNat 18 a⟩

/-- The bits of an operand of formats B and W (R221). -/
def memBits (x : MemOp) : Nat := x.area.toNat * 2 ^ 20 + x.base.toNat * 2 ^ 18 + x.off.toNat

/-- Bits that a format leaves 0 must be 0 (R221). -/
def bare (a : Nat) (i : Instr) : Option Instr := if a = 0 then some i else none

/-- A word from its opcode and its bits [23:0] (R221). -/
def word (op a : Nat) : Nat := op * 2 ^ 24 + a

/-- The instruction that a word spells on a pass core (R221 to R228); none for an unassigned opcode, a bit that must be 0,
or a selection that the program check refuses (R241). -/
def decodeFurrow (core : Fin 4) (w : Nat) : Option Instr :=
  let a := w % 2 ^ 24
  match w / 2 ^ 24 with
  | 0x01 => some (.furLd core (memOf a))
  | 0x02 => some (.furLdn core (memOf a))
  | 0x03 => some (.furAnd core (memOf a))
  | 0x04 => some (.furAndn core (memOf a))
  | 0x05 => some (.furOr core (memOf a))
  | 0x06 => some (.furOrn core (memOf a))
  | 0x07 => some (.furXor core (memOf a))
  | 0x08 => some (.furXorn core (memOf a))
  | 0x09 => some (.furSt core (memOf a))
  | 0x0A => some (.furStn core (memOf a))
  | 0x0B => some (.furSet core (memOf a))
  | 0x0C => some (.furRst core (memOf a))
  | 0x10 => if a ≤ 6 then some (.furPush core (BitVec.ofNat 3 a)) else none
  | 0x11 => bare a (.furPop core)
  | 0x12 => bare a (.furNot core)
  | 0x13 => bare a (.furSetla core)
  | 0x14 => bare a (.furClrla core)
  | 0x15 => bare a (.furPeek core)
  | 0x16 => bare a (.furDrop core)
  | 0x20 => some (.furLw8u core false (memOf a))
  | 0x21 => some (.furLw8s core false (memOf a))
  | 0x22 => some (.furLw16u core false (memOf a))
  | 0x23 => some (.furLw16s core false (memOf a))
  | 0x24 => some (.furLw32u core false (memOf a))
  | 0x25 => some (.furLw32s core false (memOf a))
  | 0x26 => some (.furLw64 core false (memOf a))
  | 0x27 => some (.furLwf32 core false (memOf a))
  | 0x28 => some (.furLw8u core true (memOf a))
  | 0x29 => some (.furLw8s core true (memOf a))
  | 0x2A => some (.furLw16u core true (memOf a))
  | 0x2B => some (.furLw16s core true (memOf a))
  | 0x2C => some (.furLw32u core true (memOf a))
  | 0x2D => some (.furLw32s core true (memOf a))
  | 0x2E => some (.furLw64 core true (memOf a))
  | 0x2F => some (.furLwf32 core true (memOf a))
  | 0x30 => some (.furSw8 core (memOf a))
  | 0x31 => some (.furSw16 core (memOf a))
  | 0x32 => some (.furSw32 core (memOf a))
  | 0x33 => some (.furSw64 core (memOf a))
  | 0x34 => some (.furSwf32 core (memOf a))
  | 0x38 => some (.furLdi core (BitVec.ofNat 24 a))
  | 0x39 => some (.furLdi1 core (BitVec.ofNat 24 a))
  | 0x3A => some (.furLih core (BitVec.ofNat 24 a))
  | 0x3B => if a < 2 ^ 16 then some (.furLit core (BitVec.ofNat 16 a)) else none
  | 0x3C => bare a (.furSwap core)
  | 0x3D => bare a (.furMov core)
  | 0x3E => if a < 2 ^ 20 ∧ a / 2 ^ 18 ≠ 0 then some (.furLdb core (BitVec.ofNat 2 (a / 2 ^ 18)) (BitVec.ofNat 18 a)) else none
  | 0x3F => if a < 2 ^ 20 ∧ a / 2 ^ 18 ≠ 0 ∧ a % 2 ^ 18 = 0 then some (.furAdb core (BitVec.ofNat 2 (a / 2 ^ 18))) else none
  | 0x40 => bare a (.furAdd core)
  | 0x41 => bare a (.furSub core)
  | 0x42 => bare a (.furMul core)
  | 0x43 => bare a (.furDiv core)
  | 0x44 => bare a (.furMod core)
  | 0x45 => bare a (.furWordAnd core)
  | 0x46 => bare a (.furWordOr core)
  | 0x47 => bare a (.furWordXor core)
  | 0x48 => bare a (.furShl core)
  | 0x49 => bare a (.furShr core)
  | 0x4A => bare a (.furSar core)
  | 0x4B => bare a (.furNeg core)
  | 0x4C => bare a (.furAbs core)
  | 0x4D => bare a (.furMin core)
  | 0x4E => bare a (.furMax core)
  | 0x4F => bare a (.furAdds core)
  | 0x50 => bare a (.furFadd core)
  | 0x51 => bare a (.furFsub core)
  | 0x52 => bare a (.furFmul core)
  | 0x53 => bare a (.furFdiv core)
  | 0x54 => bare a (.furFsqrt core)
  | 0x55 => bare a (.furFmin core)
  | 0x56 => bare a (.furFmax core)
  | 0x57 => bare a (.furFabs core)
  | 0x58 => bare a (.furFneg core)
  | 0x59 => bare a (.furItof core)
  | 0x5A => bare a (.furFtoi core)
  | 0x60 => if a < 64 ∧ a / 8 ≤ 3 ∧ a % 8 ≤ 5 then some (.furCmp core (BitVec.ofNat 3 (a / 8)) (BitVec.ofNat 3 a)) else none
  | 0x61 => if a < 64 ∧ a / 8 ≤ 3 ∧ a % 8 ≤ 5 then some (.furCmpu core (BitVec.ofNat 3 (a / 8)) (BitVec.ofNat 3 a)) else none
  | 0x62 => if a < 64 ∧ a / 8 ≤ 3 ∧ a % 8 ≤ 5 then some (.furFcmp core (BitVec.ofNat 3 (a / 8)) (BitVec.ofNat 3 a)) else none
  | 0x63 => if h : a < 64 then some (.furLdwb core ⟨a, h⟩) else none
  | 0x64 => if h : a < 64 then some (.furStwb core ⟨a, h⟩) else none
  | 0x70 => some (.furJmp core (BitVec.ofNat 24 a))
  | 0x71 => some (.furJc core (BitVec.ofNat 24 a))
  | 0x72 => some (.furJnc core (BitVec.ofNat 24 a))
  | 0x73 => some (.furCall core (BitVec.ofNat 24 a))
  | 0x74 => bare a (.furRet core)
  | 0x75 => if a < 2 ^ 14 then some (.furCallfb core (BitVec.ofNat 14 a)) else none
  | 0x76 => some (.furLoopw core (BitVec.ofNat 24 a))
  | 0x78 => if h : a < 16 then some (.furBar core ⟨a, h⟩) else none
  | 0x79 => bare a (.furEnd core)
  | 0x7A => bare a (.furNop core)
  | 0x80 => if a < 2 ^ 13 then some (.furTon core (BitVec.ofNat 13 a)) else none
  | 0x81 => if a < 2 ^ 13 then some (.furTof core (BitVec.ofNat 13 a)) else none
  | 0x82 => if a < 2 ^ 13 then some (.furTp core (BitVec.ofNat 13 a)) else none
  | 0x83 => if a < 2 ^ 13 then some (.furTrd core (BitVec.ofNat 13 a)) else none
  | 0x84 => if a < 2 ^ 13 then some (.furTrs core (BitVec.ofNat 13 a)) else none
  | 0x88 => if a < 2 ^ 13 then some (.furCtu core (BitVec.ofNat 13 a)) else none
  | 0x89 => if a < 2 ^ 13 then some (.furCtd core (BitVec.ofNat 13 a)) else none
  | 0x8A => if a < 2 ^ 13 then some (.furCrs core (BitVec.ofNat 13 a)) else none
  | 0x8B => if a < 2 ^ 13 then some (.furClv core (BitVec.ofNat 13 a)) else none
  | 0x8C => if a < 2 ^ 13 then some (.furCpv core (BitVec.ofNat 13 a)) else none
  | 0x8D => if a < 2 ^ 13 then some (.furCrd core (BitVec.ofNat 13 a)) else none
  | 0x90 => if a < 2 ^ 13 then some (.furRtrg core (BitVec.ofNat 13 a)) else none
  | 0x91 => if a < 2 ^ 13 then some (.furFtrg core (BitVec.ofNat 13 a)) else none
  | 0x98 => if a % 4 = 0 then some (.furRdr core (BitVec.ofNat 22 (a / 4))) else none
  | 0x99 => if a % 4 = 0 then some (.furWrr core (BitVec.ofNat 22 (a / 4))) else none
  | 0x9A => if a < 1024 then some (.furHist core (BitVec.ofNat 10 a)) else none
  | 0x9B => bare a (.furFlg core)
  | 0x9C => bare a (.furFlc core)
  | _ => none

/-- The word of a Furrow instruction (R221 to R228); none for the commands that are no Furrow instruction. -/
def encodeFurrow (i : Instr) : Option Nat :=
  match i with
  | .furLd _ x => some (word 0x01 (memBits x))
  | .furLdn _ x => some (word 0x02 (memBits x))
  | .furAnd _ x => some (word 0x03 (memBits x))
  | .furAndn _ x => some (word 0x04 (memBits x))
  | .furOr _ x => some (word 0x05 (memBits x))
  | .furOrn _ x => some (word 0x06 (memBits x))
  | .furXor _ x => some (word 0x07 (memBits x))
  | .furXorn _ x => some (word 0x08 (memBits x))
  | .furSt _ x => some (word 0x09 (memBits x))
  | .furStn _ x => some (word 0x0A (memBits x))
  | .furSet _ x => some (word 0x0B (memBits x))
  | .furRst _ x => some (word 0x0C (memBits x))
  | .furPush _ op => some (word 0x10 op.toNat)
  | .furPop _ => some (word 0x11 0)
  | .furNot _ => some (word 0x12 0)
  | .furSetla _ => some (word 0x13 0)
  | .furClrla _ => some (word 0x14 0)
  | .furPeek _ => some (word 0x15 0)
  | .furDrop _ => some (word 0x16 0)
  | .furLw8u _ w1 x => some (word (if w1 then 0x28 else 0x20) (memBits x))
  | .furLw8s _ w1 x => some (word (if w1 then 0x29 else 0x21) (memBits x))
  | .furLw16u _ w1 x => some (word (if w1 then 0x2A else 0x22) (memBits x))
  | .furLw16s _ w1 x => some (word (if w1 then 0x2B else 0x23) (memBits x))
  | .furLw32u _ w1 x => some (word (if w1 then 0x2C else 0x24) (memBits x))
  | .furLw32s _ w1 x => some (word (if w1 then 0x2D else 0x25) (memBits x))
  | .furLw64 _ w1 x => some (word (if w1 then 0x2E else 0x26) (memBits x))
  | .furLwf32 _ w1 x => some (word (if w1 then 0x2F else 0x27) (memBits x))
  | .furSw8 _ x => some (word 0x30 (memBits x))
  | .furSw16 _ x => some (word 0x31 (memBits x))
  | .furSw32 _ x => some (word 0x32 (memBits x))
  | .furSw64 _ x => some (word 0x33 (memBits x))
  | .furSwf32 _ x => some (word 0x34 (memBits x))
  | .furLdi _ imm => some (word 0x38 imm.toNat)
  | .furLdi1 _ imm => some (word 0x39 imm.toNat)
  | .furLih _ imm => some (word 0x3A imm.toNat)
  | .furLit _ imm => some (word 0x3B imm.toNat)
  | .furSwap _ => some (word 0x3C 0)
  | .furMov _ => some (word 0x3D 0)
  | .furLdb _ n imm => some (word 0x3E (n.toNat * 2 ^ 18 + imm.toNat))
  | .furAdb _ n => some (word 0x3F (n.toNat * 2 ^ 18))
  | .furAdd _ => some (word 0x40 0)
  | .furSub _ => some (word 0x41 0)
  | .furMul _ => some (word 0x42 0)
  | .furDiv _ => some (word 0x43 0)
  | .furMod _ => some (word 0x44 0)
  | .furWordAnd _ => some (word 0x45 0)
  | .furWordOr _ => some (word 0x46 0)
  | .furWordXor _ => some (word 0x47 0)
  | .furShl _ => some (word 0x48 0)
  | .furShr _ => some (word 0x49 0)
  | .furSar _ => some (word 0x4A 0)
  | .furNeg _ => some (word 0x4B 0)
  | .furAbs _ => some (word 0x4C 0)
  | .furMin _ => some (word 0x4D 0)
  | .furMax _ => some (word 0x4E 0)
  | .furAdds _ => some (word 0x4F 0)
  | .furFadd _ => some (word 0x50 0)
  | .furFsub _ => some (word 0x51 0)
  | .furFmul _ => some (word 0x52 0)
  | .furFdiv _ => some (word 0x53 0)
  | .furFsqrt _ => some (word 0x54 0)
  | .furFmin _ => some (word 0x55 0)
  | .furFmax _ => some (word 0x56 0)
  | .furFabs _ => some (word 0x57 0)
  | .furFneg _ => some (word 0x58 0)
  | .furItof _ => some (word 0x59 0)
  | .furFtoi _ => some (word 0x5A 0)
  | .furCmp _ join cond => some (word 0x60 (join.toNat * 8 + cond.toNat))
  | .furCmpu _ join cond => some (word 0x61 (join.toNat * 8 + cond.toNat))
  | .furFcmp _ join cond => some (word 0x62 (join.toNat * 8 + cond.toNat))
  | .furLdwb _ n => some (word 0x63 n.val)
  | .furStwb _ n => some (word 0x64 n.val)
  | .furJmp _ disp => some (word 0x70 disp.toNat)
  | .furJc _ disp => some (word 0x71 disp.toNat)
  | .furJnc _ disp => some (word 0x72 disp.toNat)
  | .furCall _ disp => some (word 0x73 disp.toNat)
  | .furRet _ => some (word 0x74 0)
  | .furCallfb _ inst => some (word 0x75 inst.toNat)
  | .furLoopw _ disp => some (word 0x76 disp.toNat)
  | .furBar _ b => some (word 0x78 b.val)
  | .furEnd _ => some (word 0x79 0)
  | .furNop _ => some (word 0x7A 0)
  | .furTon _ index => some (word 0x80 index.toNat)
  | .furTof _ index => some (word 0x81 index.toNat)
  | .furTp _ index => some (word 0x82 index.toNat)
  | .furTrd _ index => some (word 0x83 index.toNat)
  | .furTrs _ index => some (word 0x84 index.toNat)
  | .furCtu _ index => some (word 0x88 index.toNat)
  | .furCtd _ index => some (word 0x89 index.toNat)
  | .furCrs _ index => some (word 0x8A index.toNat)
  | .furClv _ index => some (word 0x8B index.toNat)
  | .furCpv _ index => some (word 0x8C index.toNat)
  | .furCrd _ index => some (word 0x8D index.toNat)
  | .furRtrg _ index => some (word 0x90 index.toNat)
  | .furFtrg _ index => some (word 0x91 index.toNat)
  | .furRdr _ reg => some (word 0x98 (4 * reg.toNat))
  | .furWrr _ reg => some (word 0x99 (4 * reg.toNat))
  | .furHist _ defn => some (word 0x9A defn.toNat)
  | .furFlg _ => some (word 0x9B 0)
  | .furFlc _ => some (word 0x9C 0)
  | _ => none

/-- The core that a Furrow instruction runs on. -/
def furrowCore (i : Instr) : Option (Fin 4) :=
  match i with
  | .furLd core _ => some core
  | .furLdn core _ => some core
  | .furAnd core _ => some core
  | .furAndn core _ => some core
  | .furOr core _ => some core
  | .furOrn core _ => some core
  | .furXor core _ => some core
  | .furXorn core _ => some core
  | .furSt core _ => some core
  | .furStn core _ => some core
  | .furSet core _ => some core
  | .furRst core _ => some core
  | .furPush core _ => some core
  | .furPop core => some core
  | .furNot core => some core
  | .furSetla core => some core
  | .furClrla core => some core
  | .furPeek core => some core
  | .furDrop core => some core
  | .furLw8u core _ _ => some core
  | .furLw8s core _ _ => some core
  | .furLw16u core _ _ => some core
  | .furLw16s core _ _ => some core
  | .furLw32u core _ _ => some core
  | .furLw32s core _ _ => some core
  | .furLw64 core _ _ => some core
  | .furLwf32 core _ _ => some core
  | .furSw8 core _ => some core
  | .furSw16 core _ => some core
  | .furSw32 core _ => some core
  | .furSw64 core _ => some core
  | .furSwf32 core _ => some core
  | .furLdi core _ => some core
  | .furLdi1 core _ => some core
  | .furLih core _ => some core
  | .furLit core _ => some core
  | .furSwap core => some core
  | .furMov core => some core
  | .furLdb core _ _ => some core
  | .furAdb core _ => some core
  | .furAdd core => some core
  | .furSub core => some core
  | .furMul core => some core
  | .furDiv core => some core
  | .furMod core => some core
  | .furWordAnd core => some core
  | .furWordOr core => some core
  | .furWordXor core => some core
  | .furShl core => some core
  | .furShr core => some core
  | .furSar core => some core
  | .furNeg core => some core
  | .furAbs core => some core
  | .furMin core => some core
  | .furMax core => some core
  | .furAdds core => some core
  | .furFadd core => some core
  | .furFsub core => some core
  | .furFmul core => some core
  | .furFdiv core => some core
  | .furFsqrt core => some core
  | .furFmin core => some core
  | .furFmax core => some core
  | .furFabs core => some core
  | .furFneg core => some core
  | .furItof core => some core
  | .furFtoi core => some core
  | .furCmp core _ _ => some core
  | .furCmpu core _ _ => some core
  | .furFcmp core _ _ => some core
  | .furLdwb core _ => some core
  | .furStwb core _ => some core
  | .furJmp core _ => some core
  | .furJc core _ => some core
  | .furJnc core _ => some core
  | .furCall core _ => some core
  | .furRet core => some core
  | .furCallfb core _ => some core
  | .furLoopw core _ => some core
  | .furBar core _ => some core
  | .furEnd core => some core
  | .furNop core => some core
  | .furTon core _ => some core
  | .furTof core _ => some core
  | .furTp core _ => some core
  | .furTrd core _ => some core
  | .furTrs core _ => some core
  | .furCtu core _ => some core
  | .furCtd core _ => some core
  | .furCrs core _ => some core
  | .furClv core _ => some core
  | .furCpv core _ => some core
  | .furCrd core _ => some core
  | .furRtrg core _ => some core
  | .furFtrg core _ => some core
  | .furRdr core _ => some core
  | .furWrr core _ => some core
  | .furHist core _ => some core
  | .furFlg core => some core
  | .furFlc core => some core
  | _ => none

end Sys2Proof
end

