-- ==== Sys2Proof/Machine/Bits.lean ====
section
/-! DEFINITION. Bit fields, sign extension, byte order and saturation, on natural numbers and words. -/

namespace Sys2Proof.Machine

/-- Bits [hi:lo] of a number, bit 0 least significant (R3). -/
def bitsOf (v hi lo : Nat) : Nat := (v / 2 ^ lo) % 2 ^ (hi + 1 - lo)

/-- Bit n of a number. -/
def bitOf (v n : Nat) : Bool := (v / 2 ^ n) % 2 == 1

/-- The number 1 for true and 0 for false, as a one-bit field reads. -/
def b2n (b : Bool) : Nat := if b then 1 else 0

/-- The value v with bits [hi:lo] replaced by x. -/
def putBits (v hi lo x : Nat) : Nat :=
  (v / 2 ^ (hi + 1)) * 2 ^ (hi + 1) + (x % 2 ^ (hi + 1 - lo)) * 2 ^ lo + v % 2 ^ lo

/-- A w-bit number read as a two's-complement integer. -/
def toSigned (w v : Nat) : Int :=
  if (v % 2 ^ w) * 2 < 2 ^ w then (v % 2 ^ w : Nat) else (v % 2 ^ w : Nat) - (2 ^ w : Nat)

/-- An integer written in w bits of two's complement. -/
def ofSigned (w : Nat) (i : Int) : Nat := (i % (2 ^ w : Nat)).toNat

/-- An integer clamped to the range of a w-bit two's-complement number. -/
def clampSigned (w : Nat) (i : Int) : Int :=
  max (-(2 ^ (w - 1) : Nat)) (min i ((2 ^ (w - 1) : Nat) - 1))

/-- An integer clamped into [lo, hi]. -/
def clampInt (lo hi i : Int) : Int := max lo (min i hi)

/-- A count that saturates at all ones of w bits (R84). -/
def satAdd (w v k : Nat) : Nat := min (v + k) (2 ^ w - 1)

/-- The n bytes of a value, least significant first (R3: little-endian). -/
def leBytes : Nat → Nat → List (BitVec 8)
  | 0, _ => []
  | n + 1, v => BitVec.ofNat 8 v :: leBytes n (v / 256)

/-- The value of bytes given least significant first (R3). -/
def ofLeBytes : List (BitVec 8) → Nat
  | [] => 0
  | b :: bs => b.toNat + 256 * ofLeBytes bs

/-- The value of bytes given most significant first (R3: big-endian on a wire). -/
def ofBeBytes (bs : List (BitVec 8)) : Nat := ofLeBytes bs.reverse

/-- The n bytes of a value, most significant first (R3: big-endian on a wire). -/
def beBytes (n v : Nat) : List (BitVec 8) := (leBytes n v).reverse

/-- One step of a reflected CRC-32C register over one bit (R53: polynomial 0x1EDC_6F41, reflected 0x82F6_3B78). -/
def crcBit (c : Nat) : Nat :=
  if c % 2 == 1 then (c / 2) ^^^ 0x82F63B78 else c / 2

/-- One step of the CRC-32C register over one byte. -/
def crcByte (c : Nat) (b : BitVec 8) : Nat :=
  crcBit (crcBit (crcBit (crcBit (crcBit (crcBit (crcBit (crcBit (c ^^^ b.toNat))))))))

/-- CRC-32C with the parameters of R53. -/
def crc32c (bs : List (BitVec 8)) : Nat := (bs.foldl crcByte 0xFFFFFFFF) ^^^ 0xFFFFFFFF

end Sys2Proof.Machine
end

