-- ==== Sys2Proof/Machine/RegTypes.lean ====
section
/-! DEFINITION. How a register is described: fields, access codes (R6), apply classes (R7), replication and
declared pairs (R73). -/

namespace Sys2Proof.Machine

/-- Access codes of R6 (the markers M, G and C are flags of the register or field). -/
inductive Acc where
  | rw | ro | w1c | w1s | wo | rcl
deriving DecidableEq, Repr

/-- Apply classes of R7; `none` for fields with no configuration effect. -/
inductive App where
  | none | i | a | s
deriving DecidableEq, Repr

/-- One field of a register table (R5). -/
structure FieldDesc where
  hi : Nat
  lo : Nat
  acc : Acc
  app : App
  guarded : Bool
  config : Bool
  reset : Nat
deriving DecidableEq, Repr

/-- Membership of a declared 64-bit pair (R73), of the 96-bit energy words (R343) or of the calendar time words
(R437): `low` latches the shadows that `mid` and `high` return. -/
inductive PairPart where
  | single | low | high | third
deriving DecidableEq, Repr

/-- One register, or one family of replicated registers: its base offset in BAR0, the (count, stride) of each level
of replication, and its fields. -/
structure RegRow where
  base : Nat
  dims : List (Nat × Nat)
  part : PairPart
  masked : Bool
  fields : List FieldDesc
deriving DecidableEq, Repr

/-- A field of one register by its place: the register's BAR0 offset and the bits [hi:lo]. -/
structure Fld where
  off : Nat
  hi : Nat
  lo : Nat
deriving DecidableEq, Repr

end Sys2Proof.Machine
end

