-- ==== Sys2Proof/Machine/Regs.lean ====
section
/-! DEFINITION. The registers of the register tables of spec/: each register's BAR0 offset under its own name, each
field by its place, and one description row per register family, block by block in the order of R33.
Reset entries "Always-on", "Retained", "Fused" and "Strap" stand as 0 here (assumption 5). -/

namespace Sys2Proof.Machine

/-! Registers of spec/02_sowing_and_startup.md -/

/-- CP_BOOT_STAT: BAR0 offset (spec/02_sowing_and_startup). -/
def CP_BOOT_STAT : Nat := 0x2C0100
def CP_BOOT_STAT_SLOT_B_CODE : Fld := ⟨CP_BOOT_STAT, 31, 24⟩
def CP_BOOT_STAT_SLOT_A_CODE : Fld := ⟨CP_BOOT_STAT, 23, 16⟩
def CP_BOOT_STAT_RESTART_KIND : Fld := ⟨CP_BOOT_STAT, 9, 8⟩
def CP_BOOT_STAT_SEED_DEFAULTED : Fld := ⟨CP_BOOT_STAT, 6, 6⟩
def CP_BOOT_STAT_SLOT_USED : Fld := ⟨CP_BOOT_STAT, 5, 4⟩
def CP_BOOT_STAT_STAGE : Fld := ⟨CP_BOOT_STAT, 3, 0⟩

/-- CP_BOOT_DETAIL_A: BAR0 offset (spec/02_sowing_and_startup). -/
def CP_BOOT_DETAIL_A : Nat := 0x2C0104
def CP_BOOT_DETAIL_A_SECTION_CODE : Fld := ⟨CP_BOOT_DETAIL_A, 23, 16⟩
def CP_BOOT_DETAIL_A_SECTION : Fld := ⟨CP_BOOT_DETAIL_A, 15, 0⟩

/-- CP_BOOT_DETAIL_B: BAR0 offset (spec/02_sowing_and_startup). -/
def CP_BOOT_DETAIL_B : Nat := 0x2C0108
def CP_BOOT_DETAIL_B_SECTION_CODE : Fld := ⟨CP_BOOT_DETAIL_B, 23, 16⟩
def CP_BOOT_DETAIL_B_SECTION : Fld := ⟨CP_BOOT_DETAIL_B, 15, 0⟩

/-- CP_BOOT_TIME: BAR0 offset (spec/02_sowing_and_startup). -/
def CP_BOOT_TIME : Nat := 0x2C010C
def CP_BOOT_TIME_FIRST_PASS_US : Fld := ⟨CP_BOOT_TIME, 31, 0⟩

/-- CP_SEED_SEQ_LO: BAR0 offset (spec/02_sowing_and_startup). -/
def CP_SEED_SEQ_LO : Nat := 0x2C0110
def CP_SEED_SEQ_LO_SEQUENCE : Fld := ⟨CP_SEED_SEQ_LO, 31, 0⟩

/-- CP_SEED_SEQ_HI: BAR0 offset (spec/02_sowing_and_startup). -/
def CP_SEED_SEQ_HI : Nat := 0x2C0114
def CP_SEED_SEQ_HI_SEQUENCE : Fld := ⟨CP_SEED_SEQ_HI, 31, 0⟩

/-- CP_RESTART: BAR0 offset (spec/02_sowing_and_startup). -/
def CP_RESTART : Nat := 0x2C0118
def CP_RESTART_SOURCE : Fld := ⟨CP_RESTART, 2, 2⟩
def CP_RESTART_KIND : Fld := ⟨CP_RESTART, 1, 0⟩

/-- CP_HOST_IMG: BAR0 offset (spec/02_sowing_and_startup). -/
def CP_HOST_IMG : Nat := 0x2C011C
def CP_HOST_IMG_BASE : Fld := ⟨CP_HOST_IMG, 17, 0⟩

/-- CP_HOST_IMG_LEN: BAR0 offset (spec/02_sowing_and_startup). -/
def CP_HOST_IMG_LEN : Nat := 0x2C0120
def CP_HOST_IMG_LEN_LENGTH : Fld := ⟨CP_HOST_IMG_LEN, 26, 0⟩

/-- CP_RETAIN_CFG: BAR0 offset (spec/02_sowing_and_startup). -/
def CP_RETAIN_CFG : Nat := 0x2C0124
def CP_RETAIN_CFG_FURROW_MAX_AGE : Fld := ⟨CP_RETAIN_CFG, 19, 8⟩
def CP_RETAIN_CFG_CHECKPOINT_S : Fld := ⟨CP_RETAIN_CFG, 7, 2⟩
def CP_RETAIN_CFG_MODE : Fld := ⟨CP_RETAIN_CFG, 1, 0⟩

/-- CP_RETAIN_STAT: BAR0 offset (spec/02_sowing_and_startup). -/
def CP_RETAIN_STAT : Nat := 0x2C0128
def CP_RETAIN_STAT_LAST_SAVE_CODE : Fld := ⟨CP_RETAIN_STAT, 15, 8⟩
def CP_RETAIN_STAT_FULL_FITS : Fld := ⟨CP_RETAIN_STAT, 2, 2⟩
def CP_RETAIN_STAT_RET_PRESENT : Fld := ⟨CP_RETAIN_STAT, 1, 0⟩

/-- CP_RETAIN_FLAGS: BAR0 offset (spec/02_sowing_and_startup). -/
def CP_RETAIN_FLAGS : Nat := 0x2C012C
def CP_RETAIN_FLAGS_PWR_WARN_GLITCH : Fld := ⟨CP_RETAIN_FLAGS, 5, 5⟩
def CP_RETAIN_FLAGS_RETAIN_REDUCED : Fld := ⟨CP_RETAIN_FLAGS, 4, 4⟩
def CP_RETAIN_FLAGS_ARCHIVED : Fld := ⟨CP_RETAIN_FLAGS, 3, 3⟩
def CP_RETAIN_FLAGS_SAVE_INCOMPLETE : Fld := ⟨CP_RETAIN_FLAGS, 2, 2⟩
def CP_RETAIN_FLAGS_WARM_REJECTED : Fld := ⟨CP_RETAIN_FLAGS, 1, 1⟩
def CP_RETAIN_FLAGS_ENERGY_GAP : Fld := ⟨CP_RETAIN_FLAGS, 0, 0⟩

/-- CP_SAVE_SIZE: BAR0 offset (spec/02_sowing_and_startup). -/
def CP_SAVE_SIZE : Nat := 0x2C0130
def CP_SAVE_SIZE_FULL_KIB : Fld := ⟨CP_SAVE_SIZE, 27, 12⟩
def CP_SAVE_SIZE_WARM_KIB : Fld := ⟨CP_SAVE_SIZE, 11, 0⟩

/-- CP_HOLDUP: BAR0 offset (spec/02_sowing_and_startup). -/
def CP_HOLDUP : Nat := 0x2C0134
def CP_HOLDUP_HOLDUP_US : Fld := ⟨CP_HOLDUP, 23, 0⟩

/-- CP_CTR_RESERVE_LO: BAR0 offset (spec/02_sowing_and_startup). -/
def CP_CTR_RESERVE_LO : Nat := 0x2C0138
def CP_CTR_RESERVE_LO_RESERVE : Fld := ⟨CP_CTR_RESERVE_LO, 31, 0⟩

/-- CP_CTR_RESERVE_HI: BAR0 offset (spec/02_sowing_and_startup). -/
def CP_CTR_RESERVE_HI : Nat := 0x2C013C
def CP_CTR_RESERVE_HI_VALID : Fld := ⟨CP_CTR_RESERVE_HI, 31, 31⟩
def CP_CTR_RESERVE_HI_RESERVE : Fld := ⟨CP_CTR_RESERVE_HI, 30, 0⟩

/-! Registers of spec/03_register_discipline.md -/

/-- GLOBAL_ID: BAR0 offset (spec/03_register_discipline). -/
def GLOBAL_ID : Nat := 0x0
def GLOBAL_ID_PART : Fld := ⟨GLOBAL_ID, 31, 16⟩
def GLOBAL_ID_STEPPING : Fld := ⟨GLOBAL_ID, 15, 8⟩
def GLOBAL_ID_MAP : Fld := ⟨GLOBAL_ID, 7, 0⟩

/-- GLOBAL_UID_LO: BAR0 offset (spec/03_register_discipline). -/
def GLOBAL_UID_LO : Nat := 0x8
def GLOBAL_UID_LO_UID : Fld := ⟨GLOBAL_UID_LO, 31, 0⟩

/-- GLOBAL_UID_HI: BAR0 offset (spec/03_register_discipline). -/
def GLOBAL_UID_HI : Nat := 0xC
def GLOBAL_UID_HI_UID : Fld := ⟨GLOBAL_UID_HI, 31, 0⟩

/-- GLOBAL_PASS_CNT_LO: BAR0 offset (spec/03_register_discipline). -/
def GLOBAL_PASS_CNT_LO : Nat := 0x10
def GLOBAL_PASS_CNT_LO_PASSES : Fld := ⟨GLOBAL_PASS_CNT_LO, 31, 0⟩

/-- GLOBAL_PASS_CNT_HI: BAR0 offset (spec/03_register_discipline). -/
def GLOBAL_PASS_CNT_HI : Nat := 0x14
def GLOBAL_PASS_CNT_HI_PASSES : Fld := ⟨GLOBAL_PASS_CNT_HI, 31, 0⟩

/-- GLOBAL_MODE: BAR0 offset (spec/03_register_discipline). -/
def GLOBAL_MODE : Nat := 0x20
def GLOBAL_MODE_AUTH : Fld := ⟨GLOBAL_MODE, 4, 4⟩
def GLOBAL_MODE_ROLE : Fld := ⟨GLOBAL_MODE, 2, 2⟩
def GLOBAL_MODE_MODE : Fld := ⟨GLOBAL_MODE, 1, 0⟩

/-- GLOBAL_FAULT_STAT: BAR0 offset (spec/03_register_discipline). -/
def GLOBAL_FAULT_STAT : Nat := 0x30
def GLOBAL_FAULT_STAT_ACTIVE : Fld := ⟨GLOBAL_FAULT_STAT, 11, 8⟩
def GLOBAL_FAULT_STAT_SEEN : Fld := ⟨GLOBAL_FAULT_STAT, 3, 0⟩

/-- GLOBAL_FAULT_CNT: BAR0 offset (spec/03_register_discipline). -/
def GLOBAL_FAULT_CNT : Nat := 0x34
def GLOBAL_FAULT_CNT_COUNT : Fld := ⟨GLOBAL_FAULT_CNT, 31, 0⟩

/-- GLOBAL_FAULT_LAST: BAR0 offset (spec/03_register_discipline). -/
def GLOBAL_FAULT_LAST : Nat := 0x38
def GLOBAL_FAULT_LAST_CODE : Fld := ⟨GLOBAL_FAULT_LAST, 23, 16⟩
def GLOBAL_FAULT_LAST_SOURCE : Fld := ⟨GLOBAL_FAULT_LAST, 12, 8⟩
def GLOBAL_FAULT_LAST_CLASS : Fld := ⟨GLOBAL_FAULT_LAST, 1, 0⟩

/-- GLOBAL_APPLY_PEND: BAR0 offset (spec/03_register_discipline). -/
def GLOBAL_APPLY_PEND : Nat := 0x40
def GLOBAL_APPLY_PEND_PEND : Fld := ⟨GLOBAL_APPLY_PEND, 16, 0⟩

/-- GLOBAL_SCRATCH: BAR0 offset (spec/03_register_discipline). -/
def GLOBAL_SCRATCH : Nat := 0x50
def GLOBAL_SCRATCH_SCRATCH : Fld := ⟨GLOBAL_SCRATCH, 31, 0⟩

/-- ACCESS_UNLOCK: BAR0 offset (spec/03_register_discipline). -/
def ACCESS_UNLOCK : Nat := 0x10000
def ACCESS_UNLOCK_KEY : Fld := ⟨ACCESS_UNLOCK, 31, 0⟩

/-- ACCESS_UNLOCK_STAT: BAR0 offset (spec/03_register_discipline). -/
def ACCESS_UNLOCK_STAT : Nat := 0x10004
def ACCESS_UNLOCK_STAT_BAD_KEYS : Fld := ⟨ACCESS_UNLOCK_STAT, 31, 16⟩
def ACCESS_UNLOCK_STAT_LAST_BAD : Fld := ⟨ACCESS_UNLOCK_STAT, 15, 12⟩
def ACCESS_UNLOCK_STAT_UNLOCKED : Fld := ⟨ACCESS_UNLOCK_STAT, 0, 0⟩

/-- ACCESS_CFG_CTL: BAR0 offset (spec/03_register_discipline). -/
def ACCESS_CFG_CTL : Nat := 0x10010
def ACCESS_CFG_CTL_EDIT_MAX : Fld := ⟨ACCESS_CFG_CTL, 15, 8⟩
def ACCESS_CFG_CTL_COMMIT : Fld := ⟨ACCESS_CFG_CTL, 1, 1⟩
def ACCESS_CFG_CTL_EDIT : Fld := ⟨ACCESS_CFG_CTL, 0, 0⟩

/-- ACCESS_CFG_REF: BAR0 offset (spec/03_register_discipline). -/
def ACCESS_CFG_REF : Nat := 0x10014
def ACCESS_CFG_REF_REF : Fld := ⟨ACCESS_CFG_REF, 31, 0⟩

/-- ACCESS_CFG_CRC: BAR0 offset (spec/03_register_discipline). -/
def ACCESS_CFG_CRC : Nat := 0x10018
def ACCESS_CFG_CRC_CRC : Fld := ⟨ACCESS_CFG_CRC, 31, 0⟩

/-- ACCESS_CFG_STAT: BAR0 offset (spec/03_register_discipline). -/
def ACCESS_CFG_STAT : Nat := 0x1001C
def ACCESS_CFG_STAT_EDIT_EXPIRED : Fld := ⟨ACCESS_CFG_STAT, 2, 2⟩
def ACCESS_CFG_STAT_CFG_MISMATCH : Fld := ⟨ACCESS_CFG_STAT, 1, 1⟩
def ACCESS_CFG_STAT_MISMATCH_LIVE : Fld := ⟨ACCESS_CFG_STAT, 0, 0⟩

/-- ACCESS_ERR: BAR0 offset (spec/03_register_discipline). -/
def ACCESS_ERR (n : Nat) : Nat := 0x10100 + 0x4 * n
def ACCESS_ERR_CODE (n : Nat) : Fld := ⟨(ACCESS_ERR n), 31, 24⟩
def ACCESS_ERR_OVERRUN (n : Nat) : Fld := ⟨(ACCESS_ERR n), 23, 23⟩
def ACCESS_ERR_WRITE (n : Nat) : Fld := ⟨(ACCESS_ERR n), 22, 22⟩
def ACCESS_ERR_OFFSET (n : Nat) : Fld := ⟨(ACCESS_ERR n), 21, 0⟩

/-- ACCESS_ERR_CNT: BAR0 offset (spec/03_register_discipline). -/
def ACCESS_ERR_CNT : Nat := 0x10140
def ACCESS_ERR_CNT_COUNT : Fld := ⟨ACCESS_ERR_CNT, 31, 0⟩

/-- ACCESS_SEM: BAR0 offset (spec/03_register_discipline). -/
def ACCESS_SEM (n : Nat) : Nat := 0x10200 + 0x4 * n
def ACCESS_SEM_RELEASE (n : Nat) : Fld := ⟨(ACCESS_SEM n), 16, 16⟩
def ACCESS_SEM_STATE (n : Nat) : Fld := ⟨(ACCESS_SEM n), 9, 8⟩
def ACCESS_SEM_ABANDONED (n : Nat) : Fld := ⟨(ACCESS_SEM n), 4, 4⟩
def ACCESS_SEM_OWNER (n : Nat) : Fld := ⟨(ACCESS_SEM n), 3, 0⟩

/-- ACCESS_SEM_BUSY_CNT: BAR0 offset (spec/03_register_discipline). -/
def ACCESS_SEM_BUSY_CNT : Nat := 0x10280
def ACCESS_SEM_BUSY_CNT_COUNT : Fld := ⟨ACCESS_SEM_BUSY_CNT, 31, 0⟩

/-- ACCESS_SEM_LAST: BAR0 offset (spec/03_register_discipline). -/
def ACCESS_SEM_LAST : Nat := 0x10284
def ACCESS_SEM_LAST_SEM : Fld := ⟨ACCESS_SEM_LAST, 12, 8⟩
def ACCESS_SEM_LAST_LOSER : Fld := ⟨ACCESS_SEM_LAST, 7, 4⟩
def ACCESS_SEM_LAST_OWNER : Fld := ⟨ACCESS_SEM_LAST, 3, 0⟩

/-- ACCESS_SEM_FORCE: BAR0 offset (spec/03_register_discipline). -/
def ACCESS_SEM_FORCE : Nat := 0x10288
def ACCESS_SEM_FORCE_SEM : Fld := ⟨ACCESS_SEM_FORCE, 4, 0⟩

/-! Registers of spec/04_host_link_and_mailboxes.md -/

/-- HL_LINK_STAT: BAR0 offset (spec/04_host_link_and_mailboxes). -/
def HL_LINK_STAT : Nat := 0x2C0400
def HL_LINK_STAT_DOWN_CNT : Fld := ⟨HL_LINK_STAT, 31, 16⟩
def HL_LINK_STAT_LINK_UP : Fld := ⟨HL_LINK_STAT, 8, 8⟩
def HL_LINK_STAT_WIDTH : Fld := ⟨HL_LINK_STAT, 7, 4⟩
def HL_LINK_STAT_SPEED : Fld := ⟨HL_LINK_STAT, 3, 0⟩

/-- HL_WIN: BAR0 offset (spec/04_host_link_and_mailboxes). -/
def HL_WIN (n : Nat) : Nat := 0x2C0404 + 0x4 * n
def HL_WIN_BASE (n : Nat) : Fld := ⟨(HL_WIN n), 3, 0⟩

/-- HL_BAR2_CFG: BAR0 offset (spec/04_host_link_and_mailboxes). -/
def HL_BAR2_CFG : Nat := 0x2C040C
def HL_BAR2_CFG_TMO_MS : Fld := ⟨HL_BAR2_CFG, 5, 0⟩

/-- HL_BAR2_STAT: BAR0 offset (spec/04_host_link_and_mailboxes). -/
def HL_BAR2_STAT : Nat := 0x2C0410
def HL_BAR2_STAT_RD_TIMEOUT : Fld := ⟨HL_BAR2_STAT, 31, 16⟩
def HL_BAR2_STAT_WR_DROP : Fld := ⟨HL_BAR2_STAT, 15, 0⟩

/-- MBW_DATA: BAR0 offset (spec/04_host_link_and_mailboxes). -/
def MBW_DATA (n : Nat) : Nat := 0x20000 + 0x8 * n
def MBW_DATA_WORD (n : Nat) : Fld := ⟨(MBW_DATA n), 31, 0⟩

/-- MBW_STAT: BAR0 offset (spec/04_host_link_and_mailboxes). -/
def MBW_STAT (n : Nat) : Nat := 0x20004 + 0x8 * n
def MBW_STAT_BUSY_CNT (n : Nat) : Fld := ⟨(MBW_STAT n), 31, 16⟩
def MBW_STAT_SENDER_RESET (n : Nat) : Fld := ⟨(MBW_STAT n), 8, 8⟩
def MBW_STAT_PRE_RESET (n : Nat) : Fld := ⟨(MBW_STAT n), 4, 4⟩
def MBW_STAT_FULL (n : Nat) : Fld := ⟨(MBW_STAT n), 0, 0⟩

/-- SMBW_DATA: BAR0 offset (spec/04_host_link_and_mailboxes). -/
def SMBW_DATA (n : Nat) : Nat := 0x30000 + 0x8 * n
def SMBW_DATA_WORD (n : Nat) : Fld := ⟨(SMBW_DATA n), 31, 0⟩

/-- SMBW_STAT: BAR0 offset (spec/04_host_link_and_mailboxes). -/
def SMBW_STAT (n : Nat) : Nat := 0x30004 + 0x8 * n
def SMBW_STAT_BUSY_CNT (n : Nat) : Fld := ⟨(SMBW_STAT n), 31, 16⟩
def SMBW_STAT_SENDER_RESET (n : Nat) : Fld := ⟨(SMBW_STAT n), 8, 8⟩
def SMBW_STAT_PRE_RESET (n : Nat) : Fld := ⟨(SMBW_STAT n), 4, 4⟩
def SMBW_STAT_FULL (n : Nat) : Fld := ⟨(SMBW_STAT n), 0, 0⟩

/-- QCH_XY_DATA: BAR0 offset (spec/04_host_link_and_mailboxes). -/
def QCH_XY_DATA (n : Nat) : Nat := 0x20100 + 0x10 * n
def QCH_XY_DATA_WORD (n : Nat) : Fld := ⟨(QCH_XY_DATA n), 31, 0⟩

/-- QCH_YX_DATA: BAR0 offset (spec/04_host_link_and_mailboxes). -/
def QCH_YX_DATA (n : Nat) : Nat := 0x20104 + 0x10 * n
def QCH_YX_DATA_WORD (n : Nat) : Fld := ⟨(QCH_YX_DATA n), 31, 0⟩

/-- QCH_XY_STAT: BAR0 offset (spec/04_host_link_and_mailboxes). -/
def QCH_XY_STAT (n : Nat) : Nat := 0x20108 + 0x10 * n
def QCH_XY_STAT_BUSY_CNT (n : Nat) : Fld := ⟨(QCH_XY_STAT n), 31, 24⟩
def QCH_XY_STAT_SENDER_RESET (n : Nat) : Fld := ⟨(QCH_XY_STAT n), 16, 16⟩
def QCH_XY_STAT_PRE_LEVEL (n : Nat) : Fld := ⟨(QCH_XY_STAT n), 13, 8⟩
def QCH_XY_STAT_LEVEL (n : Nat) : Fld := ⟨(QCH_XY_STAT n), 5, 0⟩

/-- QCH_YX_STAT: BAR0 offset (spec/04_host_link_and_mailboxes). -/
def QCH_YX_STAT (n : Nat) : Nat := 0x2010C + 0x10 * n
def QCH_YX_STAT_BUSY_CNT (n : Nat) : Fld := ⟨(QCH_YX_STAT n), 31, 24⟩
def QCH_YX_STAT_SENDER_RESET (n : Nat) : Fld := ⟨(QCH_YX_STAT n), 16, 16⟩
def QCH_YX_STAT_PRE_LEVEL (n : Nat) : Fld := ⟨(QCH_YX_STAT n), 13, 8⟩
def QCH_YX_STAT_LEVEL (n : Nat) : Fld := ⟨(QCH_YX_STAT n), 5, 0⟩

/-- SQCH_XY_DATA: BAR0 offset (spec/04_host_link_and_mailboxes). -/
def SQCH_XY_DATA (n : Nat) : Nat := 0x30100 + 0x10 * n
def SQCH_XY_DATA_WORD (n : Nat) : Fld := ⟨(SQCH_XY_DATA n), 31, 0⟩

/-- SQCH_YX_DATA: BAR0 offset (spec/04_host_link_and_mailboxes). -/
def SQCH_YX_DATA (n : Nat) : Nat := 0x30104 + 0x10 * n
def SQCH_YX_DATA_WORD (n : Nat) : Fld := ⟨(SQCH_YX_DATA n), 31, 0⟩

/-- SQCH_XY_STAT: BAR0 offset (spec/04_host_link_and_mailboxes). -/
def SQCH_XY_STAT (n : Nat) : Nat := 0x30108 + 0x10 * n
def SQCH_XY_STAT_BUSY_CNT (n : Nat) : Fld := ⟨(SQCH_XY_STAT n), 31, 24⟩
def SQCH_XY_STAT_SENDER_RESET (n : Nat) : Fld := ⟨(SQCH_XY_STAT n), 16, 16⟩
def SQCH_XY_STAT_PRE_LEVEL (n : Nat) : Fld := ⟨(SQCH_XY_STAT n), 13, 8⟩
def SQCH_XY_STAT_LEVEL (n : Nat) : Fld := ⟨(SQCH_XY_STAT n), 5, 0⟩

/-- SQCH_YX_STAT: BAR0 offset (spec/04_host_link_and_mailboxes). -/
def SQCH_YX_STAT (n : Nat) : Nat := 0x3010C + 0x10 * n
def SQCH_YX_STAT_BUSY_CNT (n : Nat) : Fld := ⟨(SQCH_YX_STAT n), 31, 24⟩
def SQCH_YX_STAT_SENDER_RESET (n : Nat) : Fld := ⟨(SQCH_YX_STAT n), 16, 16⟩
def SQCH_YX_STAT_PRE_LEVEL (n : Nat) : Fld := ⟨(SQCH_YX_STAT n), 13, 8⟩
def SQCH_YX_STAT_LEVEL (n : Nat) : Fld := ⟨(SQCH_YX_STAT n), 5, 0⟩

/-! Registers of spec/05_atlas_and_gazetteer.md -/

/-- ATLAS_STAT: BAR0 offset (spec/05_atlas_and_gazetteer). -/
def ATLAS_STAT : Nat := 0x40000
def ATLAS_STAT_FIELDS : Fld := ⟨ATLAS_STAT, 31, 23⟩
def ATLAS_STAT_LAST_CODE : Fld := ⟨ATLAS_STAT, 15, 8⟩
def ATLAS_STAT_PINNED : Fld := ⟨ATLAS_STAT, 5, 4⟩
def ATLAS_STAT_IN_FORCE : Fld := ⟨ATLAS_STAT, 1, 0⟩

/-- ATLAS_GEN: BAR0 offset (spec/05_atlas_and_gazetteer). -/
def ATLAS_GEN : Nat := 0x40004
def ATLAS_GEN_GEN : Fld := ⟨ATLAS_GEN, 31, 0⟩

/-- ATLAS_REGION: BAR0 offset (spec/05_atlas_and_gazetteer). -/
def ATLAS_REGION (n : Nat) : Nat := 0x40020 + 0x4 * n
def ATLAS_REGION_NODES (n : Nat) : Fld := ⟨(ATLAS_REGION n), 30, 16⟩
def ATLAS_REGION_FIELDS (n : Nat) : Fld := ⟨(ATLAS_REGION n), 5, 0⟩

/-- GAZ_STAT: BAR0 offset (spec/05_atlas_and_gazetteer). -/
def GAZ_STAT : Nat := 0x40100
def GAZ_STAT_ABSENT : Fld := ⟨GAZ_STAT, 30, 16⟩
def GAZ_STAT_USED : Fld := ⟨GAZ_STAT, 14, 0⟩

/-- GAZ_PRESENT: BAR0 offset (spec/05_atlas_and_gazetteer). -/
def GAZ_PRESENT : Nat := 0x40104
def GAZ_PRESENT_LATE : Fld := ⟨GAZ_PRESENT, 30, 16⟩
def GAZ_PRESENT_PRESENT : Fld := ⟨GAZ_PRESENT, 14, 0⟩

/-- GAZ_GEN: BAR0 offset (spec/05_atlas_and_gazetteer). -/
def GAZ_GEN : Nat := 0x40108
def GAZ_GEN_LAST_CODE : Fld := ⟨GAZ_GEN, 31, 24⟩
def GAZ_GEN_GEN : Fld := ⟨GAZ_GEN, 23, 0⟩

/-! Registers of spec/06_surveyors_and_furrows.md -/

/-- SV_CTL: BAR0 offset (spec/06_surveyors_and_furrows). -/
def SV_CTL (n : Nat) : Nat := 0x60000 + 0x2000 * n
def SV_CTL_ASM_EN (n : Nat) : Fld := ⟨(SV_CTL n), 2, 2⟩
def SV_CTL_ADV_EN (n : Nat) : Fld := ⟨(SV_CTL n), 1, 1⟩
def SV_CTL_RESTART (n : Nat) : Fld := ⟨(SV_CTL n), 0, 0⟩

/-- SV_CFG0: BAR0 offset (spec/06_surveyors_and_furrows). -/
def SV_CFG0 (n : Nat) : Nat := 0x60004 + 0x2000 * n
def SV_CFG0_QUAR (n : Nat) : Fld := ⟨(SV_CFG0 n), 15, 12⟩
def SV_CFG0_GROSS_K (n : Nat) : Fld := ⟨(SV_CFG0 n), 11, 8⟩
def SV_CFG0_MERGE_TOL (n : Nat) : Fld := ⟨(SV_CFG0 n), 7, 0⟩

/-- SV_CFG1: BAR0 offset (spec/06_surveyors_and_furrows). -/
def SV_CFG1 (n : Nat) : Nat := 0x60008 + 0x2000 * n
def SV_CFG1_APPROACH (n : Nat) : Fld := ⟨(SV_CFG1 n), 15, 8⟩
def SV_CFG1_Q_CUT (n : Nat) : Fld := ⟨(SV_CFG1 n), 7, 0⟩

/-- SV_CFG2: BAR0 offset (spec/06_surveyors_and_furrows). -/
def SV_CFG2 (n : Nat) : Nat := 0x6000C + 0x2000 * n
def SV_CFG2_Q_LIN (n : Nat) : Fld := ⟨(SV_CFG2 n), 15, 0⟩

/-- SV_STAT: BAR0 offset (spec/06_surveyors_and_furrows). -/
def SV_STAT (n : Nat) : Nat := 0x60010 + 0x2000 * n
def SV_STAT_UC_MAJOR (n : Nat) : Fld := ⟨(SV_STAT n), 31, 16⟩
def SV_STAT_ASM_BUSY (n : Nat) : Fld := ⟨(SV_STAT n), 2, 2⟩
def SV_STAT_ADV_BUSY (n : Nat) : Fld := ⟨(SV_STAT n), 1, 1⟩
def SV_STAT_SNAP_BUSY (n : Nat) : Fld := ⟨(SV_STAT n), 0, 0⟩

/-- SV_ADV_PASS: BAR0 offset (spec/06_surveyors_and_furrows). -/
def SV_ADV_PASS (n : Nat) : Nat := 0x60014 + 0x2000 * n
def SV_ADV_PASS_ADV_PASS (n : Nat) : Fld := ⟨(SV_ADV_PASS n), 31, 0⟩

/-- SV_ADV_TIME: BAR0 offset (spec/06_surveyors_and_furrows). -/
def SV_ADV_TIME (n : Nat) : Nat := 0x60018 + 0x2000 * n
def SV_ADV_TIME_MAX_US (n : Nat) : Fld := ⟨(SV_ADV_TIME n), 31, 16⟩
def SV_ADV_TIME_LAST_US (n : Nat) : Fld := ⟨(SV_ADV_TIME n), 15, 0⟩

/-- SV_CNT_MERGE: BAR0 offset (spec/06_surveyors_and_furrows). -/
def SV_CNT_MERGE (n : Nat) : Nat := 0x60020 + 0x2000 * n
def SV_CNT_MERGE_COUNT (n : Nat) : Fld := ⟨(SV_CNT_MERGE n), 31, 0⟩

/-- SV_CNT_SCREEN: BAR0 offset (spec/06_surveyors_and_furrows). -/
def SV_CNT_SCREEN (n : Nat) : Nat := 0x60024 + 0x2000 * n
def SV_CNT_SCREEN_COUNT (n : Nat) : Fld := ⟨(SV_CNT_SCREEN n), 31, 0⟩

/-- SV_CNT_EXCL: BAR0 offset (spec/06_surveyors_and_furrows). -/
def SV_CNT_EXCL (n : Nat) : Nat := 0x60028 + 0x2000 * n
def SV_CNT_EXCL_COUNT (n : Nat) : Fld := ⟨(SV_CNT_EXCL n), 31, 0⟩

/-- SV_CNT_WIN: BAR0 offset (spec/06_surveyors_and_furrows). -/
def SV_CNT_WIN (n : Nat) : Nat := 0x6002C + 0x2000 * n
def SV_CNT_WIN_COUNT (n : Nat) : Fld := ⟨(SV_CNT_WIN n), 31, 0⟩

/-- SV_CNT_SKIP: BAR0 offset (spec/06_surveyors_and_furrows). -/
def SV_CNT_SKIP (n : Nat) : Nat := 0x60030 + 0x2000 * n
def SV_CNT_SKIP_COUNT (n : Nat) : Fld := ⟨(SV_CNT_SKIP n), 31, 0⟩

/-- SV_ERR: BAR0 offset (spec/06_surveyors_and_furrows). -/
def SV_ERR (n : Nat) : Nat := 0x60040 + 0x2000 * n
def SV_ERR_CODE (n : Nat) : Fld := ⟨(SV_ERR n), 31, 24⟩
def SV_ERR_OVERRUN (n : Nat) : Fld := ⟨(SV_ERR n), 23, 23⟩
def SV_ERR_FIELD (n : Nat) : Fld := ⟨(SV_ERR n), 7, 0⟩

/-- SV_QUAR: BAR0 offset (spec/06_surveyors_and_furrows). -/
def SV_QUAR (n : Nat) : Nat := 0x60044 + 0x2000 * n
def SV_QUAR_POINTS (n : Nat) : Fld := ⟨(SV_QUAR n), 12, 0⟩

/-! Registers of spec/07_tiller_solver_lanes.md -/

/-- LANE_CTL: BAR0 offset (spec/07_tiller_solver_lanes (R189)). -/
def LANE_CTL (n : Nat) : Nat := 0x80000 + 0x100 * n
def LANE_CTL_HOLD_OUT (n : Nat) : Fld := ⟨(LANE_CTL n), 3, 3⟩
def LANE_CTL_RETEST (n : Nat) : Fld := ⟨(LANE_CTL n), 2, 2⟩
def LANE_CTL_ABORT (n : Nat) : Fld := ⟨(LANE_CTL n), 1, 1⟩
def LANE_CTL_GO (n : Nat) : Fld := ⟨(LANE_CTL n), 0, 0⟩

/-- LANE_STAT: BAR0 offset (spec/07_tiller_solver_lanes (R189)). -/
def LANE_STAT (n : Nat) : Nat := 0x80004 + 0x100 * n
def LANE_STAT_STATUS (n : Nat) : Fld := ⟨(LANE_STAT n), 31, 24⟩
def LANE_STAT_ITER (n : Nat) : Fld := ⟨(LANE_STAT n), 23, 16⟩
def LANE_STAT_GROUP (n : Nat) : Fld := ⟨(LANE_STAT n), 15, 8⟩
def LANE_STAT_HELD (n : Nat) : Fld := ⟨(LANE_STAT n), 6, 6⟩
def LANE_STAT_OOS (n : Nat) : Fld := ⟨(LANE_STAT n), 5, 5⟩
def LANE_STAT_VALID (n : Nat) : Fld := ⟨(LANE_STAT n), 4, 4⟩
def LANE_STAT_STATE (n : Nat) : Fld := ⟨(LANE_STAT n), 2, 0⟩

/-- LANE_JOB: BAR0 offset (spec/07_tiller_solver_lanes (R189)). -/
def LANE_JOB (n : Nat) : Nat := 0x80008 + 0x100 * n
def LANE_JOB_FIELD (n : Nat) : Fld := ⟨(LANE_JOB n), 31, 24⟩
def LANE_JOB_PROBLEM (n : Nat) : Fld := ⟨(LANE_JOB n), 23, 23⟩
def LANE_JOB_ROUND (n : Nat) : Fld := ⟨(LANE_JOB n), 19, 16⟩
def LANE_JOB_CAMPAIGN (n : Nat) : Fld := ⟨(LANE_JOB n), 15, 0⟩

/-- LANE_CYC: BAR0 offset (spec/07_tiller_solver_lanes (R189)). -/
def LANE_CYC (n : Nat) : Nat := 0x8000C + 0x100 * n
def LANE_CYC_CYCLES (n : Nat) : Fld := ⟨(LANE_CYC n), 31, 0⟩

/-- LANE_REG_CNT: BAR0 offset (spec/07_tiller_solver_lanes (R189)). -/
def LANE_REG_CNT (n : Nat) : Nat := 0x80010 + 0x100 * n
def LANE_REG_CNT_COUNT (n : Nat) : Fld := ⟨(LANE_REG_CNT n), 31, 0⟩

/-- LANE_ERR: BAR0 offset (spec/07_tiller_solver_lanes (R189)). -/
def LANE_ERR (n : Nat) : Nat := 0x80014 + 0x100 * n
def LANE_ERR_CODE (n : Nat) : Fld := ⟨(LANE_ERR n), 31, 24⟩
def LANE_ERR_OVERRUN (n : Nat) : Fld := ⟨(LANE_ERR n), 23, 23⟩
def LANE_ERR_OFFSET (n : Nat) : Fld := ⟨(LANE_ERR n), 18, 0⟩

/-- LANE_TEST: BAR0 offset (spec/07_tiller_solver_lanes (R189)). -/
def LANE_TEST (n : Nat) : Nat := 0x80018 + 0x100 * n
def LANE_TEST_PASSES (n : Nat) : Fld := ⟨(LANE_TEST n), 31, 16⟩
def LANE_TEST_FAILS (n : Nat) : Fld := ⟨(LANE_TEST n), 15, 8⟩
def LANE_TEST_LAST (n : Nat) : Fld := ⟨(LANE_TEST n), 1, 0⟩

/-- CL_CTL: BAR0 offset (spec/07_tiller_solver_lanes (R189)). -/
def CL_CTL (n : Nat) : Nat := 0x90000 + 0x100 * n
def CL_CTL_TEST_EN (n : Nat) : Fld := ⟨(CL_CTL n), 0, 0⟩

/-- CL_STAT: BAR0 offset (spec/07_tiller_solver_lanes (R189)). -/
def CL_STAT (n : Nat) : Nat := 0x90004 + 0x100 * n
def CL_STAT_BUSY (n : Nat) : Fld := ⟨(CL_STAT n), 15, 8⟩
def CL_STAT_OUT (n : Nat) : Fld := ⟨(CL_STAT n), 7, 0⟩

/-- CL_SEQ_WAIT: BAR0 offset (spec/07_tiller_solver_lanes (R189)). -/
def CL_SEQ_WAIT (n : Nat) : Nat := 0x90008 + 0x100 * n
def CL_SEQ_WAIT_CYCLES (n : Nat) : Fld := ⟨(CL_SEQ_WAIT n), 31, 0⟩

/-- CL_ECC: BAR0 offset (spec/07_tiller_solver_lanes (R189)). -/
def CL_ECC (n : Nat) : Nat := 0x9000C + 0x100 * n
def CL_ECC_UNCORR (n : Nat) : Fld := ⟨(CL_ECC n), 31, 16⟩
def CL_ECC_CORR (n : Nat) : Fld := ⟨(CL_ECC n), 15, 0⟩

/-! Registers of spec/08_campaigns_and_coordination.md -/

/-- CMN_CFG: BAR0 offset (spec/08_campaigns_and_coordination (R208)). -/
def CMN_CFG : Nat := 0xC2000
def CMN_CFG_EN : Fld := ⟨CMN_CFG, 31, 31⟩
def CMN_CFG_ITER_RESOLVE : Fld := ⟨CMN_CFG, 29, 24⟩
def CMN_CFG_ROUNDS_MAX : Fld := ⟨CMN_CFG, 23, 20⟩
def CMN_CFG_DEADLINE : Fld := ⟨CMN_CFG, 19, 10⟩
def CMN_CFG_INTERVAL : Fld := ⟨CMN_CFG, 9, 0⟩

/-- CMN_RHO: BAR0 offset (spec/08_campaigns_and_coordination (R208)). -/
def CMN_RHO : Nat := 0xC2004
def CMN_RHO_RHO_Q : Fld := ⟨CMN_RHO, 31, 0⟩

/-- CMN_EPS: BAR0 offset (spec/08_campaigns_and_coordination (R208)). -/
def CMN_EPS : Nat := 0xC2008
def CMN_EPS_EPS_DUAL_EXP : Fld := ⟨CMN_EPS, 27, 24⟩
def CMN_EPS_EPS_T : Fld := ⟨CMN_EPS, 23, 16⟩
def CMN_EPS_EPS_Q : Fld := ⟨CMN_EPS, 15, 0⟩

/-- CMN_STAT: BAR0 offset (spec/08_campaigns_and_coordination (R208)). -/
def CMN_STAT : Nat := 0xC2010
def CMN_STAT_SOLVED : Fld := ⟨CMN_STAT, 24, 16⟩
def CMN_STAT_ROUND : Fld := ⟨CMN_STAT, 11, 8⟩
def CMN_STAT_DEADLINE_HIT : Fld := ⟨CMN_STAT, 3, 3⟩
def CMN_STAT_CONVERGED : Fld := ⟨CMN_STAT, 2, 2⟩
def CMN_STAT_BUF : Fld := ⟨CMN_STAT, 1, 1⟩
def CMN_STAT_IN_FLIGHT : Fld := ⟨CMN_STAT, 0, 0⟩

/-- CMN_NUM: BAR0 offset (spec/08_campaigns_and_coordination (R208)). -/
def CMN_NUM : Nat := 0xC2014
def CMN_NUM_NUM : Fld := ⟨CMN_NUM, 31, 0⟩

/-- CMN_PASS: BAR0 offset (spec/08_campaigns_and_coordination (R208)). -/
def CMN_PASS : Nat := 0xC2018
def CMN_PASS_LAUNCH_PASS : Fld := ⟨CMN_PASS, 31, 0⟩

/-- CMN_CNT: BAR0 offset (spec/08_campaigns_and_coordination (R208)). -/
def CMN_CNT : Nat := 0xC201C
def CMN_CNT_DEADLINE : Fld := ⟨CMN_CNT, 31, 16⟩
def CMN_CNT_SKIPPED : Fld := ⟨CMN_CNT, 15, 0⟩

/-- RG_CTL: BAR0 offset (spec/08_campaigns_and_coordination (R208)). -/
def RG_CTL (n : Nat) : Nat := 0xC0000 + 0x400 * n
def RG_CTL_COORD_EN (n : Nat) : Fld := ⟨(RG_CTL n), 0, 0⟩

/-- RG_STAT: BAR0 offset (spec/08_campaigns_and_coordination (R208)). -/
def RG_STAT (n : Nat) : Nat := 0xC0004 + 0x400 * n
def RG_STAT_FIELDS (n : Nat) : Fld := ⟨(RG_STAT n), 21, 16⟩
def RG_STAT_LANES (n : Nat) : Fld := ⟨(RG_STAT n), 13, 8⟩
def RG_STAT_BUSY (n : Nat) : Fld := ⟨(RG_STAT n), 4, 4⟩
def RG_STAT_ROUND (n : Nat) : Fld := ⟨(RG_STAT n), 3, 0⟩

/-- RG_PRI: BAR0 offset (spec/08_campaigns_and_coordination (R208)). -/
def RG_PRI (n : Nat) : Nat := 0xC0008 + 0x400 * n
def RG_PRI_VALUE (n : Nat) : Fld := ⟨(RG_PRI n), 31, 0⟩

/-- RG_DUAL: BAR0 offset (spec/08_campaigns_and_coordination (R208)). -/
def RG_DUAL (n : Nat) : Nat := 0xC000C + 0x400 * n
def RG_DUAL_VALUE (n : Nat) : Fld := ⟨(RG_DUAL n), 31, 0⟩

/-- RG_NOLANE: BAR0 offset (spec/08_campaigns_and_coordination (R208)). -/
def RG_NOLANE (n : Nat) : Nat := 0xC0010 + 0x400 * n
def RG_NOLANE_COUNT (n : Nat) : Fld := ⟨(RG_NOLANE n), 31, 0⟩

/-! Registers of spec/09_furrow_instruction_set.md -/

/-- PASS_PERIOD: BAR0 offset (spec/09_furrow_instruction_set (R244)). -/
def PASS_PERIOD : Nat := 0x100100
def PASS_PERIOD_PERIOD_MS : Fld := ⟨PASS_PERIOD, 10, 0⟩

/-- PASS_PROG: BAR0 offset (spec/09_furrow_instruction_set (R244)). -/
def PASS_PROG : Nat := 0x100104
def PASS_PROG_ISA : Fld := ⟨PASS_PROG, 31, 16⟩
def PASS_PROG_BANK : Fld := ⟨PASS_PROG, 4, 4⟩
def PASS_PROG_STRIPS : Fld := ⟨PASS_PROG, 2, 0⟩

/-- PASS_PROG_ID_LO: BAR0 offset (spec/09_furrow_instruction_set (R244)). -/
def PASS_PROG_ID_LO : Nat := 0x100108
def PASS_PROG_ID_LO_PROG_ID : Fld := ⟨PASS_PROG_ID_LO, 31, 0⟩

/-- PASS_PROG_ID_HI: BAR0 offset (spec/09_furrow_instruction_set (R244)). -/
def PASS_PROG_ID_HI : Nat := 0x10010C
def PASS_PROG_ID_HI_PROG_ID : Fld := ⟨PASS_PROG_ID_HI, 31, 0⟩

/-- PASS_PHASE: BAR0 offset (spec/09_furrow_instruction_set (R244)). -/
def PASS_PHASE : Nat := 0x100110
def PASS_PHASE_BAR_LOW : Fld := ⟨PASS_PHASE, 19, 16⟩
def PASS_PHASE_AT_BAR : Fld := ⟨PASS_PHASE, 15, 12⟩
def PASS_PHASE_RUNNING : Fld := ⟨PASS_PHASE, 11, 8⟩
def PASS_PHASE_PHASE : Fld := ⟨PASS_PHASE, 2, 0⟩

/-- PASS_LOGIC_TIME: BAR0 offset (spec/09_furrow_instruction_set (R244)). -/
def PASS_LOGIC_TIME : Nat := 0x100114
def PASS_LOGIC_TIME_MAX_US : Fld := ⟨PASS_LOGIC_TIME, 31, 16⟩
def PASS_LOGIC_TIME_LAST_US : Fld := ⟨PASS_LOGIC_TIME, 15, 0⟩

/-- PASS_MS_LO: BAR0 offset (spec/09_furrow_instruction_set (R244)). -/
def PASS_MS_LO : Nat := 0x100118
def PASS_MS_LO_PASS_MS : Fld := ⟨PASS_MS_LO, 31, 0⟩

/-- PASS_MS_HI: BAR0 offset (spec/09_furrow_instruction_set (R244)). -/
def PASS_MS_HI : Nat := 0x10011C
def PASS_MS_HI_PASS_MS : Fld := ⟨PASS_MS_HI, 31, 0⟩

/-- PASS_CORE_STAT: BAR0 offset (spec/09_furrow_instruction_set (R244)). -/
def PASS_CORE_STAT (n : Nat) : Nat := 0x100120 + 0x4 * n
def PASS_CORE_STAT_UNBALANCED (n : Nat) : Fld := ⟨(PASS_CORE_STAT n), 11, 11⟩
def PASS_CORE_STAT_FLAGS (n : Nat) : Fld := ⟨(PASS_CORE_STAT n), 10, 8⟩
def PASS_CORE_STAT_ACTIVE (n : Nat) : Fld := ⟨(PASS_CORE_STAT n), 2, 2⟩
def PASS_CORE_STAT_STATE (n : Nat) : Fld := ⟨(PASS_CORE_STAT n), 1, 0⟩

/-- PASS_FAULT: BAR0 offset (spec/09_furrow_instruction_set (R244)). -/
def PASS_FAULT : Nat := 0x100130
def PASS_FAULT_CODE : Fld := ⟨PASS_FAULT, 31, 24⟩
def PASS_FAULT_OVERRUN : Fld := ⟨PASS_FAULT, 23, 23⟩
def PASS_FAULT_CORE : Fld := ⟨PASS_FAULT, 21, 20⟩
def PASS_FAULT_PC : Fld := ⟨PASS_FAULT, 19, 0⟩

/-- PASS_OUT_ERR: BAR0 offset (spec/09_furrow_instruction_set (R244)). -/
def PASS_OUT_ERR : Nat := 0x100134
def PASS_OUT_ERR_COUNT : Fld := ⟨PASS_OUT_ERR, 31, 0⟩

/-! Registers of spec/10_modes_blocks_and_exchange.md -/

/-- PASS_MODE_CTL: BAR0 offset (spec/10_modes_blocks_and_exchange). -/
def PASS_MODE_CTL : Nat := 0x100000
def PASS_MODE_CTL_REQ : Fld := ⟨PASS_MODE_CTL, 1, 0⟩

/-- PASS_MODE_STAT: BAR0 offset (spec/10_modes_blocks_and_exchange). -/
def PASS_MODE_STAT : Nat := 0x100004
def PASS_MODE_STAT_STOP_CAUSE : Fld := ⟨PASS_MODE_STAT, 11, 8⟩
def PASS_MODE_STAT_MODE : Fld := ⟨PASS_MODE_STAT, 1, 0⟩

/-- PASS_WD_CFG: BAR0 offset (spec/10_modes_blocks_and_exchange). -/
def PASS_WD_CFG : Nat := 0x100008
def PASS_WD_CFG_MARGIN_PCT : Fld := ⟨PASS_WD_CFG, 5, 0⟩

/-- PASS_WD_CNT: BAR0 offset (spec/10_modes_blocks_and_exchange). -/
def PASS_WD_CNT : Nat := 0x10000C
def PASS_WD_CNT_FIRED : Fld := ⟨PASS_WD_CNT, 31, 16⟩
def PASS_WD_CNT_LATE : Fld := ⟨PASS_WD_CNT, 15, 0⟩

/-- PASS_WD_LAST: BAR0 offset (spec/10_modes_blocks_and_exchange). -/
def PASS_WD_LAST : Nat := 0x100010
def PASS_WD_LAST_RUNNING : Fld := ⟨PASS_WD_LAST, 11, 8⟩
def PASS_WD_LAST_PHASE : Fld := ⟨PASS_WD_LAST, 2, 0⟩

/-- PASS_RESTART_CFG: BAR0 offset (spec/10_modes_blocks_and_exchange). -/
def PASS_RESTART_CFG : Nat := 0x100014
def PASS_RESTART_CFG_FULL_MODE : Fld := ⟨PASS_RESTART_CFG, 5, 4⟩
def PASS_RESTART_CFG_WARM_MODE : Fld := ⟨PASS_RESTART_CFG, 3, 2⟩
def PASS_RESTART_CFG_COLD_MODE : Fld := ⟨PASS_RESTART_CFG, 1, 0⟩

/-- PASS_EXCH_STAT: BAR0 offset (spec/10_modes_blocks_and_exchange). -/
def PASS_EXCH_STAT : Nat := 0x100200
def PASS_EXCH_STAT_EXCHANGES : Fld := ⟨PASS_EXCH_STAT, 31, 16⟩
def PASS_EXCH_STAT_LAST_CODE : Fld := ⟨PASS_EXCH_STAT, 15, 8⟩
def PASS_EXCH_STAT_PENDING : Fld := ⟨PASS_EXCH_STAT, 2, 2⟩
def PASS_EXCH_STAT_REVERT_OK : Fld := ⟨PASS_EXCH_STAT, 1, 1⟩
def PASS_EXCH_STAT_STAGED : Fld := ⟨PASS_EXCH_STAT, 0, 0⟩

/-- PASS_EXCH_MATCH: BAR0 offset (spec/10_modes_blocks_and_exchange). -/
def PASS_EXCH_MATCH : Nat := 0x100204
def PASS_EXCH_MATCH_MATCHED : Fld := ⟨PASS_EXCH_MATCH, 29, 15⟩
def PASS_EXCH_MATCH_KIND_DIFF : Fld := ⟨PASS_EXCH_MATCH, 12, 0⟩

/-- PASS_STAGED_ID_LO: BAR0 offset (spec/10_modes_blocks_and_exchange). -/
def PASS_STAGED_ID_LO : Nat := 0x100208
def PASS_STAGED_ID_LO_PROG_ID : Fld := ⟨PASS_STAGED_ID_LO, 31, 0⟩

/-- PASS_STAGED_ID_HI: BAR0 offset (spec/10_modes_blocks_and_exchange). -/
def PASS_STAGED_ID_HI : Nat := 0x10020C
def PASS_STAGED_ID_HI_PROG_ID : Fld := ⟨PASS_STAGED_ID_HI, 31, 0⟩

/-- PASS_KEPT_ID_LO: BAR0 offset (spec/10_modes_blocks_and_exchange). -/
def PASS_KEPT_ID_LO : Nat := 0x100210
def PASS_KEPT_ID_LO_PROG_ID : Fld := ⟨PASS_KEPT_ID_LO, 31, 0⟩

/-- PASS_KEPT_ID_HI: BAR0 offset (spec/10_modes_blocks_and_exchange). -/
def PASS_KEPT_ID_HI : Nat := 0x100214
def PASS_KEPT_ID_HI_PROG_ID : Fld := ⟨PASS_KEPT_ID_HI, 31, 0⟩

/-- PASS_EXCH_PASS: BAR0 offset (spec/10_modes_blocks_and_exchange). -/
def PASS_EXCH_PASS : Nat := 0x100218
def PASS_EXCH_PASS_PASS : Fld := ⟨PASS_EXCH_PASS, 31, 0⟩

/-! Registers of spec/11_loop_engines.md -/

/-- LOOP_CTL: BAR0 offset (spec/11_loop_engines (R283)). -/
def LOOP_CTL (n : Nat) : Nat := 0x140000 + 0x400 * n
def LOOP_CTL_HOLD_LAW (n : Nat) : Fld := ⟨(LOOP_CTL n), 2, 2⟩
def LOOP_CTL_MANUAL (n : Nat) : Fld := ⟨(LOOP_CTL n), 1, 1⟩
def LOOP_CTL_RUN (n : Nat) : Fld := ⟨(LOOP_CTL n), 0, 0⟩

/-- LOOP_SAMPLE: BAR0 offset (spec/11_loop_engines (R283)). -/
def LOOP_SAMPLE (n : Nat) : Nat := 0x140004 + 0x400 * n
def LOOP_SAMPLE_DIV (n : Nat) : Fld := ⟨(LOOP_SAMPLE n), 31, 16⟩
def LOOP_SAMPLE_PHASE (n : Nat) : Fld := ⟨(LOOP_SAMPLE n), 15, 0⟩

/-- LOOP_SRC: BAR0 offset (spec/11_loop_engines (R283)). -/
def LOOP_SRC (n : Nat) : Nat := 0x140008 + 0x400 * n
def LOOP_SRC_SP_KIND (n : Nat) : Fld := ⟨(LOOP_SRC n), 31, 28⟩
def LOOP_SRC_FF_SEL (n : Nat) : Fld := ⟨(LOOP_SRC n), 27, 24⟩
def LOOP_SRC_SP_REF (n : Nat) : Fld := ⟨(LOOP_SRC n), 23, 16⟩
def LOOP_SRC_PV_KIND (n : Nat) : Fld := ⟨(LOOP_SRC n), 15, 12⟩
def LOOP_SRC_PV_REF (n : Nat) : Fld := ⟨(LOOP_SRC n), 7, 0⟩

/-- LOOP_SPT: BAR0 offset (spec/11_loop_engines (R283)). -/
def LOOP_SPT (n : Nat) : Nat := 0x14000C + 0x400 * n
def LOOP_SPT_SECTION (n : Nat) : Fld := ⟨(LOOP_SPT n), 30, 28⟩
def LOOP_SPT_NEXT_SEL (n : Nat) : Fld := ⟨(LOOP_SPT n), 16, 16⟩
def LOOP_SPT_INDEX (n : Nat) : Fld := ⟨(LOOP_SPT n), 13, 0⟩

/-- LOOP_PV_MIN: BAR0 offset (spec/11_loop_engines (R283)). -/
def LOOP_PV_MIN (n : Nat) : Nat := 0x140010 + 0x400 * n
def LOOP_PV_MIN_VALUE (n : Nat) : Fld := ⟨(LOOP_PV_MIN n), 31, 0⟩

/-- LOOP_PV_MAX: BAR0 offset (spec/11_loop_engines (R283)). -/
def LOOP_PV_MAX (n : Nat) : Nat := 0x140014 + 0x400 * n
def LOOP_PV_MAX_VALUE (n : Nat) : Fld := ⟨(LOOP_PV_MAX n), 31, 0⟩

/-- LOOP_SP_GAIN: BAR0 offset (spec/11_loop_engines (R283)). -/
def LOOP_SP_GAIN (n : Nat) : Nat := 0x140018 + 0x400 * n
def LOOP_SP_GAIN_VALUE (n : Nat) : Fld := ⟨(LOOP_SP_GAIN n), 31, 0⟩

/-- LOOP_SP_OFFSET: BAR0 offset (spec/11_loop_engines (R283)). -/
def LOOP_SP_OFFSET (n : Nat) : Nat := 0x14001C + 0x400 * n
def LOOP_SP_OFFSET_VALUE (n : Nat) : Fld := ⟨(LOOP_SP_OFFSET n), 31, 0⟩

/-- LOOP_OUT: BAR0 offset (spec/11_loop_engines (R283)). -/
def LOOP_OUT (n : Nat) : Nat := 0x140020 + 0x400 * n
def LOOP_OUT_LIM_POS (n : Nat) : Fld := ⟨(LOOP_OUT n), 16, 16⟩
def LOOP_OUT_OUT_KIND (n : Nat) : Fld := ⟨(LOOP_OUT n), 9, 8⟩
def LOOP_OUT_OUT_CH (n : Nat) : Fld := ⟨(LOOP_OUT n), 4, 0⟩

/-- LOOP_ULIM: BAR0 offset (spec/11_loop_engines (R283)). -/
def LOOP_ULIM (n : Nat) : Nat := 0x140024 + 0x400 * n
def LOOP_ULIM_U_MAX (n : Nat) : Fld := ⟨(LOOP_ULIM n), 31, 16⟩
def LOOP_ULIM_U_MIN (n : Nat) : Fld := ⟨(LOOP_ULIM n), 15, 0⟩

/-- LOOP_RATE: BAR0 offset (spec/11_loop_engines (R283)). -/
def LOOP_RATE (n : Nat) : Nat := 0x140028 + 0x400 * n
def LOOP_RATE_LIMIT (n : Nat) : Fld := ⟨(LOOP_RATE n), 31, 0⟩

/-- LOOP_ACCEL: BAR0 offset (spec/11_loop_engines (R283)). -/
def LOOP_ACCEL (n : Nat) : Nat := 0x14002C + 0x400 * n
def LOOP_ACCEL_LIMIT (n : Nat) : Fld := ⟨(LOOP_ACCEL n), 31, 0⟩

/-- LOOP_MAN: BAR0 offset (spec/11_loop_engines (R283)). -/
def LOOP_MAN (n : Nat) : Nat := 0x140030 + 0x400 * n
def LOOP_MAN_MAN_OUT (n : Nat) : Fld := ⟨(LOOP_MAN n), 15, 0⟩

/-- LOOP_KP: BAR0 offset (spec/11_loop_engines (R283)). -/
def LOOP_KP (n : Nat) : Nat := 0x140040 + 0x400 * n
def LOOP_KP_COEF (n : Nat) : Fld := ⟨(LOOP_KP n), 15, 0⟩

/-- LOOP_KI: BAR0 offset (spec/11_loop_engines (R283)). -/
def LOOP_KI (n : Nat) : Nat := 0x140044 + 0x400 * n
def LOOP_KI_COEF (n : Nat) : Fld := ⟨(LOOP_KI n), 15, 0⟩

/-- LOOP_KD: BAR0 offset (spec/11_loop_engines (R283)). -/
def LOOP_KD (n : Nat) : Nat := 0x140048 + 0x400 * n
def LOOP_KD_COEF (n : Nat) : Fld := ⟨(LOOP_KD n), 15, 0⟩

/-- LOOP_KF: BAR0 offset (spec/11_loop_engines (R283)). -/
def LOOP_KF (n : Nat) : Nat := 0x14004C + 0x400 * n
def LOOP_KF_COEF (n : Nat) : Fld := ⟨(LOOP_KF n), 15, 0⟩

/-- LOOP_KA: BAR0 offset (spec/11_loop_engines (R283)). -/
def LOOP_KA (n : Nat) : Nat := 0x140050 + 0x400 * n
def LOOP_KA_COEF (n : Nat) : Fld := ⟨(LOOP_KA n), 15, 0⟩

/-- LOOP_SHIFT: BAR0 offset (spec/11_loop_engines (R283)). -/
def LOOP_SHIFT (n : Nat) : Nat := 0x140054 + 0x400 * n
def LOOP_SHIFT_SHIFT (n : Nat) : Fld := ⟨(LOOP_SHIFT n), 2, 0⟩

/-- LOOP_STAT: BAR0 offset (spec/11_loop_engines (R283)). -/
def LOOP_STAT (n : Nat) : Nat := 0x140080 + 0x400 * n
def LOOP_STAT_CONSEC (n : Nat) : Fld := ⟨(LOOP_STAT n), 23, 16⟩
def LOOP_STAT_OVR_CAUSE (n : Nat) : Fld := ⟨(LOOP_STAT n), 15, 12⟩
def LOOP_STAT_FAULT_CAUSE (n : Nat) : Fld := ⟨(LOOP_STAT n), 11, 8⟩
def LOOP_STAT_SP_INVALID (n : Nat) : Fld := ⟨(LOOP_STAT n), 7, 7⟩
def LOOP_STAT_SAT (n : Nat) : Fld := ⟨(LOOP_STAT n), 6, 6⟩
def LOOP_STAT_HOLD_EXPIRED (n : Nat) : Fld := ⟨(LOOP_STAT n), 5, 5⟩
def LOOP_STAT_AT_LIMIT (n : Nat) : Fld := ⟨(LOOP_STAT n), 4, 4⟩
def LOOP_STAT_RATE_LIMITED (n : Nat) : Fld := ⟨(LOOP_STAT n), 3, 3⟩
def LOOP_STAT_STATE (n : Nat) : Fld := ⟨(LOOP_STAT n), 1, 0⟩

/-- LOOP_OVR_CNT: BAR0 offset (spec/11_loop_engines (R283)). -/
def LOOP_OVR_CNT (n : Nat) : Nat := 0x140084 + 0x400 * n
def LOOP_OVR_CNT_COUNT (n : Nat) : Fld := ⟨(LOOP_OVR_CNT n), 31, 0⟩

/-- LOOP_REV_CNT: BAR0 offset (spec/11_loop_engines (R283)). -/
def LOOP_REV_CNT (n : Nat) : Nat := 0x1400A0 + 0x400 * n
def LOOP_REV_CNT_COUNT (n : Nat) : Fld := ⟨(LOOP_REV_CNT n), 31, 0⟩

/-- LOOP_SAMPLES: BAR0 offset (spec/11_loop_engines (R283)). -/
def LOOP_SAMPLES (n : Nat) : Nat := 0x140088 + 0x400 * n
def LOOP_SAMPLES_COUNT (n : Nat) : Fld := ⟨(LOOP_SAMPLES n), 31, 0⟩

/-- LOOP_VAL: BAR0 offset (spec/11_loop_engines (R283)). -/
def LOOP_VAL (n : Nat) : Nat := 0x14008C + 0x400 * n
def LOOP_VAL_U (n : Nat) : Fld := ⟨(LOOP_VAL n), 31, 16⟩
def LOOP_VAL_Y (n : Nat) : Fld := ⟨(LOOP_VAL n), 15, 0⟩

/-- LOOP_RVAL: BAR0 offset (spec/11_loop_engines (R283)). -/
def LOOP_RVAL (n : Nat) : Nat := 0x140090 + 0x400 * n
def LOOP_RVAL_R (n : Nat) : Fld := ⟨(LOOP_RVAL n), 31, 16⟩
def LOOP_RVAL_RT (n : Nat) : Fld := ⟨(LOOP_RVAL n), 15, 0⟩

/-- LOOP_INT_LO: BAR0 offset (spec/11_loop_engines (R283)). -/
def LOOP_INT_LO (n : Nat) : Nat := 0x140098 + 0x400 * n
def LOOP_INT_LO_INT (n : Nat) : Fld := ⟨(LOOP_INT_LO n), 31, 0⟩

/-- LOOP_INT_HI: BAR0 offset (spec/11_loop_engines (R283)). -/
def LOOP_INT_HI (n : Nat) : Nat := 0x14009C + 0x400 * n
def LOOP_INT_HI_INT (n : Nat) : Fld := ⟨(LOOP_INT_HI n), 31, 0⟩

/-! Registers of spec/12_field_exchange.md -/

/-- FX_CFG: BAR0 offset (spec/12_field_exchange (R310)). -/
def FX_CFG : Nat := 0x180000
def FX_CFG_WR_AGE_M : Fld := ⟨FX_CFG, 31, 16⟩
def FX_CFG_REFUSE_RETRY_S : Fld := ⟨FX_CFG, 15, 0⟩

/-- FX_STAT: BAR0 offset (spec/12_field_exchange (R310)). -/
def FX_STAT : Nat := 0x180004
def FX_STAT_WR_USED : Fld := ⟨FX_STAT, 24, 16⟩
def FX_STAT_OPEN : Fld := ⟨FX_STAT, 14, 0⟩

/-- FX_WR_CNT: BAR0 offset (spec/12_field_exchange (R310)). -/
def FX_WR_CNT : Nat := 0x180008
def FX_WR_CNT_FULL : Fld := ⟨FX_WR_CNT, 31, 16⟩
def FX_WR_CNT_ENTERED : Fld := ⟨FX_WR_CNT, 15, 0⟩

/-- FX_ORD_CNT: BAR0 offset (spec/12_field_exchange (R310)). -/
def FX_ORD_CNT : Nat := 0x18000C
def FX_ORD_CNT_SUPERSEDED : Fld := ⟨FX_ORD_CNT, 31, 16⟩
def FX_ORD_CNT_REJECTED : Fld := ⟨FX_ORD_CNT, 15, 0⟩

/-- FX_RESEND_CNT: BAR0 offset (spec/12_field_exchange (R310)). -/
def FX_RESEND_CNT : Nat := 0x180010
def FX_RESEND_CNT_COUNT : Fld := ⟨FX_RESEND_CNT, 31, 0⟩

/-- FX_ABSENT_CNT: BAR0 offset (spec/12_field_exchange (R310)). -/
def FX_ABSENT_CNT : Nat := 0x180014
def FX_ABSENT_CNT_COUNT : Fld := ⟨FX_ABSENT_CNT, 31, 0⟩

/-- FP_CTL: BAR0 offset (spec/12_field_exchange (R310)). -/
def FP_CTL (n : Nat) : Nat := 0x190000 + 0x1000 * n
def FP_CTL_VLAN_EN (n : Nat) : Fld := ⟨(FP_CTL n), 9, 9⟩
def FP_CTL_PTP_P2P (n : Nat) : Fld := ⟨(FP_CTL n), 8, 8⟩
def FP_CTL_PTP_L2 (n : Nat) : Fld := ⟨(FP_CTL n), 7, 7⟩
def FP_CTL_PTP_ROLE (n : Nat) : Fld := ⟨(FP_CTL n), 6, 5⟩
def FP_CTL_TX_DIS (n : Nat) : Fld := ⟨(FP_CTL n), 4, 4⟩
def FP_CTL_AN_EN (n : Nat) : Fld := ⟨(FP_CTL n), 3, 3⟩
def FP_CTL_SPEED (n : Nat) : Fld := ⟨(FP_CTL n), 2, 1⟩
def FP_CTL_EN (n : Nat) : Fld := ⟨(FP_CTL n), 0, 0⟩

/-- FP_PTP_CFG: BAR0 offset (spec/12_field_exchange (R310)). -/
def FP_PTP_CFG (n : Nat) : Nat := 0x190004 + 0x1000 * n
def FP_PTP_CFG_LOG_ANNOUNCE (n : Nat) : Fld := ⟨(FP_PTP_CFG n), 23, 20⟩
def FP_PTP_CFG_LOG_SYNC (n : Nat) : Fld := ⟨(FP_PTP_CFG n), 19, 16⟩
def FP_PTP_CFG_CLOCK_CLASS (n : Nat) : Fld := ⟨(FP_PTP_CFG n), 15, 8⟩
def FP_PTP_CFG_DOMAIN (n : Nat) : Fld := ⟨(FP_PTP_CFG n), 7, 0⟩

/-- FP_UCAST: BAR0 offset (spec/12_field_exchange (R310)). -/
def FP_UCAST (n k : Nat) : Nat := 0x190010 + 0x1000 * n + 0x4 * k
def FP_UCAST_ADDR (n k : Nat) : Fld := ⟨(FP_UCAST n k), 31, 0⟩

/-- FP_GROUP: BAR0 offset (spec/12_field_exchange (R310)). -/
def FP_GROUP (n k : Nat) : Nat := 0x190020 + 0x1000 * n + 0x4 * k
def FP_GROUP_ADDR (n k : Nat) : Fld := ⟨(FP_GROUP n k), 31, 0⟩

/-- FP_MAC_LO: BAR0 offset (spec/12_field_exchange (R310)). -/
def FP_MAC_LO (n : Nat) : Nat := 0x190030 + 0x1000 * n
def FP_MAC_LO_MAC (n : Nat) : Fld := ⟨(FP_MAC_LO n), 31, 0⟩

/-- FP_MAC_HI: BAR0 offset (spec/12_field_exchange (R310)). -/
def FP_MAC_HI (n : Nat) : Nat := 0x190034 + 0x1000 * n
def FP_MAC_HI_MAC (n : Nat) : Fld := ⟨(FP_MAC_HI n), 15, 0⟩

/-- FP_VLAN: BAR0 offset (spec/12_field_exchange (R310)). -/
def FP_VLAN (n : Nat) : Nat := 0x190038 + 0x1000 * n
def FP_VLAN_PCP (n : Nat) : Fld := ⟨(FP_VLAN n), 14, 12⟩
def FP_VLAN_VID (n : Nat) : Fld := ⟨(FP_VLAN n), 11, 0⟩

/-- FP_STAT: BAR0 offset (spec/12_field_exchange (R310)). -/
def FP_STAT (n : Nat) : Nat := 0x190040 + 0x1000 * n
def FP_STAT_PTP_STATE (n : Nat) : Fld := ⟨(FP_STAT n), 5, 4⟩
def FP_STAT_AN_DONE (n : Nat) : Fld := ⟨(FP_STAT n), 3, 3⟩
def FP_STAT_MOD_ABS (n : Nat) : Fld := ⟨(FP_STAT n), 2, 2⟩
def FP_STAT_LOS (n : Nat) : Fld := ⟨(FP_STAT n), 1, 1⟩
def FP_STAT_LINK (n : Nat) : Fld := ⟨(FP_STAT n), 0, 0⟩

/-- FP_RXQ: BAR0 offset (spec/12_field_exchange (R310)). -/
def FP_RXQ (n : Nat) : Nat := 0x190044 + 0x1000 * n
def FP_RXQ_HIGH_KIB (n : Nat) : Fld := ⟨(FP_RXQ n), 27, 16⟩
def FP_RXQ_LEVEL_KIB (n : Nat) : Fld := ⟨(FP_RXQ n), 11, 0⟩

/-- FP_PTP_OFS: BAR0 offset (spec/12_field_exchange (R310)). -/
def FP_PTP_OFS (n : Nat) : Nat := 0x190048 + 0x1000 * n
def FP_PTP_OFS_OFFSET_NS (n : Nat) : Fld := ⟨(FP_PTP_OFS n), 31, 0⟩

/-- FP_CNT_RX: BAR0 offset (spec/12_field_exchange (R310)). -/
def FP_CNT_RX (n : Nat) : Nat := 0x190050 + 0x1000 * n
def FP_CNT_RX_COUNT (n : Nat) : Fld := ⟨(FP_CNT_RX n), 31, 0⟩

/-- FP_CNT_QDROP: BAR0 offset (spec/12_field_exchange (R310)). -/
def FP_CNT_QDROP (n : Nat) : Nat := 0x190054 + 0x1000 * n
def FP_CNT_QDROP_COUNT (n : Nat) : Fld := ⟨(FP_CNT_QDROP n), 31, 0⟩

/-- FP_CNT_BAD: BAR0 offset (spec/12_field_exchange (R310)). -/
def FP_CNT_BAD (n : Nat) : Nat := 0x190058 + 0x1000 * n
def FP_CNT_BAD_COUNT (n : Nat) : Fld := ⟨(FP_CNT_BAD n), 31, 0⟩

/-- FP_CNT_OTHER: BAR0 offset (spec/12_field_exchange (R310)). -/
def FP_CNT_OTHER (n : Nat) : Nat := 0x19005C + 0x1000 * n
def FP_CNT_OTHER_COUNT (n : Nat) : Fld := ⟨(FP_CNT_OTHER n), 31, 0⟩

/-- FP_CNT_AUTH: BAR0 offset (spec/12_field_exchange (R310)). -/
def FP_CNT_AUTH (n : Nat) : Nat := 0x190060 + 0x1000 * n
def FP_CNT_AUTH_COUNT (n : Nat) : Fld := ⟨(FP_CNT_AUTH n), 31, 0⟩

/-- FP_CNT_REPLAY: BAR0 offset (spec/12_field_exchange (R310)). -/
def FP_CNT_REPLAY (n : Nat) : Nat := 0x190064 + 0x1000 * n
def FP_CNT_REPLAY_COUNT (n : Nat) : Fld := ⟨(FP_CNT_REPLAY n), 31, 0⟩

/-- FP_CNT_SRC: BAR0 offset (spec/12_field_exchange (R310)). -/
def FP_CNT_SRC (n : Nat) : Nat := 0x190068 + 0x1000 * n
def FP_CNT_SRC_COUNT (n : Nat) : Fld := ⟨(FP_CNT_SRC n), 31, 0⟩

/-- FP_CNT_NOSESS: BAR0 offset (spec/12_field_exchange (R310)). -/
def FP_CNT_NOSESS (n : Nat) : Nat := 0x19006C + 0x1000 * n
def FP_CNT_NOSESS_COUNT (n : Nat) : Fld := ⟨(FP_CNT_NOSESS n), 31, 0⟩

/-- FP_CNT_UNKNOWN: BAR0 offset (spec/12_field_exchange (R310)). -/
def FP_CNT_UNKNOWN (n : Nat) : Nat := 0x190070 + 0x1000 * n
def FP_CNT_UNKNOWN_COUNT (n : Nat) : Fld := ⟨(FP_CNT_UNKNOWN n), 31, 0⟩

/-- FP_CNT_TX: BAR0 offset (spec/12_field_exchange (R310)). -/
def FP_CNT_TX (n : Nat) : Nat := 0x190074 + 0x1000 * n
def FP_CNT_TX_COUNT (n : Nat) : Fld := ⟨(FP_CNT_TX n), 31, 0⟩

/-- FP_CNT_KEY: BAR0 offset (spec/12_field_exchange (R310)). -/
def FP_CNT_KEY (n : Nat) : Nat := 0x190078 + 0x1000 * n
def FP_CNT_KEY_COUNT (n : Nat) : Fld := ⟨(FP_CNT_KEY n), 31, 0⟩

/-- FP_CNT_PAUSE: BAR0 offset (spec/12_field_exchange (R310)). -/
def FP_CNT_PAUSE (n : Nat) : Nat := 0x19007C + 0x1000 * n
def FP_CNT_PAUSE_COUNT (n : Nat) : Fld := ⟨(FP_CNT_PAUSE n), 31, 0⟩

/-! Registers of spec/13_plant_bus.md -/

/-- CB_CTL: BAR0 offset (spec/13_plant_bus (R326)). -/
def CB_CTL (n : Nat) : Nat := 0x1C0000 + 0x1000 * n
def CB_CTL_TDC_EN (n : Nat) : Fld := ⟨(CB_CTL n), 7, 7⟩
def CB_CTL_PEX_EN (n : Nat) : Fld := ⟨(CB_CTL n), 6, 6⟩
def CB_CTL_STB_EN (n : Nat) : Fld := ⟨(CB_CTL n), 5, 5⟩
def CB_CTL_WAKE_MODE (n : Nat) : Fld := ⟨(CB_CTL n), 4, 4⟩
def CB_CTL_SLEEP_REQ (n : Nat) : Fld := ⟨(CB_CTL n), 3, 3⟩
def CB_CTL_MON (n : Nat) : Fld := ⟨(CB_CTL n), 2, 2⟩
def CB_CTL_FD_EN (n : Nat) : Fld := ⟨(CB_CTL n), 1, 1⟩
def CB_CTL_EN (n : Nat) : Fld := ⟨(CB_CTL n), 0, 0⟩

/-- CB_NBT: BAR0 offset (spec/13_plant_bus (R326)). -/
def CB_NBT (n : Nat) : Nat := 0x1C0004 + 0x1000 * n
def CB_NBT_NBRP (n : Nat) : Fld := ⟨(CB_NBT n), 31, 23⟩
def CB_NBT_NTSEG1 (n : Nat) : Fld := ⟨(CB_NBT n), 22, 14⟩
def CB_NBT_NTSEG2 (n : Nat) : Fld := ⟨(CB_NBT n), 13, 7⟩
def CB_NBT_NSJW (n : Nat) : Fld := ⟨(CB_NBT n), 6, 0⟩

/-- CB_DBT: BAR0 offset (spec/13_plant_bus (R326)). -/
def CB_DBT (n : Nat) : Nat := 0x1C0008 + 0x1000 * n
def CB_DBT_DBRP (n : Nat) : Fld := ⟨(CB_DBT n), 31, 26⟩
def CB_DBT_DTSEG1 (n : Nat) : Fld := ⟨(CB_DBT n), 25, 20⟩
def CB_DBT_DTSEG2 (n : Nat) : Fld := ⟨(CB_DBT n), 19, 15⟩
def CB_DBT_DSJW (n : Nat) : Fld := ⟨(CB_DBT n), 14, 10⟩
def CB_DBT_TDCO (n : Nat) : Fld := ⟨(CB_DBT n), 6, 0⟩

/-- CB_TXW: BAR0 offset (spec/13_plant_bus (R326)). -/
def CB_TXW (n : Nat) : Nat := 0x1C000C + 0x1000 * n
def CB_TXW_TXW_US (n : Nat) : Fld := ⟨(CB_TXW n), 15, 0⟩

/-- CB_WAKE_ID: BAR0 offset (spec/13_plant_bus (R326)). -/
def CB_WAKE_ID (n : Nat) : Nat := 0x1C0010 + 0x1000 * n
def CB_WAKE_ID_IDE (n : Nat) : Fld := ⟨(CB_WAKE_ID n), 29, 29⟩
def CB_WAKE_ID_ID (n : Nat) : Fld := ⟨(CB_WAKE_ID n), 28, 0⟩

/-- CB_WAKE_DATA: BAR0 offset (spec/13_plant_bus (R326)). -/
def CB_WAKE_DATA (n : Nat) : Nat := 0x1C0014 + 0x1000 * n
def CB_WAKE_DATA_MASK (n : Nat) : Fld := ⟨(CB_WAKE_DATA n), 15, 8⟩
def CB_WAKE_DATA_VALUE (n : Nat) : Fld := ⟨(CB_WAKE_DATA n), 7, 0⟩

/-- CB_STAT: BAR0 offset (spec/13_plant_bus (R326)). -/
def CB_STAT (n : Nat) : Nat := 0x1C0020 + 0x1000 * n
def CB_STAT_PEX_SEEN (n : Nat) : Fld := ⟨(CB_STAT n), 26, 26⟩
def CB_STAT_BUSOFF_SEEN (n : Nat) : Fld := ⟨(CB_STAT n), 25, 25⟩
def CB_STAT_WAKE (n : Nat) : Fld := ⟨(CB_STAT n), 24, 24⟩
def CB_STAT_REC (n : Nat) : Fld := ⟨(CB_STAT n), 23, 16⟩
def CB_STAT_TEC (n : Nat) : Fld := ⟨(CB_STAT n), 15, 8⟩
def CB_STAT_ALONE (n : Nat) : Fld := ⟨(CB_STAT n), 3, 3⟩
def CB_STAT_STATE (n : Nat) : Fld := ⟨(CB_STAT n), 2, 0⟩

/-- CB_ERR: BAR0 offset (spec/13_plant_bus (R326)). -/
def CB_ERR (n : Nat) : Nat := 0x1C0024 + 0x1000 * n
def CB_ERR_CRC_FORM (n : Nat) : Fld := ⟨(CB_ERR n), 31, 24⟩
def CB_ERR_STUFF (n : Nat) : Fld := ⟨(CB_ERR n), 23, 16⟩
def CB_ERR_BIT (n : Nat) : Fld := ⟨(CB_ERR n), 15, 8⟩
def CB_ERR_ACK (n : Nat) : Fld := ⟨(CB_ERR n), 7, 0⟩

/-- CB_CNT_BUSOFF: BAR0 offset (spec/13_plant_bus (R326)). -/
def CB_CNT_BUSOFF (n : Nat) : Nat := 0x1C0028 + 0x1000 * n
def CB_CNT_BUSOFF_COUNT (n : Nat) : Fld := ⟨(CB_CNT_BUSOFF n), 31, 0⟩

/-- CB_CNT_LOST: BAR0 offset (spec/13_plant_bus (R326)). -/
def CB_CNT_LOST (n : Nat) : Nat := 0x1C002C + 0x1000 * n
def CB_CNT_LOST_COUNT (n : Nat) : Fld := ⟨(CB_CNT_LOST n), 31, 0⟩

/-- CB_CNT_UNMATCHED: BAR0 offset (spec/13_plant_bus (R326)). -/
def CB_CNT_UNMATCHED (n : Nat) : Nat := 0x1C0030 + 0x1000 * n
def CB_CNT_UNMATCHED_COUNT (n : Nat) : Fld := ⟨(CB_CNT_UNMATCHED n), 31, 0⟩

/-- CB_TDCV: BAR0 offset (spec/13_plant_bus (R326)). -/
def CB_TDCV (n : Nat) : Nat := 0x1C0034 + 0x1000 * n
def CB_TDCV_TDCV (n : Nat) : Fld := ⟨(CB_TDCV n), 6, 0⟩

/-- OBJ_CFG: BAR0 offset (spec/13_plant_bus (R326)). -/
def OBJ_CFG (n k : Nat) : Nat := 0x1C8000 + 0x7000 * n + 0x70 * k
def OBJ_CFG_DIR (n k : Nat) : Fld := ⟨(OBJ_CFG n k), 31, 30⟩
def OBJ_CFG_IDE (n k : Nat) : Fld := ⟨(OBJ_CFG n k), 29, 29⟩
def OBJ_CFG_ID (n k : Nat) : Fld := ⟨(OBJ_CFG n k), 28, 0⟩

/-- OBJ_FMT: BAR0 offset (spec/13_plant_bus (R326)). -/
def OBJ_FMT (n k : Nat) : Nat := 0x1C8004 + 0x7000 * n + 0x70 * k
def OBJ_FMT_BRS (n k : Nat) : Fld := ⟨(OBJ_FMT n k), 1, 1⟩
def OBJ_FMT_FDF (n k : Nat) : Fld := ⟨(OBJ_FMT n k), 0, 0⟩

/-- OBJ_STAT: BAR0 offset (spec/13_plant_bus (R326)). -/
def OBJ_STAT (n k : Nat) : Nat := 0x1C8008 + 0x7000 * n + 0x70 * k
def OBJ_STAT_RESULT (n k : Nat) : Fld := ⟨(OBJ_STAT n k), 31, 24⟩
def OBJ_STAT_DLC (n k : Nat) : Fld := ⟨(OBJ_STAT n k), 11, 8⟩
def OBJ_STAT_ESI (n k : Nat) : Fld := ⟨(OBJ_STAT n k), 6, 6⟩
def OBJ_STAT_BRS (n k : Nat) : Fld := ⟨(OBJ_STAT n k), 5, 5⟩
def OBJ_STAT_FDF (n k : Nat) : Fld := ⟨(OBJ_STAT n k), 4, 4⟩
def OBJ_STAT_LOST (n k : Nat) : Fld := ⟨(OBJ_STAT n k), 1, 1⟩
def OBJ_STAT_UNREAD (n k : Nat) : Fld := ⟨(OBJ_STAT n k), 0, 0⟩

/-- OBJ_RXCNT: BAR0 offset (spec/13_plant_bus (R326)). -/
def OBJ_RXCNT (n k : Nat) : Nat := 0x1C800C + 0x7000 * n + 0x70 * k
def OBJ_RXCNT_COUNT (n k : Nat) : Fld := ⟨(OBJ_RXCNT n k), 31, 0⟩

/-- OBJ_DATA: BAR0 offset (spec/13_plant_bus (R326)). -/
def OBJ_DATA (n k j : Nat) : Nat := 0x1C8010 + 0x7000 * n + 0x70 * k + 0x4 * j
def OBJ_DATA_DATA (n k j : Nat) : Fld := ⟨(OBJ_DATA n k j), 31, 0⟩

/-! Registers of spec/14_metering.md -/

/-- MT_CTL: BAR0 offset (spec/14_metering (R350)). -/
def MT_CTL : Nat := 0x200000
def MT_CTL_CAL_S : Fld := ⟨MT_CTL, 15, 8⟩
def MT_CTL_CAL_EN : Fld := ⟨MT_CTL, 0, 0⟩

/-- MT_STAT: BAR0 offset (spec/14_metering (R350)). -/
def MT_STAT : Nat := 0x200004
def MT_STAT_SAT_ANY : Fld := ⟨MT_STAT, 9, 9⟩
def MT_STAT_FROZEN : Fld := ⟨MT_STAT, 8, 8⟩
def MT_STAT_CAL_BUSY : Fld := ⟨MT_STAT, 7, 7⟩
def MT_STAT_CAL_CH : Fld := ⟨MT_STAT, 5, 0⟩

/-- MT_CNT_STEPBACK: BAR0 offset (spec/14_metering (R350)). -/
def MT_CNT_STEPBACK : Nat := 0x200010
def MT_CNT_STEPBACK_COUNT : Fld := ⟨MT_CNT_STEPBACK, 31, 0⟩

/-- MT_CNT_CALFAIL: BAR0 offset (spec/14_metering (R350)). -/
def MT_CNT_CALFAIL : Nat := 0x200014
def MT_CNT_CALFAIL_COUNT : Fld := ⟨MT_CNT_CALFAIL, 31, 0⟩

/-- MT_ADC_CFG: BAR0 offset (spec/14_metering (R350)). -/
def MT_ADC_CFG (n : Nat) : Nat := 0x200100 + 0x10 * n
def MT_ADC_CFG_HG_LIMIT (n : Nat) : Fld := ⟨(MT_ADC_CFG n), 23, 16⟩
def MT_ADC_CFG_PH_TRIM (n : Nat) : Fld := ⟨(MT_ADC_CFG n), 15, 8⟩
def MT_ADC_CFG_HG_EN (n : Nat) : Fld := ⟨(MT_ADC_CFG n), 1, 1⟩
def MT_ADC_CFG_EN (n : Nat) : Fld := ⟨(MT_ADC_CFG n), 0, 0⟩

/-- MT_ADC_SCALE: BAR0 offset (spec/14_metering (R350)). -/
def MT_ADC_SCALE (n : Nat) : Nat := 0x200104 + 0x10 * n
def MT_ADC_SCALE_VALUE (n : Nat) : Fld := ⟨(MT_ADC_SCALE n), 31, 0⟩

/-- MT_ADC_OFS: BAR0 offset (spec/14_metering (R350)). -/
def MT_ADC_OFS (n : Nat) : Nat := 0x200108 + 0x10 * n
def MT_ADC_OFS_VALUE (n : Nat) : Fld := ⟨(MT_ADC_OFS n), 31, 0⟩

/-- MT_ADC_STAT: BAR0 offset (spec/14_metering (R350)). -/
def MT_ADC_STAT (n : Nat) : Nat := 0x20010C + 0x10 * n
def MT_ADC_STAT_OVERLOADS (n : Nat) : Fld := ⟨(MT_ADC_STAT n), 31, 16⟩
def MT_ADC_STAT_CAL_FAIL (n : Nat) : Fld := ⟨(MT_ADC_STAT n), 2, 2⟩
def MT_ADC_STAT_FAULT (n : Nat) : Fld := ⟨(MT_ADC_STAT n), 1, 1⟩
def MT_ADC_STAT_HG_IN_USE (n : Nat) : Fld := ⟨(MT_ADC_STAT n), 0, 0⟩

/-- MT_RTD_CFG: BAR0 offset (spec/14_metering (R350)). -/
def MT_RTD_CFG (n : Nat) : Nat := 0x200400 + 0x8 * n
def MT_RTD_CFG_TYPE (n : Nat) : Fld := ⟨(MT_RTD_CFG n), 1, 0⟩

/-- MT_RTD_STAT: BAR0 offset (spec/14_metering (R350)). -/
def MT_RTD_STAT (n : Nat) : Nat := 0x200404 + 0x8 * n
def MT_RTD_STAT_SHORT (n : Nat) : Fld := ⟨(MT_RTD_STAT n), 1, 1⟩
def MT_RTD_STAT_OPEN (n : Nat) : Fld := ⟨(MT_RTD_STAT n), 0, 0⟩

/-- MT_PLS_CFG: BAR0 offset (spec/14_metering (R350)). -/
def MT_PLS_CFG (n : Nat) : Nat := 0x200600 + 0x8 * n
def MT_PLS_CFG_DEB (n : Nat) : Fld := ⟨(MT_PLS_CFG n), 15, 8⟩
def MT_PLS_CFG_PULLUP (n : Nat) : Fld := ⟨(MT_PLS_CFG n), 2, 2⟩
def MT_PLS_CFG_EDGE (n : Nat) : Fld := ⟨(MT_PLS_CFG n), 1, 1⟩
def MT_PLS_CFG_EN (n : Nat) : Fld := ⟨(MT_PLS_CFG n), 0, 0⟩

/-- MT_PLS_CNT: BAR0 offset (spec/14_metering (R350)). -/
def MT_PLS_CNT (n : Nat) : Nat := 0x200604 + 0x8 * n
def MT_PLS_CNT_COUNT (n : Nat) : Fld := ⟨(MT_PLS_CNT n), 31, 0⟩

/-- MT_FDR_VCH: BAR0 offset (spec/14_metering (R350)). -/
def MT_FDR_VCH (n : Nat) : Nat := 0x200800 + 0x10 * n
def MT_FDR_VCH_EN (n : Nat) : Fld := ⟨(MT_FDR_VCH n), 31, 31⟩
def MT_FDR_VCH_WIRING (n : Nat) : Fld := ⟨(MT_FDR_VCH n), 24, 24⟩
def MT_FDR_VCH_V3 (n : Nat) : Fld := ⟨(MT_FDR_VCH n), 20, 16⟩
def MT_FDR_VCH_V2 (n : Nat) : Fld := ⟨(MT_FDR_VCH n), 12, 8⟩
def MT_FDR_VCH_V1 (n : Nat) : Fld := ⟨(MT_FDR_VCH n), 4, 0⟩

/-- MT_FDR_ICH: BAR0 offset (spec/14_metering (R350)). -/
def MT_FDR_ICH (n : Nat) : Nat := 0x200804 + 0x10 * n
def MT_FDR_ICH_I3 (n : Nat) : Fld := ⟨(MT_FDR_ICH n), 20, 16⟩
def MT_FDR_ICH_I2 (n : Nat) : Fld := ⟨(MT_FDR_ICH n), 12, 8⟩
def MT_FDR_ICH_I1 (n : Nat) : Fld := ⟨(MT_FDR_ICH n), 4, 0⟩

/-- MT_FDR_START: BAR0 offset (spec/14_metering (R350)). -/
def MT_FDR_START (n : Nat) : Nat := 0x200808 + 0x10 * n
def MT_FDR_START_START_W (n : Nat) : Fld := ⟨(MT_FDR_START n), 31, 0⟩

/-- MT_FDR_STAT: BAR0 offset (spec/14_metering (R350)). -/
def MT_FDR_STAT (n : Nat) : Nat := 0x20080C + 0x10 * n
def MT_FDR_STAT_QUADRANT (n : Nat) : Fld := ⟨(MT_FDR_STAT n), 3, 2⟩
def MT_FDR_STAT_CLIP (n : Nat) : Fld := ⟨(MT_FDR_STAT n), 1, 1⟩
def MT_FDR_STAT_NO_SYNC (n : Nat) : Fld := ⟨(MT_FDR_STAT n), 0, 0⟩

/-- MT_HM_SRC: BAR0 offset (spec/14_metering (R350)). -/
def MT_HM_SRC (n : Nat) : Nat := 0x200A00 + 0x20 * n
def MT_HM_SRC_EN (n : Nat) : Fld := ⟨(MT_HM_SRC n), 31, 31⟩
def MT_HM_SRC_FLOW_KIND (n : Nat) : Fld := ⟨(MT_HM_SRC n), 30, 30⟩
def MT_HM_SRC_MODE (n : Nat) : Fld := ⟨(MT_HM_SRC n), 29, 28⟩
def MT_HM_SRC_FLOW_POS (n : Nat) : Fld := ⟨(MT_HM_SRC n), 27, 27⟩
def MT_HM_SRC_DIR_EN (n : Nat) : Fld := ⟨(MT_HM_SRC n), 26, 26⟩
def MT_HM_SRC_DIR_CH (n : Nat) : Fld := ⟨(MT_HM_SRC n), 25, 21⟩
def MT_HM_SRC_FLOW_CH (n : Nat) : Fld := ⟨(MT_HM_SRC n), 20, 16⟩
def MT_HM_SRC_SUP_RTD (n : Nat) : Fld := ⟨(MT_HM_SRC n), 7, 4⟩
def MT_HM_SRC_RET_RTD (n : Nat) : Fld := ⟨(MT_HM_SRC n), 3, 0⟩

/-- MT_HM_K: BAR0 offset (spec/14_metering (R350)). -/
def MT_HM_K (n : Nat) : Nat := 0x200A04 + 0x20 * n
def MT_HM_K_K (n : Nat) : Fld := ⟨(MT_HM_K n), 31, 0⟩

/-- MT_HM_CUT: BAR0 offset (spec/14_metering (R350)). -/
def MT_HM_CUT (n : Nat) : Nat := 0x200A08 + 0x20 * n
def MT_HM_CUT_DT_MIN (n : Nat) : Fld := ⟨(MT_HM_CUT n), 31, 16⟩
def MT_HM_CUT_LF_CUT (n : Nat) : Fld := ⟨(MT_HM_CUT n), 15, 0⟩

/-- MT_HM_P: BAR0 offset (spec/14_metering (R350)). -/
def MT_HM_P (n : Nat) : Nat := 0x200A0C + 0x20 * n
def MT_HM_P_P_ABS (n : Nat) : Fld := ⟨(MT_HM_P n), 31, 0⟩

/-- MT_HM_REV: BAR0 offset (spec/14_metering (R350)). -/
def MT_HM_REV (n : Nat) : Nat := 0x200A10 + 0x20 * n
def MT_HM_REV_REV_HIST (n : Nat) : Fld := ⟨(MT_HM_REV n), 9, 0⟩

/-- MT_HM_STAT: BAR0 offset (spec/14_metering (R350)). -/
def MT_HM_STAT (n : Nat) : Nat := 0x200A14 + 0x20 * n
def MT_HM_STAT_UNMETERED_S (n : Nat) : Fld := ⟨(MT_HM_STAT n), 31, 16⟩
def MT_HM_STAT_DIR (n : Nat) : Fld := ⟨(MT_HM_STAT n), 4, 4⟩
def MT_HM_STAT_FLOW_FAULT (n : Nat) : Fld := ⟨(MT_HM_STAT n), 3, 3⟩
def MT_HM_STAT_T_FAULT (n : Nat) : Fld := ⟨(MT_HM_STAT n), 2, 2⟩
def MT_HM_STAT_RANGE (n : Nat) : Fld := ⟨(MT_HM_STAT n), 1, 1⟩

/-- MT_FE_LO: BAR0 offset (spec/14_metering (R350)). -/
def MT_FE_LO (n k : Nat) : Nat := 0x210000 + 0x100 * n + 0x10 * k
def MT_FE_LO_LO (n k : Nat) : Fld := ⟨(MT_FE_LO n k), 31, 0⟩

/-- MT_FE_MID: BAR0 offset (spec/14_metering (R350)). -/
def MT_FE_MID (n k : Nat) : Nat := 0x210004 + 0x100 * n + 0x10 * k
def MT_FE_MID_MID (n k : Nat) : Fld := ⟨(MT_FE_MID n k), 31, 0⟩

/-- MT_FE_HI: BAR0 offset (spec/14_metering (R350)). -/
def MT_FE_HI (n k : Nat) : Nat := 0x210008 + 0x100 * n + 0x10 * k
def MT_FE_HI_HI (n k : Nat) : Fld := ⟨(MT_FE_HI n k), 31, 0⟩

/-- MT_FE_FLG: BAR0 offset (spec/14_metering (R350)). -/
def MT_FE_FLG (n k : Nat) : Nat := 0x21000C + 0x100 * n + 0x10 * k
def MT_FE_FLG_SAT (n k : Nat) : Fld := ⟨(MT_FE_FLG n k), 0, 0⟩

/-- MT_HE_LO: BAR0 offset (spec/14_metering (R350)). -/
def MT_HE_LO (n k : Nat) : Nat := 0x211000 + 0x100 * n + 0x10 * k
def MT_HE_LO_LO (n k : Nat) : Fld := ⟨(MT_HE_LO n k), 31, 0⟩

/-- MT_HE_MID: BAR0 offset (spec/14_metering (R350)). -/
def MT_HE_MID (n k : Nat) : Nat := 0x211004 + 0x100 * n + 0x10 * k
def MT_HE_MID_MID (n k : Nat) : Fld := ⟨(MT_HE_MID n k), 31, 0⟩

/-- MT_HE_HI: BAR0 offset (spec/14_metering (R350)). -/
def MT_HE_HI (n k : Nat) : Nat := 0x211008 + 0x100 * n + 0x10 * k
def MT_HE_HI_HI (n k : Nat) : Fld := ⟨(MT_HE_HI n k), 31, 0⟩

/-- MT_HE_FLG: BAR0 offset (spec/14_metering (R350)). -/
def MT_HE_FLG (n k : Nat) : Nat := 0x21100C + 0x100 * n + 0x10 * k
def MT_HE_FLG_SAT (n k : Nat) : Fld := ⟨(MT_HE_FLG n k), 0, 0⟩

/-- MT_HE_REV: BAR0 offset (spec/14_metering (R350)). -/
def MT_HE_REV (n : Nat) : Nat := 0x211060 + 0x100 * n
def MT_HE_REV_COUNT (n : Nat) : Fld := ⟨(MT_HE_REV n), 31, 0⟩

/-! Registers of spec/15_redundant_pair.md -/

/-- PAIR_CFG: BAR0 offset (spec/15_redundant_pair (R374)). -/
def PAIR_CFG : Nat := 0x240000
def PAIR_CFG_TRI_ECC_MAX : Fld := ⟨PAIR_CFG, 23, 16⟩
def PAIR_CFG_TRI_LANE : Fld := ⟨PAIR_CFG, 15, 8⟩
def PAIR_CFG_COMPARE_EN : Fld := ⟨PAIR_CFG, 1, 1⟩
def PAIR_CFG_PAIRED : Fld := ⟨PAIR_CFG, 0, 0⟩

/-- PAIR_CMD: BAR0 offset (spec/15_redundant_pair (R374)). -/
def PAIR_CMD : Nat := 0x240004
def PAIR_CMD_CMD : Fld := ⟨PAIR_CMD, 3, 0⟩

/-- PAIR_STAT: BAR0 offset (spec/15_redundant_pair (R374)). -/
def PAIR_STAT : Nat := 0x240008
def PAIR_STAT_CONSEC : Fld := ⟨PAIR_STAT, 13, 12⟩
def PAIR_STAT_TRI_BUSY : Fld := ⟨PAIR_STAT, 11, 11⟩
def PAIR_STAT_PARTNER_ROLE : Fld := ⟨PAIR_STAT, 10, 10⟩
def PAIR_STAT_PARTNER : Fld := ⟨PAIR_STAT, 9, 9⟩
def PAIR_STAT_AUTH_IN : Fld := ⟨PAIR_STAT, 8, 8⟩
def PAIR_STAT_LINK_UP : Fld := ⟨PAIR_STAT, 7, 7⟩
def PAIR_STAT_UNTRUSTED : Fld := ⟨PAIR_STAT, 6, 6⟩
def PAIR_STAT_READY : Fld := ⟨PAIR_STAT, 5, 5⟩
def PAIR_STAT_STATE : Fld := ⟨PAIR_STAT, 2, 0⟩

/-- PAIR_EPOCH: BAR0 offset (spec/15_redundant_pair (R374)). -/
def PAIR_EPOCH : Nat := 0x24000C
def PAIR_EPOCH_EPOCH : Fld := ⟨PAIR_EPOCH, 31, 0⟩

/-- PAIR_LIMIT: BAR0 offset (spec/15_redundant_pair (R374)). -/
def PAIR_LIMIT : Nat := 0x240010
def PAIR_LIMIT_KIB : Fld := ⟨PAIR_LIMIT, 19, 0⟩

/-- PAIR_STATIC: BAR0 offset (spec/15_redundant_pair (R374)). -/
def PAIR_STATIC : Nat := 0x240014
def PAIR_STATIC_KIB : Fld := ⟨PAIR_STATIC, 19, 0⟩

/-- PAIR_COPY: BAR0 offset (spec/15_redundant_pair (R374)). -/
def PAIR_COPY : Nat := 0x240018
def PAIR_COPY_MAX_US : Fld := ⟨PAIR_COPY, 31, 16⟩
def PAIR_COPY_LAST_KIB : Fld := ⟨PAIR_COPY, 15, 0⟩

/-- PAIR_SWITCH: BAR0 offset (spec/15_redundant_pair (R374)). -/
def PAIR_SWITCH : Nat := 0x24001C
def PAIR_SWITCH_COUNT : Fld := ⟨PAIR_SWITCH, 31, 24⟩
def PAIR_SWITCH_GAP_US : Fld := ⟨PAIR_SWITCH, 23, 0⟩

/-- PAIR_TRI: BAR0 offset (spec/15_redundant_pair (R374)). -/
def PAIR_TRI : Nat := 0x240020
def PAIR_TRI_PARTNER : Fld := ⟨PAIR_TRI, 6, 4⟩
def PAIR_TRI_OWN : Fld := ⟨PAIR_TRI, 2, 0⟩

/-- PAIR_CNT_MISMATCH: BAR0 offset (spec/15_redundant_pair (R374)). -/
def PAIR_CNT_MISMATCH : Nat := 0x240024
def PAIR_CNT_MISMATCH_UNRESOLVED : Fld := ⟨PAIR_CNT_MISMATCH, 31, 16⟩
def PAIR_CNT_MISMATCH_MISMATCH : Fld := ⟨PAIR_CNT_MISMATCH, 15, 0⟩

/-- PAIR_CNT_COPY: BAR0 offset (spec/15_redundant_pair (R374)). -/
def PAIR_CNT_COPY : Nat := 0x240028
def PAIR_CNT_COPY_COUNT : Fld := ⟨PAIR_CNT_COPY, 31, 0⟩

/-- PAIR_CNT_INDIFF: BAR0 offset (spec/15_redundant_pair (R374)). -/
def PAIR_CNT_INDIFF : Nat := 0x24002C
def PAIR_CNT_INDIFF_COUNT : Fld := ⟨PAIR_CNT_INDIFF, 31, 0⟩

/-- PAIR_LINK: BAR0 offset (spec/15_redundant_pair (R374)). -/
def PAIR_LINK : Nat := 0x240030
def PAIR_LINK_DOWN_CNT : Fld := ⟨PAIR_LINK, 31, 16⟩
def PAIR_LINK_CRC_ERR : Fld := ⟨PAIR_LINK, 15, 8⟩
def PAIR_LINK_ALIVE : Fld := ⟨PAIR_LINK, 2, 2⟩
def PAIR_LINK_LOCK : Fld := ⟨PAIR_LINK, 1, 0⟩

/-! Registers of spec/16_key_store_and_life_cycle.md -/

/-- KS_STAT: BAR0 offset (spec/16_key_store_and_life_cycle (R399)). -/
def KS_STAT : Nat := 0x260000
def KS_STAT_LAST_CODE : Fld := ⟨KS_STAT, 31, 24⟩
def KS_STAT_LAST_OP : Fld := ⟨KS_STAT, 23, 16⟩
def KS_STAT_DEBUG_OPEN : Fld := ⟨KS_STAT, 7, 7⟩
def KS_STAT_SECURE_DEBUG : Fld := ⟨KS_STAT, 6, 6⟩
def KS_STAT_BOUND_OK : Fld := ⟨KS_STAT, 5, 5⟩
def KS_STAT_PENDING_LC : Fld := ⟨KS_STAT, 4, 4⟩
def KS_STAT_BUSY : Fld := ⟨KS_STAT, 3, 3⟩
def KS_STAT_STORE_FAULT : Fld := ⟨KS_STAT, 2, 2⟩
def KS_STAT_LC : Fld := ⟨KS_STAT, 1, 0⟩

/-- KS_CTR_LO: BAR0 offset (spec/16_key_store_and_life_cycle (R399)). -/
def KS_CTR_LO : Nat := 0x260010
def KS_CTR_LO_CTR : Fld := ⟨KS_CTR_LO, 31, 0⟩

/-- KS_CTR_HI: BAR0 offset (spec/16_key_store_and_life_cycle (R399)). -/
def KS_CTR_HI : Nat := 0x260014
def KS_CTR_HI_CTR : Fld := ⟨KS_CTR_HI, 31, 0⟩

/-- KS_FLOOR: BAR0 offset (spec/16_key_store_and_life_cycle (R399)). -/
def KS_FLOOR : Nat := 0x260018
def KS_FLOOR_FLOOR : Fld := ⟨KS_FLOOR, 31, 0⟩

/-- KS_FR_KCV_LO: BAR0 offset (spec/16_key_store_and_life_cycle (R399)). -/
def KS_FR_KCV_LO : Nat := 0x260020
def KS_FR_KCV_LO_KCV : Fld := ⟨KS_FR_KCV_LO, 31, 0⟩

/-- KS_FR_KCV_HI: BAR0 offset (spec/16_key_store_and_life_cycle (R399)). -/
def KS_FR_KCV_HI : Nat := 0x260024
def KS_FR_KCV_HI_KCV : Fld := ⟨KS_FR_KCV_HI, 31, 0⟩

/-- KS_STN_REVOKED: BAR0 offset (spec/16_key_store_and_life_cycle (R399)). -/
def KS_STN_REVOKED : Nat := 0x260028
def KS_STN_REVOKED_COUNT : Fld := ⟨KS_STN_REVOKED, 31, 0⟩

/-- KS_CNT_REJECT: BAR0 offset (spec/16_key_store_and_life_cycle (R399)). -/
def KS_CNT_REJECT : Nat := 0x26002C
def KS_CNT_REJECT_COUNT : Fld := ⟨KS_CNT_REJECT, 31, 0⟩

/-- KS_SLOT: BAR0 offset (spec/16_key_store_and_life_cycle (R399)). -/
def KS_SLOT (n : Nat) : Nat := 0x260100 + 0x4 * n
def KS_SLOT_PARENT (n : Nat) : Fld := ⟨(KS_SLOT n), 31, 24⟩
def KS_SLOT_USE (n : Nat) : Fld := ⟨(KS_SLOT n), 23, 20⟩
def KS_SLOT_TYPE (n : Nat) : Fld := ⟨(KS_SLOT n), 17, 16⟩
def KS_SLOT_BOUND (n : Nat) : Fld := ⟨(KS_SLOT n), 7, 7⟩
def KS_SLOT_SOURCE (n : Nat) : Fld := ⟨(KS_SLOT n), 6, 6⟩
def KS_SLOT_STATE (n : Nat) : Fld := ⟨(KS_SLOT n), 2, 0⟩

/-- KS_IN: BAR0 offset (spec/16_key_store_and_life_cycle (R399)). -/
def KS_IN (n : Nat) : Nat := 0x260400 + 0x4 * n
def KS_IN_DATA (n : Nat) : Fld := ⟨(KS_IN n), 31, 0⟩

/-- KS_OUT: BAR0 offset (spec/16_key_store_and_life_cycle (R399)). -/
def KS_OUT (n : Nat) : Nat := 0x260800 + 0x4 * n
def KS_OUT_DATA (n : Nat) : Fld := ⟨(KS_OUT n), 31, 0⟩

/-- DBG_STAT: BAR0 offset (spec/16_key_store_and_life_cycle (R399)). -/
def DBG_STAT : Nat := 0x2E0000
def DBG_STAT_LAST_CODE : Fld := ⟨DBG_STAT, 31, 24⟩
def DBG_STAT_SCOPE : Fld := ⟨DBG_STAT, 10, 8⟩
def DBG_STAT_CHAL_VALID : Fld := ⟨DBG_STAT, 0, 0⟩

/-- DBG_CTL: BAR0 offset (spec/16_key_store_and_life_cycle (R399)). -/
def DBG_CTL : Nat := 0x2E0004
def DBG_CTL_CLOSE : Fld := ⟨DBG_CTL, 2, 2⟩
def DBG_CTL_PRESENT : Fld := ⟨DBG_CTL, 1, 1⟩
def DBG_CTL_NEW_CHAL : Fld := ⟨DBG_CTL, 0, 0⟩

/-- DBG_CHAL: BAR0 offset (spec/16_key_store_and_life_cycle (R399)). -/
def DBG_CHAL (n : Nat) : Nat := 0x2E0010 + 0x4 * n
def DBG_CHAL_DATA (n : Nat) : Fld := ⟨(DBG_CHAL n), 31, 0⟩

/-- DBG_TOKEN: BAR0 offset (spec/16_key_store_and_life_cycle (R399)). -/
def DBG_TOKEN (n : Nat) : Nat := 0x2E0100 + 0x4 * n
def DBG_TOKEN_DATA (n : Nat) : Fld := ⟨(DBG_TOKEN n), 31, 0⟩

/-! Registers of spec/17_gleaner_and_harrow.md -/

/-- GL_CTL: BAR0 offset (spec/17_gleaner_and_harrow (R417)). -/
def GL_CTL : Nat := 0x280000
def GL_CTL_FREEZE_MAX : Fld := ⟨GL_CTL, 15, 8⟩
def GL_CTL_FREEZE : Fld := ⟨GL_CTL, 0, 0⟩

/-- GL_STAT: BAR0 offset (spec/17_gleaner_and_harrow (R417)). -/
def GL_STAT : Nat := 0x280004
def GL_STAT_FREEZE_EXPIRED : Fld := ⟨GL_STAT, 2, 2⟩
def GL_STAT_ROLLING : Fld := ⟨GL_STAT, 1, 1⟩
def GL_STAT_FROZEN : Fld := ⟨GL_STAT, 0, 0⟩

/-- GL_LOG_WR: BAR0 offset (spec/17_gleaner_and_harrow (R417)). -/
def GL_LOG_WR : Nat := 0x280010
def GL_LOG_WR_INDEX : Fld := ⟨GL_LOG_WR, 31, 0⟩

/-- GL_LOG_RD: BAR0 offset (spec/17_gleaner_and_harrow (R417)). -/
def GL_LOG_RD : Nat := 0x280014
def GL_LOG_RD_INDEX : Fld := ⟨GL_LOG_RD, 31, 0⟩

/-- GL_LOG_STAT: BAR0 offset (spec/17_gleaner_and_harrow (R417)). -/
def GL_LOG_STAT : Nat := 0x280018
def GL_LOG_STAT_OVERWRITTEN : Fld := ⟨GL_LOG_STAT, 31, 16⟩
def GL_LOG_STAT_LEVEL : Fld := ⟨GL_LOG_STAT, 12, 0⟩

/-- GL_CNT: BAR0 offset (spec/17_gleaner_and_harrow (R417)). -/
def GL_CNT : Nat := 0x28001C
def GL_CNT_HDROP : Fld := ⟨GL_CNT, 31, 16⟩
def GL_CNT_UNDEF : Fld := ⟨GL_CNT, 15, 0⟩

/-- GL_LOSS: BAR0 offset (spec/17_gleaner_and_harrow (R417)). -/
def GL_LOSS (n : Nat) : Nat := 0x280100 + 0x4 * n
def GL_LOSS_COUNT (n : Nat) : Fld := ⟨(GL_LOSS n), 31, 0⟩

/-- HR_CFG: BAR0 offset (spec/17_gleaner_and_harrow (R417)). -/
def HR_CFG : Nat := 0x2A0000
def HR_CFG_TEST_S : Fld := ⟨HR_CFG, 31, 24⟩
def HR_CFG_SCRUB_H : Fld := ⟨HR_CFG, 20, 16⟩
def HR_CFG_TEMP_WARN : Fld := ⟨HR_CFG, 15, 8⟩
def HR_CFG_TEMP_CRIT : Fld := ⟨HR_CFG, 7, 0⟩

/-- HR_HIST: BAR0 offset (spec/17_gleaner_and_harrow (R417)). -/
def HR_HIST : Nat := 0x2A0004
def HR_HIST_TEMP_HIST : Fld := ⟨HR_HIST, 9, 0⟩

/-- HR_ECC_SDRAM: BAR0 offset (spec/17_gleaner_and_harrow (R417)). -/
def HR_ECC_SDRAM : Nat := 0x2A0008
def HR_ECC_SDRAM_UNCORR : Fld := ⟨HR_ECC_SDRAM, 31, 16⟩
def HR_ECC_SDRAM_CORR : Fld := ⟨HR_ECC_SDRAM, 15, 0⟩

/-- HR_ECC_SRAM: BAR0 offset (spec/17_gleaner_and_harrow (R417)). -/
def HR_ECC_SRAM : Nat := 0x2A000C
def HR_ECC_SRAM_UNCORR : Fld := ⟨HR_ECC_SRAM, 31, 16⟩
def HR_ECC_SRAM_CORR : Fld := ⟨HR_ECC_SRAM, 15, 0⟩

/-- HR_UE_ADDR_LO: BAR0 offset (spec/17_gleaner_and_harrow (R417)). -/
def HR_UE_ADDR_LO : Nat := 0x2A0010
def HR_UE_ADDR_LO_ADDR : Fld := ⟨HR_UE_ADDR_LO, 31, 0⟩

/-- HR_UE_ADDR_HI: BAR0 offset (spec/17_gleaner_and_harrow (R417)). -/
def HR_UE_ADDR_HI : Nat := 0x2A0014
def HR_UE_ADDR_HI_AREA : Fld := ⟨HR_UE_ADDR_HI, 31, 24⟩
def HR_UE_ADDR_HI_ADDR : Fld := ⟨HR_UE_ADDR_HI, 7, 0⟩

/-- HR_TEST: BAR0 offset (spec/17_gleaner_and_harrow (R417)). -/
def HR_TEST : Nat := 0x2A0018
def HR_TEST_TESTS : Fld := ⟨HR_TEST, 31, 16⟩
def HR_TEST_LAST_LANE : Fld := ⟨HR_TEST, 7, 0⟩

/-- HR_TEMP: BAR0 offset (spec/17_gleaner_and_harrow (R417)). -/
def HR_TEMP (n : Nat) : Nat := 0x2A0100 + 0x4 * n
def HR_TEMP_MAX (n : Nat) : Fld := ⟨(HR_TEMP n), 31, 16⟩
def HR_TEMP_TEMP (n : Nat) : Fld := ⟨(HR_TEMP n), 15, 0⟩

/-- HR_SUP: BAR0 offset (spec/17_gleaner_and_harrow (R417)). -/
def HR_SUP (n : Nat) : Nat := 0x2A0140 + 0x4 * n
def HR_SUP_OUT (n : Nat) : Fld := ⟨(HR_SUP n), 16, 16⟩
def HR_SUP_MV (n : Nat) : Fld := ⟨(HR_SUP n), 15, 0⟩

/-- HR_ARCH_WR: BAR0 offset (spec/17_gleaner_and_harrow (R417)). -/
def HR_ARCH_WR : Nat := 0x2A0200
def HR_ARCH_WR_SEQ : Fld := ⟨HR_ARCH_WR, 31, 0⟩

/-- HR_ARCH_ACK: BAR0 offset (spec/17_gleaner_and_harrow (R417)). -/
def HR_ARCH_ACK : Nat := 0x2A0204
def HR_ARCH_ACK_SEQ : Fld := ⟨HR_ARCH_ACK, 31, 0⟩

/-- HR_ARCH_STAT: BAR0 offset (spec/17_gleaner_and_harrow (R417)). -/
def HR_ARCH_STAT : Nat := 0x2A0208
def HR_ARCH_STAT_LOST : Fld := ⟨HR_ARCH_STAT, 31, 16⟩
def HR_ARCH_STAT_ERASE_MAX : Fld := ⟨HR_ARCH_STAT, 15, 0⟩

/-! Registers of spec/18_balls_power_and_timing.md -/

/-- CP_TIME_SEC_LO: BAR0 offset (spec/18_balls_power_and_timing (R437)). -/
def CP_TIME_SEC_LO : Nat := 0x2C0000
def CP_TIME_SEC_LO_SEC : Fld := ⟨CP_TIME_SEC_LO, 31, 0⟩

/-- CP_TIME_SEC_HI: BAR0 offset (spec/18_balls_power_and_timing (R437)). -/
def CP_TIME_SEC_HI : Nat := 0x2C0004
def CP_TIME_SEC_HI_SEC : Fld := ⟨CP_TIME_SEC_HI, 31, 0⟩

/-- CP_TIME_NS: BAR0 offset (spec/18_balls_power_and_timing (R437)). -/
def CP_TIME_NS : Nat := 0x2C0008
def CP_TIME_NS_NS : Fld := ⟨CP_TIME_NS, 29, 0⟩

/-- CP_TIME_SET_LO: BAR0 offset (spec/18_balls_power_and_timing (R437)). -/
def CP_TIME_SET_LO : Nat := 0x2C0010
def CP_TIME_SET_LO_SEC : Fld := ⟨CP_TIME_SET_LO, 31, 0⟩

/-- CP_TIME_SET_HI: BAR0 offset (spec/18_balls_power_and_timing (R437)). -/
def CP_TIME_SET_HI : Nat := 0x2C0014
def CP_TIME_SET_HI_SEC : Fld := ⟨CP_TIME_SET_HI, 31, 0⟩

/-- CP_TIME_SET_FRAC: BAR0 offset (spec/18_balls_power_and_timing (R437)). -/
def CP_TIME_SET_FRAC : Nat := 0x2C0018
def CP_TIME_SET_FRAC_FRAC : Fld := ⟨CP_TIME_SET_FRAC, 14, 0⟩

/-- CP_TIME_CTL: BAR0 offset (spec/18_balls_power_and_timing (R437)). -/
def CP_TIME_CTL : Nat := 0x2C001C
def CP_TIME_CTL_SOURCE : Fld := ⟨CP_TIME_CTL, 5, 4⟩
def CP_TIME_CTL_STEPPED : Fld := ⟨CP_TIME_CTL, 3, 3⟩
def CP_TIME_CTL_TIME_BUSY : Fld := ⟨CP_TIME_CTL, 1, 1⟩
def CP_TIME_CTL_SET : Fld := ⟨CP_TIME_CTL, 0, 0⟩

/-- CP_CLK_STAT: BAR0 offset (spec/18_balls_power_and_timing (R437)). -/
def CP_CLK_STAT : Nat := 0x2C0020
def CP_CLK_STAT_SEEN : Fld := ⟨CP_CLK_STAT, 27, 16⟩
def CP_CLK_STAT_STOPPED : Fld := ⟨CP_CLK_STAT, 11, 0⟩

/-- CP_DDR_STAT: BAR0 offset (spec/18_balls_power_and_timing (R437)). -/
def CP_DDR_STAT : Nat := 0x2C0030
def CP_DDR_STAT_SIZE_GIB : Fld := ⟨CP_DDR_STAT, 20, 16⟩
def CP_DDR_STAT_ECC_DONE : Fld := ⟨CP_DDR_STAT, 1, 1⟩
def CP_DDR_STAT_TRAINED : Fld := ⟨CP_DDR_STAT, 0, 0⟩

/-- CP_XSPI_STAT: BAR0 offset (spec/18_balls_power_and_timing (R437)). -/
def CP_XSPI_STAT : Nat := 0x2C0040
def CP_XSPI_STAT_XR1 : Fld := ⟨CP_XSPI_STAT, 31, 24⟩
def CP_XSPI_STAT_XR0 : Fld := ⟨CP_XSPI_STAT, 23, 16⟩
def CP_XSPI_STAT_XN1 : Fld := ⟨CP_XSPI_STAT, 15, 8⟩
def CP_XSPI_STAT_XN0 : Fld := ⟨CP_XSPI_STAT, 7, 0⟩

/-- The registers of the Global block, one row per register family. -/
def rowsGlobal : List RegRow := [
  -- GLOBAL_ID
  ⟨0x0, [], .single, false, [⟨31, 16, .ro, .none, false, false, 0x960⟩, ⟨15, 8, .ro, .none, false, false, 0xC2⟩, ⟨7, 0, .ro, .none, false, false, 0x1⟩]⟩,
  -- GLOBAL_UID_LO
  ⟨0x8, [], .low, false, [⟨31, 0, .ro, .none, false, false, 0x0⟩]⟩,
  -- GLOBAL_UID_HI
  ⟨0xC, [], .high, false, [⟨31, 0, .ro, .none, false, false, 0x0⟩]⟩,
  -- GLOBAL_PASS_CNT_LO
  ⟨0x10, [], .low, false, [⟨31, 0, .ro, .none, false, false, 0x0⟩]⟩,
  -- GLOBAL_PASS_CNT_HI
  ⟨0x14, [], .high, false, [⟨31, 0, .ro, .none, false, false, 0x0⟩]⟩,
  -- GLOBAL_MODE
  ⟨0x20, [], .single, false, [⟨4, 4, .ro, .none, false, false, 0x0⟩, ⟨2, 2, .ro, .none, false, false, 0x0⟩, ⟨1, 0, .ro, .none, false, false, 0x0⟩]⟩,
  -- GLOBAL_FAULT_STAT
  ⟨0x30, [], .single, false, [⟨11, 8, .ro, .none, false, false, 0x0⟩, ⟨3, 0, .w1c, .none, false, false, 0x0⟩]⟩,
  -- GLOBAL_FAULT_CNT
  ⟨0x34, [], .single, false, [⟨31, 0, .rw, .i, false, false, 0x0⟩]⟩,
  -- GLOBAL_FAULT_LAST
  ⟨0x38, [], .single, false, [⟨23, 16, .ro, .none, false, false, 0x0⟩, ⟨12, 8, .ro, .none, false, false, 0x0⟩, ⟨1, 0, .ro, .none, false, false, 0x0⟩]⟩,
  -- GLOBAL_APPLY_PEND
  ⟨0x40, [], .single, false, [⟨16, 0, .ro, .none, false, false, 0x0⟩]⟩,
  -- GLOBAL_SCRATCH
  ⟨0x50, [], .single, false, [⟨31, 0, .rw, .i, false, false, 0x0⟩]⟩]

/-- The registers of the Access block, one row per register family. -/
def rowsAccess : List RegRow := [
  -- ACCESS_UNLOCK
  ⟨0x10000, [], .single, false, [⟨31, 0, .wo, .i, false, false, 0x0⟩]⟩,
  -- ACCESS_UNLOCK_STAT
  ⟨0x10004, [], .single, false, [⟨31, 16, .rcl, .none, false, false, 0x0⟩, ⟨15, 12, .ro, .none, false, false, 0x0⟩, ⟨0, 0, .ro, .none, false, false, 0x0⟩]⟩,
  -- ACCESS_CFG_CTL
  ⟨0x10010, [], .single, false, [⟨15, 8, .rw, .i, false, true, 0xA⟩, ⟨1, 1, .w1s, .i, false, false, 0x0⟩, ⟨0, 0, .rw, .i, false, false, 0x0⟩]⟩,
  -- ACCESS_CFG_REF
  ⟨0x10014, [], .single, false, [⟨31, 0, .rw, .i, true, false, 0x0⟩]⟩,
  -- ACCESS_CFG_CRC
  ⟨0x10018, [], .single, false, [⟨31, 0, .ro, .none, false, false, 0x0⟩]⟩,
  -- ACCESS_CFG_STAT
  ⟨0x1001C, [], .single, false, [⟨2, 2, .w1c, .none, false, false, 0x0⟩, ⟨1, 1, .w1c, .none, false, false, 0x0⟩, ⟨0, 0, .ro, .none, false, false, 0x0⟩]⟩,
  -- ACCESS_ERR
  ⟨0x10100, [(16, 0x4)], .single, false, [⟨31, 24, .rcl, .none, false, false, 0x0⟩, ⟨23, 23, .rcl, .none, false, false, 0x0⟩, ⟨22, 22, .rcl, .none, false, false, 0x0⟩, ⟨21, 0, .rcl, .none, false, false, 0x0⟩]⟩,
  -- ACCESS_ERR_CNT
  ⟨0x10140, [], .single, false, [⟨31, 0, .rw, .i, false, false, 0x0⟩]⟩,
  -- ACCESS_SEM
  ⟨0x10200, [(32, 0x4)], .single, false, [⟨16, 16, .wo, .i, false, false, 0x0⟩, ⟨9, 8, .ro, .none, false, false, 0x0⟩, ⟨4, 4, .ro, .none, false, false, 0x0⟩, ⟨3, 0, .ro, .none, false, false, 0x0⟩]⟩,
  -- ACCESS_SEM_BUSY_CNT
  ⟨0x10280, [], .single, false, [⟨31, 0, .rcl, .none, false, false, 0x0⟩]⟩,
  -- ACCESS_SEM_LAST
  ⟨0x10284, [], .single, false, [⟨12, 8, .ro, .none, false, false, 0x0⟩, ⟨7, 4, .ro, .none, false, false, 0x0⟩, ⟨3, 0, .ro, .none, false, false, 0x0⟩]⟩,
  -- ACCESS_SEM_FORCE
  ⟨0x10288, [], .single, false, [⟨4, 0, .wo, .i, true, false, 0x0⟩]⟩]

/-- The registers of the Mailbox block, one row per register family. -/
def rowsMailbox : List RegRow := [
  -- MBW_DATA
  ⟨0x20000, [(32, 0x8)], .single, false, [⟨31, 0, .rw, .i, false, false, 0x0⟩]⟩,
  -- MBW_STAT
  ⟨0x20004, [(32, 0x8)], .single, false, [⟨31, 16, .rw, .i, false, false, 0x0⟩, ⟨8, 8, .w1c, .none, false, false, 0x0⟩, ⟨4, 4, .ro, .none, false, false, 0x0⟩, ⟨0, 0, .ro, .none, false, false, 0x0⟩]⟩,
  -- SMBW_DATA
  ⟨0x30000, [(16, 0x8)], .single, false, [⟨31, 0, .rw, .i, false, false, 0x0⟩]⟩,
  -- SMBW_STAT
  ⟨0x30004, [(16, 0x8)], .single, false, [⟨31, 16, .rw, .i, false, false, 0x0⟩, ⟨8, 8, .w1c, .none, false, false, 0x0⟩, ⟨4, 4, .ro, .none, false, false, 0x0⟩, ⟨0, 0, .ro, .none, false, false, 0x0⟩]⟩,
  -- QCH_XY_DATA
  ⟨0x20100, [(8, 0x10)], .single, false, [⟨31, 0, .rw, .i, false, false, 0x0⟩]⟩,
  -- QCH_YX_DATA
  ⟨0x20104, [(8, 0x10)], .single, false, [⟨31, 0, .rw, .i, false, false, 0x0⟩]⟩,
  -- QCH_XY_STAT
  ⟨0x20108, [(8, 0x10)], .single, false, [⟨31, 24, .rw, .i, false, false, 0x0⟩, ⟨16, 16, .w1c, .none, false, false, 0x0⟩, ⟨13, 8, .ro, .none, false, false, 0x0⟩, ⟨5, 0, .ro, .none, false, false, 0x0⟩]⟩,
  -- QCH_YX_STAT
  ⟨0x2010C, [(8, 0x10)], .single, false, [⟨31, 24, .rw, .i, false, false, 0x0⟩, ⟨16, 16, .w1c, .none, false, false, 0x0⟩, ⟨13, 8, .ro, .none, false, false, 0x0⟩, ⟨5, 0, .ro, .none, false, false, 0x0⟩]⟩,
  -- SQCH_XY_DATA
  ⟨0x30100, [(2, 0x10)], .single, false, [⟨31, 0, .rw, .i, false, false, 0x0⟩]⟩,
  -- SQCH_YX_DATA
  ⟨0x30104, [(2, 0x10)], .single, false, [⟨31, 0, .rw, .i, false, false, 0x0⟩]⟩,
  -- SQCH_XY_STAT
  ⟨0x30108, [(2, 0x10)], .single, false, [⟨31, 24, .rw, .i, false, false, 0x0⟩, ⟨16, 16, .w1c, .none, false, false, 0x0⟩, ⟨13, 8, .ro, .none, false, false, 0x0⟩, ⟨5, 0, .ro, .none, false, false, 0x0⟩]⟩,
  -- SQCH_YX_STAT
  ⟨0x3010C, [(2, 0x10)], .single, false, [⟨31, 24, .rw, .i, false, false, 0x0⟩, ⟨16, 16, .w1c, .none, false, false, 0x0⟩, ⟨13, 8, .ro, .none, false, false, 0x0⟩, ⟨5, 0, .ro, .none, false, false, 0x0⟩]⟩]

/-- The registers of the Atlas block, one row per register family. -/
def rowsAtlas : List RegRow := [
  -- ATLAS_STAT
  ⟨0x40000, [], .single, false, [⟨31, 23, .ro, .none, false, false, 0x0⟩, ⟨15, 8, .ro, .none, false, false, 0x0⟩, ⟨5, 4, .ro, .none, false, false, 0x3⟩, ⟨1, 0, .ro, .none, false, false, 0x0⟩]⟩,
  -- ATLAS_GEN
  ⟨0x40004, [], .single, false, [⟨31, 0, .ro, .none, false, false, 0x0⟩]⟩,
  -- ATLAS_REGION
  ⟨0x40020, [(8, 0x4)], .single, false, [⟨30, 16, .ro, .none, false, false, 0x0⟩, ⟨5, 0, .ro, .none, false, false, 0x0⟩]⟩,
  -- GAZ_STAT
  ⟨0x40100, [], .single, false, [⟨30, 16, .ro, .none, false, false, 0x0⟩, ⟨14, 0, .ro, .none, false, false, 0x0⟩]⟩,
  -- GAZ_PRESENT
  ⟨0x40104, [], .single, false, [⟨30, 16, .ro, .none, false, false, 0x0⟩, ⟨14, 0, .ro, .none, false, false, 0x0⟩]⟩,
  -- GAZ_GEN
  ⟨0x40108, [], .single, false, [⟨31, 24, .ro, .none, false, false, 0x0⟩, ⟨23, 0, .ro, .none, false, false, 0x0⟩]⟩]

/-- The registers of the Surveyor block, one row per register family. -/
def rowsSurveyor : List RegRow := [
  -- SV_CTL
  ⟨0x60000, [(8, 0x2000)], .single, true, [⟨2, 2, .rw, .a, false, true, 0x1⟩, ⟨1, 1, .rw, .a, false, true, 0x1⟩, ⟨0, 0, .w1s, .i, true, false, 0x0⟩]⟩,
  -- SV_CFG0
  ⟨0x60004, [(8, 0x2000)], .single, true, [⟨15, 12, .rw, .a, false, true, 0x3⟩, ⟨11, 8, .rw, .a, false, true, 0x6⟩, ⟨7, 0, .rw, .a, false, true, 0x5⟩]⟩,
  -- SV_CFG1
  ⟨0x60008, [(8, 0x2000)], .single, true, [⟨15, 8, .rw, .a, false, true, 0x1E⟩, ⟨7, 0, .rw, .a, false, true, 0xA⟩]⟩,
  -- SV_CFG2
  ⟨0x6000C, [(8, 0x2000)], .single, true, [⟨15, 0, .rw, .a, false, true, 0x1F4⟩]⟩,
  -- SV_STAT
  ⟨0x60010, [(8, 0x2000)], .single, false, [⟨31, 16, .ro, .none, false, false, 0x0⟩, ⟨2, 2, .ro, .none, false, false, 0x0⟩, ⟨1, 1, .ro, .none, false, false, 0x0⟩, ⟨0, 0, .ro, .none, false, false, 0x0⟩]⟩,
  -- SV_ADV_PASS
  ⟨0x60014, [(8, 0x2000)], .single, false, [⟨31, 0, .ro, .none, false, false, 0x0⟩]⟩,
  -- SV_ADV_TIME
  ⟨0x60018, [(8, 0x2000)], .single, false, [⟨31, 16, .rcl, .none, false, false, 0x0⟩, ⟨15, 0, .ro, .none, false, false, 0x0⟩]⟩,
  -- SV_CNT_MERGE
  ⟨0x60020, [(8, 0x2000)], .single, false, [⟨31, 0, .rcl, .none, false, false, 0x0⟩]⟩,
  -- SV_CNT_SCREEN
  ⟨0x60024, [(8, 0x2000)], .single, false, [⟨31, 0, .rcl, .none, false, false, 0x0⟩]⟩,
  -- SV_CNT_EXCL
  ⟨0x60028, [(8, 0x2000)], .single, false, [⟨31, 0, .rcl, .none, false, false, 0x0⟩]⟩,
  -- SV_CNT_WIN
  ⟨0x6002C, [(8, 0x2000)], .single, false, [⟨31, 0, .rcl, .none, false, false, 0x0⟩]⟩,
  -- SV_CNT_SKIP
  ⟨0x60030, [(8, 0x2000)], .single, false, [⟨31, 0, .rcl, .none, false, false, 0x0⟩]⟩,
  -- SV_ERR
  ⟨0x60040, [(8, 0x2000)], .single, false, [⟨31, 24, .rcl, .none, false, false, 0x0⟩, ⟨23, 23, .rcl, .none, false, false, 0x0⟩, ⟨7, 0, .rcl, .none, false, false, 0x0⟩]⟩,
  -- SV_QUAR
  ⟨0x60044, [(8, 0x2000)], .single, false, [⟨12, 0, .ro, .none, false, false, 0x0⟩]⟩]

/-- The registers of the Tiller block, one row per register family. -/
def rowsTiller : List RegRow := [
  -- LANE_CTL
  ⟨0x80000, [(256, 0x100)], .single, true, [⟨3, 3, .rw, .a, false, true, 0x0⟩, ⟨2, 2, .w1s, .i, true, false, 0x0⟩, ⟨1, 1, .w1s, .i, false, false, 0x0⟩, ⟨0, 0, .w1s, .i, false, false, 0x0⟩]⟩,
  -- LANE_STAT
  ⟨0x80004, [(256, 0x100)], .single, false, [⟨31, 24, .ro, .none, false, false, 0x0⟩, ⟨23, 16, .ro, .none, false, false, 0x0⟩, ⟨15, 8, .ro, .none, false, false, 0x0⟩, ⟨6, 6, .ro, .none, false, false, 0x0⟩, ⟨5, 5, .ro, .none, false, false, 0x0⟩, ⟨4, 4, .ro, .none, false, false, 0x0⟩, ⟨2, 0, .ro, .none, false, false, 0x0⟩]⟩,
  -- LANE_JOB
  ⟨0x80008, [(256, 0x100)], .single, false, [⟨31, 24, .ro, .none, false, false, 0x0⟩, ⟨23, 23, .ro, .none, false, false, 0x0⟩, ⟨19, 16, .ro, .none, false, false, 0x0⟩, ⟨15, 0, .ro, .none, false, false, 0x0⟩]⟩,
  -- LANE_CYC
  ⟨0x8000C, [(256, 0x100)], .single, false, [⟨31, 0, .ro, .none, false, false, 0x0⟩]⟩,
  -- LANE_REG_CNT
  ⟨0x80010, [(256, 0x100)], .single, false, [⟨31, 0, .rcl, .none, false, false, 0x0⟩]⟩,
  -- LANE_ERR
  ⟨0x80014, [(256, 0x100)], .single, false, [⟨31, 24, .rcl, .none, false, false, 0x0⟩, ⟨23, 23, .rcl, .none, false, false, 0x0⟩, ⟨18, 0, .rcl, .none, false, false, 0x0⟩]⟩,
  -- LANE_TEST
  ⟨0x80018, [(256, 0x100)], .single, false, [⟨31, 16, .ro, .none, false, false, 0x0⟩, ⟨15, 8, .ro, .none, false, false, 0x0⟩, ⟨1, 0, .ro, .none, false, false, 0x0⟩]⟩,
  -- CL_CTL
  ⟨0x90000, [(32, 0x100)], .single, true, [⟨0, 0, .rw, .a, false, true, 0x1⟩]⟩,
  -- CL_STAT
  ⟨0x90004, [(32, 0x100)], .single, false, [⟨15, 8, .ro, .none, false, false, 0x0⟩, ⟨7, 0, .ro, .none, false, false, 0x0⟩]⟩,
  -- CL_SEQ_WAIT
  ⟨0x90008, [(32, 0x100)], .single, false, [⟨31, 0, .rcl, .none, false, false, 0x0⟩]⟩,
  -- CL_ECC
  ⟨0x9000C, [(32, 0x100)], .single, false, [⟨31, 16, .rcl, .none, false, false, 0x0⟩, ⟨15, 0, .rcl, .none, false, false, 0x0⟩]⟩,
  -- CMN_CFG
  ⟨0xC2000, [], .single, false, [⟨31, 31, .rw, .a, true, true, 0x1⟩, ⟨29, 24, .rw, .a, true, true, 0xF⟩, ⟨23, 20, .rw, .a, true, true, 0xC⟩, ⟨19, 10, .rw, .a, true, true, 0x32⟩, ⟨9, 0, .rw, .a, true, true, 0x12C⟩]⟩,
  -- CMN_RHO
  ⟨0xC2004, [], .single, false, [⟨31, 0, .rw, .a, true, true, 0x3F800000⟩]⟩,
  -- CMN_EPS
  ⟨0xC2008, [], .single, false, [⟨27, 24, .rw, .a, true, true, 0x3⟩, ⟨23, 16, .rw, .a, true, true, 0x5⟩, ⟨15, 0, .rw, .a, true, true, 0xA⟩]⟩,
  -- CMN_STAT
  ⟨0xC2010, [], .single, false, [⟨24, 16, .ro, .none, false, false, 0x0⟩, ⟨11, 8, .ro, .none, false, false, 0x0⟩, ⟨3, 3, .ro, .none, false, false, 0x0⟩, ⟨2, 2, .ro, .none, false, false, 0x0⟩, ⟨1, 1, .ro, .none, false, false, 0x0⟩, ⟨0, 0, .ro, .none, false, false, 0x0⟩]⟩,
  -- CMN_NUM
  ⟨0xC2014, [], .single, false, [⟨31, 0, .ro, .none, false, false, 0x0⟩]⟩,
  -- CMN_PASS
  ⟨0xC2018, [], .single, false, [⟨31, 0, .ro, .none, false, false, 0x0⟩]⟩,
  -- CMN_CNT
  ⟨0xC201C, [], .single, false, [⟨31, 16, .rcl, .none, false, false, 0x0⟩, ⟨15, 0, .rcl, .none, false, false, 0x0⟩]⟩,
  -- RG_CTL
  ⟨0xC0000, [(8, 0x400)], .single, false, [⟨0, 0, .rw, .a, false, true, 0x1⟩]⟩,
  -- RG_STAT
  ⟨0xC0004, [(8, 0x400)], .single, false, [⟨21, 16, .ro, .none, false, false, 0x0⟩, ⟨13, 8, .ro, .none, false, false, 0x0⟩, ⟨4, 4, .ro, .none, false, false, 0x0⟩, ⟨3, 0, .ro, .none, false, false, 0x0⟩]⟩,
  -- RG_PRI
  ⟨0xC0008, [(8, 0x400)], .single, false, [⟨31, 0, .ro, .none, false, false, 0x0⟩]⟩,
  -- RG_DUAL
  ⟨0xC000C, [(8, 0x400)], .single, false, [⟨31, 0, .ro, .none, false, false, 0x0⟩]⟩,
  -- RG_NOLANE
  ⟨0xC0010, [(8, 0x400)], .single, false, [⟨31, 0, .rcl, .none, false, false, 0x0⟩]⟩]

/-- The registers of the Pass block, one row per register family. -/
def rowsPass : List RegRow := [
  -- PASS_PERIOD
  ⟨0x100100, [], .single, false, [⟨10, 0, .rw, .a, true, true, 0x64⟩]⟩,
  -- PASS_PROG
  ⟨0x100104, [], .single, false, [⟨31, 16, .ro, .none, false, false, 0x0⟩, ⟨4, 4, .ro, .none, false, false, 0x0⟩, ⟨2, 0, .ro, .none, false, false, 0x0⟩]⟩,
  -- PASS_PROG_ID_LO
  ⟨0x100108, [], .low, false, [⟨31, 0, .ro, .none, false, false, 0x0⟩]⟩,
  -- PASS_PROG_ID_HI
  ⟨0x10010C, [], .high, false, [⟨31, 0, .ro, .none, false, false, 0x0⟩]⟩,
  -- PASS_PHASE
  ⟨0x100110, [], .single, false, [⟨19, 16, .ro, .none, false, false, 0x0⟩, ⟨15, 12, .ro, .none, false, false, 0x0⟩, ⟨11, 8, .ro, .none, false, false, 0x0⟩, ⟨2, 0, .ro, .none, false, false, 0x0⟩]⟩,
  -- PASS_LOGIC_TIME
  ⟨0x100114, [], .single, false, [⟨31, 16, .rcl, .none, false, false, 0x0⟩, ⟨15, 0, .ro, .none, false, false, 0x0⟩]⟩,
  -- PASS_MS_LO
  ⟨0x100118, [], .low, false, [⟨31, 0, .ro, .none, false, false, 0x0⟩]⟩,
  -- PASS_MS_HI
  ⟨0x10011C, [], .high, false, [⟨31, 0, .ro, .none, false, false, 0x0⟩]⟩,
  -- PASS_CORE_STAT
  ⟨0x100120, [(4, 0x4)], .single, false, [⟨11, 11, .w1c, .none, false, false, 0x0⟩, ⟨10, 8, .w1c, .none, false, false, 0x0⟩, ⟨2, 2, .ro, .none, false, false, 0x0⟩, ⟨1, 0, .ro, .none, false, false, 0x0⟩]⟩,
  -- PASS_FAULT
  ⟨0x100130, [], .single, false, [⟨31, 24, .rcl, .none, false, false, 0x0⟩, ⟨23, 23, .rcl, .none, false, false, 0x0⟩, ⟨21, 20, .rcl, .none, false, false, 0x0⟩, ⟨19, 0, .rcl, .none, false, false, 0x0⟩]⟩,
  -- PASS_OUT_ERR
  ⟨0x100134, [], .single, false, [⟨31, 0, .rcl, .none, false, false, 0x0⟩]⟩,
  -- PASS_MODE_CTL
  ⟨0x100000, [], .single, false, [⟨1, 0, .rw, .a, true, false, 0x0⟩]⟩,
  -- PASS_MODE_STAT
  ⟨0x100004, [], .single, false, [⟨11, 8, .ro, .none, false, false, 0x1⟩, ⟨1, 0, .ro, .none, false, false, 0x0⟩]⟩,
  -- PASS_WD_CFG
  ⟨0x100008, [], .single, false, [⟨5, 0, .rw, .a, true, true, 0x14⟩]⟩,
  -- PASS_WD_CNT
  ⟨0x10000C, [], .single, false, [⟨31, 16, .rcl, .none, false, false, 0x0⟩, ⟨15, 0, .rcl, .none, false, false, 0x0⟩]⟩,
  -- PASS_WD_LAST
  ⟨0x100010, [], .single, false, [⟨11, 8, .ro, .none, false, false, 0x0⟩, ⟨2, 0, .ro, .none, false, false, 0x0⟩]⟩,
  -- PASS_RESTART_CFG
  ⟨0x100014, [], .single, false, [⟨5, 4, .rw, .a, true, true, 0x3⟩, ⟨3, 2, .rw, .a, true, true, 0x3⟩, ⟨1, 0, .rw, .a, true, true, 0x1⟩]⟩,
  -- PASS_EXCH_STAT
  ⟨0x100200, [], .single, false, [⟨31, 16, .ro, .none, false, false, 0x0⟩, ⟨15, 8, .ro, .none, false, false, 0x0⟩, ⟨2, 2, .ro, .none, false, false, 0x0⟩, ⟨1, 1, .ro, .none, false, false, 0x0⟩, ⟨0, 0, .ro, .none, false, false, 0x0⟩]⟩,
  -- PASS_EXCH_MATCH
  ⟨0x100204, [], .single, false, [⟨29, 15, .ro, .none, false, false, 0x0⟩, ⟨12, 0, .ro, .none, false, false, 0x0⟩]⟩,
  -- PASS_STAGED_ID_LO
  ⟨0x100208, [], .low, false, [⟨31, 0, .ro, .none, false, false, 0x0⟩]⟩,
  -- PASS_STAGED_ID_HI
  ⟨0x10020C, [], .high, false, [⟨31, 0, .ro, .none, false, false, 0x0⟩]⟩,
  -- PASS_KEPT_ID_LO
  ⟨0x100210, [], .low, false, [⟨31, 0, .ro, .none, false, false, 0x0⟩]⟩,
  -- PASS_KEPT_ID_HI
  ⟨0x100214, [], .high, false, [⟨31, 0, .ro, .none, false, false, 0x0⟩]⟩,
  -- PASS_EXCH_PASS
  ⟨0x100218, [], .single, false, [⟨31, 0, .ro, .none, false, false, 0x0⟩]⟩]

/-- The registers of the Loop block, one row per register family. -/
def rowsLoop : List RegRow := [
  -- LOOP_CTL
  ⟨0x140000, [(32, 0x400)], .single, true, [⟨2, 2, .rw, .i, false, false, 0x0⟩, ⟨1, 1, .rw, .a, false, true, 0x0⟩, ⟨0, 0, .rw, .i, false, false, 0x0⟩]⟩,
  -- LOOP_SAMPLE
  ⟨0x140004, [(32, 0x400)], .single, false, [⟨31, 16, .rw, .s, true, true, 0x8⟩, ⟨15, 0, .rw, .s, true, true, 0x0⟩]⟩,
  -- LOOP_SRC
  ⟨0x140008, [(32, 0x400)], .single, false, [⟨31, 28, .rw, .s, true, true, 0x4⟩, ⟨27, 24, .rw, .s, true, true, 0x0⟩, ⟨23, 16, .rw, .s, true, true, 0x0⟩, ⟨15, 12, .rw, .s, true, true, 0x0⟩, ⟨7, 0, .rw, .s, true, true, 0x0⟩]⟩,
  -- LOOP_SPT
  ⟨0x14000C, [(32, 0x400)], .single, false, [⟨30, 28, .rw, .s, true, true, 0x0⟩, ⟨16, 16, .rw, .s, true, true, 0x0⟩, ⟨13, 0, .rw, .s, true, true, 0x0⟩]⟩,
  -- LOOP_PV_MIN
  ⟨0x140010, [(32, 0x400)], .single, false, [⟨31, 0, .rw, .s, true, true, 0x0⟩]⟩,
  -- LOOP_PV_MAX
  ⟨0x140014, [(32, 0x400)], .single, false, [⟨31, 0, .rw, .s, true, true, 0x3F800000⟩]⟩,
  -- LOOP_SP_GAIN
  ⟨0x140018, [(32, 0x400)], .single, false, [⟨31, 0, .rw, .a, true, true, 0x3F800000⟩]⟩,
  -- LOOP_SP_OFFSET
  ⟨0x14001C, [(32, 0x400)], .single, false, [⟨31, 0, .rw, .a, true, true, 0x0⟩]⟩,
  -- LOOP_OUT
  ⟨0x140020, [(32, 0x400)], .single, false, [⟨16, 16, .rw, .s, true, true, 0x0⟩, ⟨9, 8, .rw, .s, true, true, 0x0⟩, ⟨4, 0, .rw, .s, true, true, 0x0⟩]⟩,
  -- LOOP_ULIM
  ⟨0x140024, [(32, 0x400)], .single, false, [⟨31, 16, .rw, .a, true, true, 0x7FFF⟩, ⟨15, 0, .rw, .a, true, true, 0x0⟩]⟩,
  -- LOOP_RATE
  ⟨0x140028, [(32, 0x400)], .single, false, [⟨31, 0, .rw, .a, true, true, 0x0⟩]⟩,
  -- LOOP_ACCEL
  ⟨0x14002C, [(32, 0x400)], .single, false, [⟨31, 0, .rw, .a, true, true, 0x0⟩]⟩,
  -- LOOP_MAN
  ⟨0x140030, [(32, 0x400)], .single, false, [⟨15, 0, .rw, .a, false, false, 0x0⟩]⟩,
  -- LOOP_KP
  ⟨0x140040, [(32, 0x400)], .single, true, [⟨15, 0, .rw, .i, false, true, 0x0⟩]⟩,
  -- LOOP_KI
  ⟨0x140044, [(32, 0x400)], .single, true, [⟨15, 0, .rw, .i, false, true, 0x0⟩]⟩,
  -- LOOP_KD
  ⟨0x140048, [(32, 0x400)], .single, true, [⟨15, 0, .rw, .i, false, true, 0x0⟩]⟩,
  -- LOOP_KF
  ⟨0x14004C, [(32, 0x400)], .single, true, [⟨15, 0, .rw, .i, false, true, 0x0⟩]⟩,
  -- LOOP_KA
  ⟨0x140050, [(32, 0x400)], .single, true, [⟨15, 0, .rw, .i, false, true, 0x0⟩]⟩,
  -- LOOP_SHIFT
  ⟨0x140054, [(32, 0x400)], .single, true, [⟨2, 0, .rw, .i, false, true, 0x0⟩]⟩,
  -- LOOP_STAT
  ⟨0x140080, [(32, 0x400)], .single, false, [⟨23, 16, .ro, .none, false, false, 0x0⟩, ⟨15, 12, .ro, .none, false, false, 0x0⟩, ⟨11, 8, .ro, .none, false, false, 0x0⟩, ⟨7, 7, .w1c, .none, false, false, 0x0⟩, ⟨6, 6, .w1c, .none, false, false, 0x0⟩, ⟨5, 5, .w1c, .none, false, false, 0x0⟩, ⟨4, 4, .ro, .none, false, false, 0x0⟩, ⟨3, 3, .ro, .none, false, false, 0x0⟩, ⟨1, 0, .ro, .none, false, false, 0x0⟩]⟩,
  -- LOOP_OVR_CNT
  ⟨0x140084, [(32, 0x400)], .single, false, [⟨31, 0, .rcl, .none, false, false, 0x0⟩]⟩,
  -- LOOP_REV_CNT
  ⟨0x1400A0, [(32, 0x400)], .single, false, [⟨31, 0, .rcl, .none, false, false, 0x0⟩]⟩,
  -- LOOP_SAMPLES
  ⟨0x140088, [(32, 0x400)], .single, false, [⟨31, 0, .ro, .none, false, false, 0x0⟩]⟩,
  -- LOOP_VAL
  ⟨0x14008C, [(32, 0x400)], .single, false, [⟨31, 16, .ro, .none, false, false, 0x0⟩, ⟨15, 0, .ro, .none, false, false, 0x0⟩]⟩,
  -- LOOP_RVAL
  ⟨0x140090, [(32, 0x400)], .single, false, [⟨31, 16, .ro, .none, false, false, 0x0⟩, ⟨15, 0, .ro, .none, false, false, 0x0⟩]⟩,
  -- LOOP_INT_LO
  ⟨0x140098, [(32, 0x400)], .low, false, [⟨31, 0, .ro, .none, false, false, 0x0⟩]⟩,
  -- LOOP_INT_HI
  ⟨0x14009C, [(32, 0x400)], .high, false, [⟨31, 0, .ro, .none, false, false, 0x0⟩]⟩]

/-- The registers of the Field block, one row per register family. -/
def rowsField : List RegRow := [
  -- FX_CFG
  ⟨0x180000, [], .single, false, [⟨31, 16, .rw, .a, true, true, 0x3C⟩, ⟨15, 0, .rw, .a, true, true, 0xE10⟩]⟩,
  -- FX_STAT
  ⟨0x180004, [], .single, false, [⟨24, 16, .ro, .none, false, false, 0x0⟩, ⟨14, 0, .ro, .none, false, false, 0x0⟩]⟩,
  -- FX_WR_CNT
  ⟨0x180008, [], .single, false, [⟨31, 16, .rcl, .none, false, false, 0x0⟩, ⟨15, 0, .rcl, .none, false, false, 0x0⟩]⟩,
  -- FX_ORD_CNT
  ⟨0x18000C, [], .single, false, [⟨31, 16, .rcl, .none, false, false, 0x0⟩, ⟨15, 0, .rcl, .none, false, false, 0x0⟩]⟩,
  -- FX_RESEND_CNT
  ⟨0x180010, [], .single, false, [⟨31, 0, .rcl, .none, false, false, 0x0⟩]⟩,
  -- FX_ABSENT_CNT
  ⟨0x180014, [], .single, false, [⟨31, 0, .rcl, .none, false, false, 0x0⟩]⟩,
  -- FP_CTL
  ⟨0x190000, [(4, 0x1000)], .single, true, [⟨9, 9, .rw, .s, true, true, 0x0⟩, ⟨8, 8, .rw, .s, true, true, 0x0⟩, ⟨7, 7, .rw, .s, true, true, 0x0⟩, ⟨6, 5, .rw, .s, true, true, 0x0⟩, ⟨4, 4, .rw, .i, false, false, 0x1⟩, ⟨3, 3, .rw, .s, true, true, 0x1⟩, ⟨2, 1, .rw, .s, true, true, 0x0⟩, ⟨0, 0, .rw, .i, false, true, 0x0⟩]⟩,
  -- FP_PTP_CFG
  ⟨0x190004, [(4, 0x1000)], .single, false, [⟨23, 20, .rw, .s, true, true, 0x1⟩, ⟨19, 16, .rw, .s, true, true, 0x0⟩, ⟨15, 8, .rw, .s, true, true, 0xF8⟩, ⟨7, 0, .rw, .s, true, true, 0x0⟩]⟩,
  -- FP_UCAST
  ⟨0x190010, [(4, 0x1000), (4, 0x4)], .single, false, [⟨31, 0, .rw, .s, true, true, 0x0⟩]⟩,
  -- FP_GROUP
  ⟨0x190020, [(4, 0x1000), (4, 0x4)], .single, false, [⟨31, 0, .rw, .s, true, true, 0x0⟩]⟩,
  -- FP_MAC_LO
  ⟨0x190030, [(4, 0x1000)], .single, false, [⟨31, 0, .rw, .s, true, true, 0x0⟩]⟩,
  -- FP_MAC_HI
  ⟨0x190034, [(4, 0x1000)], .single, false, [⟨15, 0, .rw, .s, true, true, 0x0⟩]⟩,
  -- FP_VLAN
  ⟨0x190038, [(4, 0x1000)], .single, false, [⟨14, 12, .rw, .s, true, true, 0x0⟩, ⟨11, 0, .rw, .s, true, true, 0x0⟩]⟩,
  -- FP_STAT
  ⟨0x190040, [(4, 0x1000)], .single, false, [⟨5, 4, .ro, .none, false, false, 0x0⟩, ⟨3, 3, .ro, .none, false, false, 0x0⟩, ⟨2, 2, .ro, .none, false, false, 0x0⟩, ⟨1, 1, .ro, .none, false, false, 0x0⟩, ⟨0, 0, .ro, .none, false, false, 0x0⟩]⟩,
  -- FP_RXQ
  ⟨0x190044, [(4, 0x1000)], .single, false, [⟨27, 16, .rcl, .none, false, false, 0x0⟩, ⟨11, 0, .ro, .none, false, false, 0x0⟩]⟩,
  -- FP_PTP_OFS
  ⟨0x190048, [(4, 0x1000)], .single, false, [⟨31, 0, .ro, .none, false, false, 0x0⟩]⟩,
  -- FP_CNT_RX
  ⟨0x190050, [(4, 0x1000)], .single, false, [⟨31, 0, .rcl, .none, false, false, 0x0⟩]⟩,
  -- FP_CNT_QDROP
  ⟨0x190054, [(4, 0x1000)], .single, false, [⟨31, 0, .rcl, .none, false, false, 0x0⟩]⟩,
  -- FP_CNT_BAD
  ⟨0x190058, [(4, 0x1000)], .single, false, [⟨31, 0, .rcl, .none, false, false, 0x0⟩]⟩,
  -- FP_CNT_OTHER
  ⟨0x19005C, [(4, 0x1000)], .single, false, [⟨31, 0, .rcl, .none, false, false, 0x0⟩]⟩,
  -- FP_CNT_AUTH
  ⟨0x190060, [(4, 0x1000)], .single, false, [⟨31, 0, .rcl, .none, false, false, 0x0⟩]⟩,
  -- FP_CNT_REPLAY
  ⟨0x190064, [(4, 0x1000)], .single, false, [⟨31, 0, .rcl, .none, false, false, 0x0⟩]⟩,
  -- FP_CNT_SRC
  ⟨0x190068, [(4, 0x1000)], .single, false, [⟨31, 0, .rcl, .none, false, false, 0x0⟩]⟩,
  -- FP_CNT_NOSESS
  ⟨0x19006C, [(4, 0x1000)], .single, false, [⟨31, 0, .rcl, .none, false, false, 0x0⟩]⟩,
  -- FP_CNT_UNKNOWN
  ⟨0x190070, [(4, 0x1000)], .single, false, [⟨31, 0, .rcl, .none, false, false, 0x0⟩]⟩,
  -- FP_CNT_TX
  ⟨0x190074, [(4, 0x1000)], .single, false, [⟨31, 0, .rcl, .none, false, false, 0x0⟩]⟩,
  -- FP_CNT_KEY
  ⟨0x190078, [(4, 0x1000)], .single, false, [⟨31, 0, .rcl, .none, false, false, 0x0⟩]⟩,
  -- FP_CNT_PAUSE
  ⟨0x19007C, [(4, 0x1000)], .single, false, [⟨31, 0, .rcl, .none, false, false, 0x0⟩]⟩]

/-- The registers of the PlantBus block, one row per register family. -/
def rowsPlantBus : List RegRow := [
  -- CB_CTL
  ⟨0x1C0000, [(8, 0x1000)], .single, true, [⟨7, 7, .rw, .s, true, true, 0x0⟩, ⟨6, 6, .rw, .s, true, true, 0x1⟩, ⟨5, 5, .rw, .s, true, true, 0x0⟩, ⟨4, 4, .rw, .s, true, true, 0x0⟩, ⟨3, 3, .rw, .i, false, false, 0x0⟩, ⟨2, 2, .rw, .s, true, true, 0x0⟩, ⟨1, 1, .rw, .s, true, true, 0x0⟩, ⟨0, 0, .rw, .i, false, true, 0x0⟩]⟩,
  -- CB_NBT
  ⟨0x1C0004, [(8, 0x1000)], .single, false, [⟨31, 23, .rw, .s, true, true, 0x2⟩, ⟨22, 14, .rw, .s, true, true, 0x3F⟩, ⟨13, 7, .rw, .s, true, true, 0x10⟩, ⟨6, 0, .rw, .s, true, true, 0x10⟩]⟩,
  -- CB_DBT
  ⟨0x1C0008, [(8, 0x1000)], .single, false, [⟨31, 26, .rw, .s, true, true, 0x1⟩, ⟨25, 20, .rw, .s, true, true, 0x1D⟩, ⟨19, 15, .rw, .s, true, true, 0xA⟩, ⟨14, 10, .rw, .s, true, true, 0xA⟩, ⟨6, 0, .rw, .s, true, true, 0x0⟩]⟩,
  -- CB_TXW
  ⟨0x1C000C, [(8, 0x1000)], .single, false, [⟨15, 0, .rw, .a, true, true, 0x3E8⟩]⟩,
  -- CB_WAKE_ID
  ⟨0x1C0010, [(8, 0x1000)], .single, false, [⟨29, 29, .rw, .s, true, true, 0x0⟩, ⟨28, 0, .rw, .s, true, true, 0x0⟩]⟩,
  -- CB_WAKE_DATA
  ⟨0x1C0014, [(8, 0x1000)], .single, false, [⟨15, 8, .rw, .s, true, true, 0x0⟩, ⟨7, 0, .rw, .s, true, true, 0x0⟩]⟩,
  -- CB_STAT
  ⟨0x1C0020, [(8, 0x1000)], .single, false, [⟨26, 26, .w1c, .none, false, false, 0x0⟩, ⟨25, 25, .w1c, .none, false, false, 0x0⟩, ⟨24, 24, .w1c, .none, false, false, 0x0⟩, ⟨23, 16, .ro, .none, false, false, 0x0⟩, ⟨15, 8, .ro, .none, false, false, 0x0⟩, ⟨3, 3, .ro, .none, false, false, 0x0⟩, ⟨2, 0, .ro, .none, false, false, 0x0⟩]⟩,
  -- CB_ERR
  ⟨0x1C0024, [(8, 0x1000)], .single, false, [⟨31, 24, .rcl, .none, false, false, 0x0⟩, ⟨23, 16, .rcl, .none, false, false, 0x0⟩, ⟨15, 8, .rcl, .none, false, false, 0x0⟩, ⟨7, 0, .rcl, .none, false, false, 0x0⟩]⟩,
  -- CB_CNT_BUSOFF
  ⟨0x1C0028, [(8, 0x1000)], .single, false, [⟨31, 0, .rcl, .none, false, false, 0x0⟩]⟩,
  -- CB_CNT_LOST
  ⟨0x1C002C, [(8, 0x1000)], .single, false, [⟨31, 0, .rcl, .none, false, false, 0x0⟩]⟩,
  -- CB_CNT_UNMATCHED
  ⟨0x1C0030, [(8, 0x1000)], .single, false, [⟨31, 0, .rcl, .none, false, false, 0x0⟩]⟩,
  -- CB_TDCV
  ⟨0x1C0034, [(8, 0x1000)], .single, false, [⟨6, 0, .ro, .none, false, false, 0x0⟩]⟩,
  -- OBJ_CFG
  ⟨0x1C8000, [(8, 0x7000), (256, 0x70)], .single, false, [⟨31, 30, .rw, .a, true, true, 0x0⟩, ⟨29, 29, .rw, .a, true, true, 0x0⟩, ⟨28, 0, .rw, .a, true, true, 0x0⟩]⟩,
  -- OBJ_FMT
  ⟨0x1C8004, [(8, 0x7000), (256, 0x70)], .single, false, [⟨1, 1, .rw, .a, true, true, 0x0⟩, ⟨0, 0, .rw, .a, true, true, 0x0⟩]⟩,
  -- OBJ_STAT
  ⟨0x1C8008, [(8, 0x7000), (256, 0x70)], .single, false, [⟨31, 24, .ro, .none, false, false, 0x0⟩, ⟨11, 8, .ro, .none, false, false, 0x0⟩, ⟨6, 6, .ro, .none, false, false, 0x0⟩, ⟨5, 5, .ro, .none, false, false, 0x0⟩, ⟨4, 4, .ro, .none, false, false, 0x0⟩, ⟨1, 1, .ro, .none, false, false, 0x0⟩, ⟨0, 0, .ro, .none, false, false, 0x0⟩]⟩,
  -- OBJ_RXCNT
  ⟨0x1C800C, [(8, 0x7000), (256, 0x70)], .single, false, [⟨31, 0, .ro, .none, false, false, 0x0⟩]⟩,
  -- OBJ_DATA
  ⟨0x1C8010, [(8, 0x7000), (256, 0x70), (16, 0x4)], .single, false, [⟨31, 0, .ro, .none, false, false, 0x0⟩]⟩]

/-- The registers of the Meter block, one row per register family. -/
def rowsMeter : List RegRow := [
  -- MT_CTL
  ⟨0x200000, [], .single, false, [⟨15, 8, .rw, .a, true, true, 0x3C⟩, ⟨0, 0, .rw, .a, true, true, 0x1⟩]⟩,
  -- MT_STAT
  ⟨0x200004, [], .single, false, [⟨9, 9, .ro, .none, false, false, 0x0⟩, ⟨8, 8, .ro, .none, false, false, 0x0⟩, ⟨7, 7, .ro, .none, false, false, 0x0⟩, ⟨5, 0, .ro, .none, false, false, 0x3F⟩]⟩,
  -- MT_CNT_STEPBACK
  ⟨0x200010, [], .single, false, [⟨31, 0, .rcl, .none, false, false, 0x0⟩]⟩,
  -- MT_CNT_CALFAIL
  ⟨0x200014, [], .single, false, [⟨31, 0, .rcl, .none, false, false, 0x0⟩]⟩,
  -- MT_ADC_CFG
  ⟨0x200100, [(32, 0x10)], .single, false, [⟨23, 16, .rw, .a, true, true, 0xE0⟩, ⟨15, 8, .rw, .a, true, true, 0x0⟩, ⟨1, 1, .rw, .s, true, true, 0x0⟩, ⟨0, 0, .rw, .i, false, true, 0x0⟩]⟩,
  -- MT_ADC_SCALE
  ⟨0x200104, [(32, 0x10)], .single, false, [⟨31, 0, .rw, .a, true, true, 0x3F800000⟩]⟩,
  -- MT_ADC_OFS
  ⟨0x200108, [(32, 0x10)], .single, false, [⟨31, 0, .rw, .a, true, true, 0x0⟩]⟩,
  -- MT_ADC_STAT
  ⟨0x20010C, [(32, 0x10)], .single, false, [⟨31, 16, .rcl, .none, false, false, 0x0⟩, ⟨2, 2, .w1c, .none, false, false, 0x0⟩, ⟨1, 1, .ro, .none, false, false, 0x0⟩, ⟨0, 0, .ro, .none, false, false, 0x0⟩]⟩,
  -- MT_RTD_CFG
  ⟨0x200400, [(16, 0x8)], .single, false, [⟨1, 0, .rw, .a, true, true, 0x0⟩]⟩,
  -- MT_RTD_STAT
  ⟨0x200404, [(16, 0x8)], .single, false, [⟨1, 1, .ro, .none, false, false, 0x0⟩, ⟨0, 0, .ro, .none, false, false, 0x0⟩]⟩,
  -- MT_PLS_CFG
  ⟨0x200600, [(32, 0x8)], .single, false, [⟨15, 8, .rw, .a, true, true, 0x0⟩, ⟨2, 2, .rw, .a, true, true, 0x0⟩, ⟨1, 1, .rw, .a, true, true, 0x0⟩, ⟨0, 0, .rw, .i, false, true, 0x0⟩]⟩,
  -- MT_PLS_CNT
  ⟨0x200604, [(32, 0x8)], .single, false, [⟨31, 0, .ro, .none, false, false, 0x0⟩]⟩,
  -- MT_FDR_VCH
  ⟨0x200800, [(4, 0x10)], .single, false, [⟨31, 31, .rw, .i, false, true, 0x0⟩, ⟨24, 24, .rw, .s, true, true, 0x0⟩, ⟨20, 16, .rw, .s, true, true, 0x0⟩, ⟨12, 8, .rw, .s, true, true, 0x0⟩, ⟨4, 0, .rw, .s, true, true, 0x0⟩]⟩,
  -- MT_FDR_ICH
  ⟨0x200804, [(4, 0x10)], .single, false, [⟨20, 16, .rw, .s, true, true, 0x0⟩, ⟨12, 8, .rw, .s, true, true, 0x0⟩, ⟨4, 0, .rw, .s, true, true, 0x0⟩]⟩,
  -- MT_FDR_START
  ⟨0x200808, [(4, 0x10)], .single, false, [⟨31, 0, .rw, .a, true, true, 0x0⟩]⟩,
  -- MT_FDR_STAT
  ⟨0x20080C, [(4, 0x10)], .single, false, [⟨3, 2, .ro, .none, false, false, 0x0⟩, ⟨1, 1, .ro, .none, false, false, 0x0⟩, ⟨0, 0, .ro, .none, false, false, 0x0⟩]⟩,
  -- MT_HM_SRC
  ⟨0x200A00, [(16, 0x20)], .single, false, [⟨31, 31, .rw, .i, false, true, 0x0⟩, ⟨30, 30, .rw, .s, true, true, 0x0⟩, ⟨29, 28, .rw, .s, true, true, 0x0⟩, ⟨27, 27, .rw, .s, true, true, 0x0⟩, ⟨26, 26, .rw, .s, true, true, 0x0⟩, ⟨25, 21, .rw, .s, true, true, 0x0⟩, ⟨20, 16, .rw, .s, true, true, 0x0⟩, ⟨7, 4, .rw, .s, true, true, 0x0⟩, ⟨3, 0, .rw, .s, true, true, 0x0⟩]⟩,
  -- MT_HM_K
  ⟨0x200A04, [(16, 0x20)], .single, false, [⟨31, 0, .rw, .a, true, true, 0x3F800000⟩]⟩,
  -- MT_HM_CUT
  ⟨0x200A08, [(16, 0x20)], .single, false, [⟨31, 16, .rw, .a, true, true, 0x14⟩, ⟨15, 0, .rw, .a, true, true, 0xA⟩]⟩,
  -- MT_HM_P
  ⟨0x200A0C, [(16, 0x20)], .single, false, [⟨31, 0, .rw, .a, true, true, 0x44160000⟩]⟩,
  -- MT_HM_REV
  ⟨0x200A10, [(16, 0x20)], .single, false, [⟨9, 0, .rw, .a, true, true, 0x3FF⟩]⟩,
  -- MT_HM_STAT
  ⟨0x200A14, [(16, 0x20)], .single, false, [⟨31, 16, .rcl, .none, false, false, 0x0⟩, ⟨4, 4, .ro, .none, false, false, 0x0⟩, ⟨3, 3, .ro, .none, false, false, 0x0⟩, ⟨2, 2, .ro, .none, false, false, 0x0⟩, ⟨1, 1, .ro, .none, false, false, 0x0⟩]⟩,
  -- MT_FE_LO
  ⟨0x210000, [(4, 0x100), (6, 0x10)], .low, false, [⟨31, 0, .ro, .none, false, false, 0x0⟩]⟩,
  -- MT_FE_MID
  ⟨0x210004, [(4, 0x100), (6, 0x10)], .high, false, [⟨31, 0, .ro, .none, false, false, 0x0⟩]⟩,
  -- MT_FE_HI
  ⟨0x210008, [(4, 0x100), (6, 0x10)], .third, false, [⟨31, 0, .ro, .none, false, false, 0x0⟩]⟩,
  -- MT_FE_FLG
  ⟨0x21000C, [(4, 0x100), (6, 0x10)], .single, false, [⟨0, 0, .ro, .none, false, false, 0x0⟩]⟩,
  -- MT_HE_LO
  ⟨0x211000, [(16, 0x100), (6, 0x10)], .low, false, [⟨31, 0, .ro, .none, false, false, 0x0⟩]⟩,
  -- MT_HE_MID
  ⟨0x211004, [(16, 0x100), (6, 0x10)], .high, false, [⟨31, 0, .ro, .none, false, false, 0x0⟩]⟩,
  -- MT_HE_HI
  ⟨0x211008, [(16, 0x100), (6, 0x10)], .third, false, [⟨31, 0, .ro, .none, false, false, 0x0⟩]⟩,
  -- MT_HE_FLG
  ⟨0x21100C, [(16, 0x100), (6, 0x10)], .single, false, [⟨0, 0, .ro, .none, false, false, 0x0⟩]⟩,
  -- MT_HE_REV
  ⟨0x211060, [(16, 0x100)], .single, false, [⟨31, 0, .ro, .none, false, false, 0x0⟩]⟩]

/-- The registers of the Pair block, one row per register family. -/
def rowsPair : List RegRow := [
  -- PAIR_CFG
  ⟨0x240000, [], .single, false, [⟨23, 16, .rw, .a, true, true, 0x10⟩, ⟨15, 8, .rw, .a, true, true, 0xFF⟩, ⟨1, 1, .rw, .a, true, true, 0x1⟩, ⟨0, 0, .rw, .a, true, true, 0x0⟩]⟩,
  -- PAIR_CMD
  ⟨0x240004, [], .single, false, [⟨3, 0, .wo, .i, true, false, 0x0⟩]⟩,
  -- PAIR_STAT
  ⟨0x240008, [], .single, false, [⟨13, 12, .ro, .none, false, false, 0x0⟩, ⟨11, 11, .ro, .none, false, false, 0x0⟩, ⟨10, 10, .ro, .none, false, false, 0x0⟩, ⟨9, 9, .ro, .none, false, false, 0x0⟩, ⟨8, 8, .ro, .none, false, false, 0x0⟩, ⟨7, 7, .ro, .none, false, false, 0x0⟩, ⟨6, 6, .ro, .none, false, false, 0x0⟩, ⟨5, 5, .ro, .none, false, false, 0x0⟩, ⟨2, 0, .ro, .none, false, false, 0x0⟩]⟩,
  -- PAIR_EPOCH
  ⟨0x24000C, [], .single, false, [⟨31, 0, .ro, .none, false, false, 0x0⟩]⟩,
  -- PAIR_LIMIT
  ⟨0x240010, [], .single, false, [⟨19, 0, .ro, .none, false, false, 0x4000⟩]⟩,
  -- PAIR_STATIC
  ⟨0x240014, [], .single, false, [⟨19, 0, .ro, .none, false, false, 0x0⟩]⟩,
  -- PAIR_COPY
  ⟨0x240018, [], .single, false, [⟨31, 16, .rcl, .none, false, false, 0x0⟩, ⟨15, 0, .ro, .none, false, false, 0x0⟩]⟩,
  -- PAIR_SWITCH
  ⟨0x24001C, [], .single, false, [⟨31, 24, .ro, .none, false, false, 0x0⟩, ⟨23, 0, .ro, .none, false, false, 0x0⟩]⟩,
  -- PAIR_TRI
  ⟨0x240020, [], .single, false, [⟨6, 4, .ro, .none, false, false, 0x0⟩, ⟨2, 0, .ro, .none, false, false, 0x0⟩]⟩,
  -- PAIR_CNT_MISMATCH
  ⟨0x240024, [], .single, false, [⟨31, 16, .rcl, .none, false, false, 0x0⟩, ⟨15, 0, .rcl, .none, false, false, 0x0⟩]⟩,
  -- PAIR_CNT_COPY
  ⟨0x240028, [], .single, false, [⟨31, 0, .rcl, .none, false, false, 0x0⟩]⟩,
  -- PAIR_CNT_INDIFF
  ⟨0x24002C, [], .single, false, [⟨31, 0, .rcl, .none, false, false, 0x0⟩]⟩,
  -- PAIR_LINK
  ⟨0x240030, [], .single, false, [⟨31, 16, .rcl, .none, false, false, 0x0⟩, ⟨15, 8, .rcl, .none, false, false, 0x0⟩, ⟨2, 2, .ro, .none, false, false, 0x0⟩, ⟨1, 0, .ro, .none, false, false, 0x0⟩]⟩]

/-- The registers of the KeyStore block, one row per register family. -/
def rowsKeyStore : List RegRow := [
  -- KS_STAT
  ⟨0x260000, [], .single, false, [⟨31, 24, .ro, .none, false, false, 0x0⟩, ⟨23, 16, .ro, .none, false, false, 0x0⟩, ⟨7, 7, .ro, .none, false, false, 0x0⟩, ⟨6, 6, .ro, .none, false, false, 0x0⟩, ⟨5, 5, .ro, .none, false, false, 0x0⟩, ⟨4, 4, .ro, .none, false, false, 0x0⟩, ⟨3, 3, .ro, .none, false, false, 0x0⟩, ⟨2, 2, .ro, .none, false, false, 0x0⟩, ⟨1, 0, .ro, .none, false, false, 0x0⟩]⟩,
  -- KS_CTR_LO
  ⟨0x260010, [], .low, false, [⟨31, 0, .ro, .none, false, false, 0x0⟩]⟩,
  -- KS_CTR_HI
  ⟨0x260014, [], .high, false, [⟨31, 0, .ro, .none, false, false, 0x0⟩]⟩,
  -- KS_FLOOR
  ⟨0x260018, [], .single, false, [⟨31, 0, .ro, .none, false, false, 0x0⟩]⟩,
  -- KS_FR_KCV_LO
  ⟨0x260020, [], .low, false, [⟨31, 0, .ro, .none, false, false, 0x0⟩]⟩,
  -- KS_FR_KCV_HI
  ⟨0x260024, [], .high, false, [⟨31, 0, .ro, .none, false, false, 0x0⟩]⟩,
  -- KS_STN_REVOKED
  ⟨0x260028, [], .single, false, [⟨31, 0, .ro, .none, false, false, 0x0⟩]⟩,
  -- KS_CNT_REJECT
  ⟨0x26002C, [], .single, false, [⟨31, 0, .rcl, .none, false, false, 0x0⟩]⟩,
  -- KS_SLOT
  ⟨0x260100, [(64, 0x4)], .single, false, [⟨31, 24, .ro, .none, false, false, 0xFF⟩, ⟨23, 20, .ro, .none, false, false, 0x0⟩, ⟨17, 16, .ro, .none, false, false, 0x0⟩, ⟨7, 7, .ro, .none, false, false, 0x0⟩, ⟨6, 6, .ro, .none, false, false, 0x0⟩, ⟨2, 0, .ro, .none, false, false, 0x0⟩]⟩,
  -- KS_IN
  ⟨0x260400, [(256, 0x4)], .single, false, [⟨31, 0, .rw, .i, false, false, 0x0⟩]⟩,
  -- KS_OUT
  ⟨0x260800, [(256, 0x4)], .single, false, [⟨31, 0, .ro, .i, false, false, 0x0⟩]⟩]

/-- The registers of the Gleaner block, one row per register family. -/
def rowsGleaner : List RegRow := [
  -- GL_CTL
  ⟨0x280000, [], .single, false, [⟨15, 8, .rw, .a, true, true, 0xA⟩, ⟨0, 0, .rw, .i, false, false, 0x0⟩]⟩,
  -- GL_STAT
  ⟨0x280004, [], .single, false, [⟨2, 2, .w1c, .none, false, false, 0x0⟩, ⟨1, 1, .ro, .none, false, false, 0x0⟩, ⟨0, 0, .ro, .none, false, false, 0x0⟩]⟩,
  -- GL_LOG_WR
  ⟨0x280010, [], .single, false, [⟨31, 0, .ro, .i, false, false, 0x0⟩]⟩,
  -- GL_LOG_RD
  ⟨0x280014, [], .single, false, [⟨31, 0, .rw, .i, false, false, 0x0⟩]⟩,
  -- GL_LOG_STAT
  ⟨0x280018, [], .single, false, [⟨31, 16, .rcl, .none, false, false, 0x0⟩, ⟨12, 0, .ro, .none, false, false, 0x0⟩]⟩,
  -- GL_CNT
  ⟨0x28001C, [], .single, false, [⟨31, 16, .rcl, .none, false, false, 0x0⟩, ⟨15, 0, .rcl, .none, false, false, 0x0⟩]⟩,
  -- GL_LOSS
  ⟨0x280100, [(18, 0x4)], .single, false, [⟨31, 0, .rcl, .none, false, false, 0x0⟩]⟩]

/-- The registers of the Harrow block, one row per register family. -/
def rowsHarrow : List RegRow := [
  -- HR_CFG
  ⟨0x2A0000, [], .single, false, [⟨31, 24, .rw, .a, true, true, 0xA⟩, ⟨20, 16, .rw, .a, true, true, 0x18⟩, ⟨15, 8, .rw, .a, true, true, 0x64⟩, ⟨7, 0, .rw, .a, true, true, 0x70⟩]⟩,
  -- HR_HIST
  ⟨0x2A0004, [], .single, false, [⟨9, 0, .rw, .a, true, true, 0x3FF⟩]⟩,
  -- HR_ECC_SDRAM
  ⟨0x2A0008, [], .single, false, [⟨31, 16, .rcl, .none, false, false, 0x0⟩, ⟨15, 0, .rcl, .none, false, false, 0x0⟩]⟩,
  -- HR_ECC_SRAM
  ⟨0x2A000C, [], .single, false, [⟨31, 16, .rcl, .none, false, false, 0x0⟩, ⟨15, 0, .rcl, .none, false, false, 0x0⟩]⟩,
  -- HR_UE_ADDR_LO
  ⟨0x2A0010, [], .low, false, [⟨31, 0, .ro, .none, false, false, 0x0⟩]⟩,
  -- HR_UE_ADDR_HI
  ⟨0x2A0014, [], .high, false, [⟨31, 24, .ro, .none, false, false, 0x0⟩, ⟨7, 0, .ro, .none, false, false, 0x0⟩]⟩,
  -- HR_TEST
  ⟨0x2A0018, [], .single, false, [⟨31, 16, .ro, .none, false, false, 0x0⟩, ⟨7, 0, .ro, .none, false, false, 0xFF⟩]⟩,
  -- HR_TEMP
  ⟨0x2A0100, [(12, 0x4)], .single, false, [⟨31, 16, .rcl, .none, false, false, 0x8000⟩, ⟨15, 0, .ro, .none, false, false, 0x0⟩]⟩,
  -- HR_SUP
  ⟨0x2A0140, [(20, 0x4)], .single, false, [⟨16, 16, .w1c, .none, false, false, 0x0⟩, ⟨15, 0, .ro, .none, false, false, 0x0⟩]⟩,
  -- HR_ARCH_WR
  ⟨0x2A0200, [], .single, false, [⟨31, 0, .ro, .i, false, false, 0x0⟩]⟩,
  -- HR_ARCH_ACK
  ⟨0x2A0204, [], .single, false, [⟨31, 0, .rw, .i, true, false, 0x0⟩]⟩,
  -- HR_ARCH_STAT
  ⟨0x2A0208, [], .single, false, [⟨31, 16, .rcl, .none, false, false, 0x0⟩, ⟨15, 0, .ro, .none, false, false, 0x0⟩]⟩]

/-- The registers of the ClockPower block, one row per register family. -/
def rowsClockPower : List RegRow := [
  -- CP_BOOT_STAT
  ⟨0x2C0100, [], .single, false, [⟨31, 24, .ro, .none, false, false, 0x16⟩, ⟨23, 16, .ro, .none, false, false, 0x16⟩, ⟨9, 8, .ro, .none, false, false, 0x0⟩, ⟨6, 6, .ro, .none, false, false, 0x0⟩, ⟨5, 4, .ro, .none, false, false, 0x0⟩, ⟨3, 0, .ro, .none, false, false, 0x0⟩]⟩,
  -- CP_BOOT_DETAIL_A
  ⟨0x2C0104, [], .single, false, [⟨23, 16, .ro, .none, false, false, 0x0⟩, ⟨15, 0, .ro, .none, false, false, 0xFFFF⟩]⟩,
  -- CP_BOOT_DETAIL_B
  ⟨0x2C0108, [], .single, false, [⟨23, 16, .ro, .none, false, false, 0x0⟩, ⟨15, 0, .ro, .none, false, false, 0xFFFF⟩]⟩,
  -- CP_BOOT_TIME
  ⟨0x2C010C, [], .single, false, [⟨31, 0, .ro, .none, false, false, 0x0⟩]⟩,
  -- CP_SEED_SEQ_LO
  ⟨0x2C0110, [], .low, false, [⟨31, 0, .ro, .none, false, false, 0x0⟩]⟩,
  -- CP_SEED_SEQ_HI
  ⟨0x2C0114, [], .high, false, [⟨31, 0, .ro, .none, false, false, 0x0⟩]⟩,
  -- CP_RESTART
  ⟨0x2C0118, [], .single, false, [⟨2, 2, .wo, .i, true, false, 0x0⟩, ⟨1, 0, .wo, .i, true, false, 0x0⟩]⟩,
  -- CP_HOST_IMG
  ⟨0x2C011C, [], .single, false, [⟨17, 0, .rw, .i, true, false, 0x0⟩]⟩,
  -- CP_HOST_IMG_LEN
  ⟨0x2C0120, [], .single, false, [⟨26, 0, .rw, .i, true, false, 0x0⟩]⟩,
  -- CP_RETAIN_CFG
  ⟨0x2C0124, [], .single, false, [⟨19, 8, .rw, .a, false, true, 0x3C⟩, ⟨7, 2, .rw, .a, false, true, 0x1⟩, ⟨1, 0, .rw, .a, false, true, 0x0⟩]⟩,
  -- CP_RETAIN_STAT
  ⟨0x2C0128, [], .single, false, [⟨15, 8, .ro, .none, false, false, 0x0⟩, ⟨2, 2, .ro, .none, false, false, 0x0⟩, ⟨1, 0, .ro, .none, false, false, 0x0⟩]⟩,
  -- CP_RETAIN_FLAGS
  ⟨0x2C012C, [], .single, false, [⟨5, 5, .w1c, .none, false, false, 0x0⟩, ⟨4, 4, .w1c, .none, false, false, 0x0⟩, ⟨3, 3, .w1c, .none, false, false, 0x0⟩, ⟨2, 2, .w1c, .none, false, false, 0x0⟩, ⟨1, 1, .w1c, .none, false, false, 0x0⟩, ⟨0, 0, .w1c, .none, false, false, 0x0⟩]⟩,
  -- CP_SAVE_SIZE
  ⟨0x2C0130, [], .single, false, [⟨27, 12, .ro, .none, false, false, 0x0⟩, ⟨11, 0, .ro, .none, false, false, 0x0⟩]⟩,
  -- CP_HOLDUP
  ⟨0x2C0134, [], .single, false, [⟨23, 0, .ro, .none, false, false, 0x0⟩]⟩,
  -- CP_CTR_RESERVE_LO
  ⟨0x2C0138, [], .low, false, [⟨31, 0, .ro, .none, false, false, 0x0⟩]⟩,
  -- CP_CTR_RESERVE_HI
  ⟨0x2C013C, [], .high, false, [⟨31, 31, .ro, .none, false, false, 0x0⟩, ⟨30, 0, .ro, .none, false, false, 0x0⟩]⟩,
  -- HL_LINK_STAT
  ⟨0x2C0400, [], .single, false, [⟨31, 16, .ro, .none, false, false, 0x0⟩, ⟨8, 8, .ro, .none, false, false, 0x0⟩, ⟨7, 4, .ro, .none, false, false, 0x0⟩, ⟨3, 0, .ro, .none, false, false, 0x0⟩]⟩,
  -- HL_WIN
  ⟨0x2C0404, [(2, 0x4)], .single, false, [⟨3, 0, .rw, .i, false, false, 0x0⟩]⟩,
  -- HL_BAR2_CFG
  ⟨0x2C040C, [], .single, false, [⟨5, 0, .rw, .i, true, true, 0x8⟩]⟩,
  -- HL_BAR2_STAT
  ⟨0x2C0410, [], .single, false, [⟨31, 16, .rcl, .none, false, false, 0x0⟩, ⟨15, 0, .rcl, .none, false, false, 0x0⟩]⟩,
  -- CP_TIME_SEC_LO
  ⟨0x2C0000, [], .low, false, [⟨31, 0, .ro, .none, false, false, 0x0⟩]⟩,
  -- CP_TIME_SEC_HI
  ⟨0x2C0004, [], .high, false, [⟨31, 0, .ro, .none, false, false, 0x0⟩]⟩,
  -- CP_TIME_NS
  ⟨0x2C0008, [], .third, false, [⟨29, 0, .ro, .none, false, false, 0x0⟩]⟩,
  -- CP_TIME_SET_LO
  ⟨0x2C0010, [], .low, false, [⟨31, 0, .rw, .i, true, false, 0x0⟩]⟩,
  -- CP_TIME_SET_HI
  ⟨0x2C0014, [], .high, false, [⟨31, 0, .rw, .i, true, false, 0x0⟩]⟩,
  -- CP_TIME_SET_FRAC
  ⟨0x2C0018, [], .single, false, [⟨14, 0, .rw, .i, true, false, 0x0⟩]⟩,
  -- CP_TIME_CTL
  ⟨0x2C001C, [], .single, false, [⟨5, 4, .ro, .none, false, false, 0x0⟩, ⟨3, 3, .w1c, .none, false, false, 0x0⟩, ⟨1, 1, .ro, .none, false, false, 0x0⟩, ⟨0, 0, .w1s, .i, true, false, 0x0⟩]⟩,
  -- CP_CLK_STAT
  ⟨0x2C0020, [], .single, false, [⟨27, 16, .w1c, .none, false, false, 0x0⟩, ⟨11, 0, .ro, .none, false, false, 0x0⟩]⟩,
  -- CP_DDR_STAT
  ⟨0x2C0030, [], .single, false, [⟨20, 16, .ro, .none, false, false, 0x0⟩, ⟨1, 1, .ro, .none, false, false, 0x0⟩, ⟨0, 0, .ro, .none, false, false, 0x0⟩]⟩,
  -- CP_XSPI_STAT
  ⟨0x2C0040, [], .single, false, [⟨31, 24, .ro, .none, false, false, 0x0⟩, ⟨23, 16, .ro, .none, false, false, 0x0⟩, ⟨15, 8, .ro, .none, false, false, 0x0⟩, ⟨7, 0, .ro, .none, false, false, 0x0⟩]⟩]

/-- The registers of the Debug block, one row per register family. -/
def rowsDebug : List RegRow := [
  -- DBG_STAT
  ⟨0x2E0000, [], .single, false, [⟨31, 24, .ro, .none, false, false, 0x0⟩, ⟨10, 8, .ro, .none, false, false, 0x0⟩, ⟨0, 0, .ro, .none, false, false, 0x0⟩]⟩,
  -- DBG_CTL
  ⟨0x2E0004, [], .single, false, [⟨2, 2, .w1s, .i, true, false, 0x0⟩, ⟨1, 1, .w1s, .i, true, false, 0x0⟩, ⟨0, 0, .w1s, .i, true, false, 0x0⟩]⟩,
  -- DBG_CHAL
  ⟨0x2E0010, [(8, 0x4)], .single, false, [⟨31, 0, .ro, .i, false, false, 0x0⟩]⟩,
  -- DBG_TOKEN
  ⟨0x2E0100, [(46, 0x4)], .single, false, [⟨31, 0, .wo, .i, false, false, 0x0⟩]⟩]

end Sys2Proof.Machine
end

