-- ==== Sys2Proof/Machine/Sparse.lean ====
section
/-! DEFINITION. Sparse maps in one canonical form: keys strictly rising, and no entry equal to what an unlisted key
reads as. Memory and the register file are held so. -/

namespace Sys2Proof.Machine

/-- What key k reads as: its entry, or the default of an unlisted key. -/
def smapGet {α : Type} (d : Nat → α) : List (Nat × α) → Nat → α
  | [], k => d k
  | e :: m, k => if e.1 = k then e.2 else smapGet d m k

/-- The map with key k removed. -/
def smapErase {α : Type} : List (Nat × α) → Nat → List (Nat × α)
  | [], _ => []
  | e :: m, k => if e.1 = k then smapErase m k else e :: smapErase m k

/-- The map with the entry (k, v) put in its place. -/
def smapInsert {α : Type} : List (Nat × α) → Nat → α → List (Nat × α)
  | [], k, v => [(k, v)]
  | e :: m, k, v =>
    if k < e.1 then (k, v) :: e :: m
    else if k = e.1 then (k, v) :: m
    else e :: smapInsert m k v

/-- The map with key k reading v: writing the value an unlisted key reads as removes the entry. -/
def smapSet {α : Type} [DecidableEq α] (d : Nat → α) (m : List (Nat × α)) (k : Nat) (v : α) : List (Nat × α) :=
  if v = d k then smapErase m k else smapInsert m k v

/-- The keys rise strictly. -/
def smapSorted {α : Type} : List (Nat × α) → Bool
  | [] => true
  | [_] => true
  | e :: e' :: m => decide (e.1 < e'.1) && smapSorted (e' :: m)

/-- The canonical form of a sparse map. -/
def smapWf {α : Type} [DecidableEq α] (d : Nat → α) (m : List (Nat × α)) : Bool :=
  smapSorted m && m.all (fun e => decide (e.2 ≠ d e.1))

/-- Put the entries of a list one after another. -/
def smapSetAll {α : Type} [DecidableEq α] (d : Nat → α) (m : List (Nat × α)) : List (Nat × α) → List (Nat × α)
  | [] => m
  | e :: es => smapSetAll d (smapSet d m e.1 e.2) es

/-- The entries with keys in [lo, hi). -/
def smapRange {α : Type} (m : List (Nat × α)) (lo hi : Nat) : List (Nat × α) :=
  m.filter (fun e => decide (lo ≤ e.1) && decide (e.1 < hi))

/-- The map without the entries whose keys lie in [lo, hi). -/
def smapDrop {α : Type} (m : List (Nat × α)) (lo hi : Nat) : List (Nat × α) :=
  m.filter (fun e => !(decide (lo ≤ e.1) && decide (e.1 < hi)))

/-- Copy the entries of [src, src + n) to [dst, dst + n), replacing what was there (both ranges must read the same
default where nothing is listed). -/
def smapCopy {α : Type} [DecidableEq α] (d : Nat → α) (m : List (Nat × α)) (src dst n : Nat) : List (Nat × α) :=
  smapSetAll d (smapDrop m dst (dst + n)) ((smapRange m src (src + n)).map (fun e => (e.1 - src + dst, e.2)))

/-- Consecutive values from a key on: what a default does not give is listed. -/
def smapRun {α : Type} [DecidableEq α] (d : Nat → α) : Nat → List α → List (Nat × α)
  | _, [] => []
  | k, v :: vs => if v = d k then smapRun d (k + 1) vs else (k, v) :: smapRun d (k + 1) vs

/-- Consecutive keys made to read the values of a list. -/
def smapFill {α : Type} [DecidableEq α] (d : Nat → α) (m : List (Nat × α)) (k : Nat) (vs : List α) : List (Nat × α) :=
  m.filter (fun e => decide (e.1 < k)) ++ smapRun d k vs ++ m.filter (fun e => decide (k + vs.length ≤ e.1))

end Sys2Proof.Machine
end

