-- ==== Sys2Proof/Config.lean ====
section
/-! DEFINITION. What one implementation or one board fixes and the spec does not, and the free values: constants
without a body, so that nothing proved here can rest on what they are. -/

namespace Sys2Proof.Config

/-- A fresh free value for each number drawn: an uninterpreted 64-bit value (assumption 1). -/
opaque freeValue : Nat → BitVec 64

/-- The fused serial number of GLOBAL_UID_LO and GLOBAL_UID_HI ("Fused" in the register table). -/
opaque uid : BitVec 64

/-- The taps of the Hilbert filter of R335 as binary64 bits, from 1 to 127 places beside its centre: the spec gives its length
and band and not its taps. -/
opaque hilbertTap : Nat → BitVec 64

/-- Byte i of the benchmark problem as it is unpacked into a slice (R188): its ROM is not published. -/
opaque benchByte : Nat → BitVec 8

/-- TILL cycles that a solve's update waits for the sequencer (CL_SEQ_WAIT, R186). -/
opaque seqWait : List (BitVec 8) → Nat → Nat

/-- GROUP of a row of a problem by what it stands for and its element (R169): no rule numbers the groups. -/
opaque rowGroup : Nat → Nat → BitVec 8

/-- The friction factor of a pipe without flow, where Re₀ of R151 is 0, as binary64 bits. -/
opaque stillFriction : Nat → BitVec 64

/-- The pressure of a node at the linearisation point (R156), as binary64 bits. -/
opaque startPressure : Nat → BitVec 64

/-- A quantity that the equations of the condensed network of R157 leave undetermined, as binary64 bits: its constant (what
kind of quantity, and of which element) given the equations and a stage's forecast, and its slope in a variable of the stage. -/
opaque networkBase : List Nat → List Nat → Nat → Nat → BitVec 64
opaque networkGain : List Nat → Nat → Nat → Nat → BitVec 64

/-- The arrival temperature at the end of a pipe in which no water moves (R154 divides by its flow), by pipe and stage, as
binary64 bits. -/
opaque stillArrival : Nat → Nat → BitVec 64

/-- What a byte of a NOR range reads as after a program or erase that its device reported as failed (R110), by the number
of free values drawn before it and the address. -/
opaque norByte : Nat → Nat → BitVec 8

/-- The pair protocol version of HELLO (R361), which the spec does not number. -/
opaque pairVersion : Nat

/-- The fused root secret (R379), 32 bytes. -/
opaque rootSecret : BitVec 256

/-- The Nalxis firmware and manufacturing public keys, byte by byte, whose digests are fused (R50, R53). -/
opaque firmwareKey : Nat → BitVec 8
opaque manufacturingKey : Nat → BitVec 8

/-- The size in KiB of the warm set as far as a section of the sowing brings it, and of the full set beyond it (CP_SAVE_SIZE,
R63), by the prehash of the sown image: the spec gives their bounds and one example. -/
opaque warmKib : List (BitVec 8) → Nat → Nat
opaque fullKib : List (BitVec 8) → Nat

/-- Byte i of the boot ROM, whose digest R439 gives and whose content the spec does not. -/
opaque romByte : Nat → BitVec 8

/-- The age of the conversion that the image shows for an RTD channel that has never converted, by channel and SYS cycle. -/
opaque rtdAge : Nat → Nat → BitVec 32

end Sys2Proof.Config
end

