-- ==== Sys2Proof/Machine/State.lean ====
section
/-! DEFINITION. The machine's state as plain data, chapter by chapter of spec/, the reasons a step can stop, and the
state after reset. Registers live in `regs` under their BAR0 offsets (Machine/Regs.lean names them); what stands here
beside them is state that no register shows or that a register shows only in part. -/

namespace Sys2Proof.Machine

/-! State of chapter 03 -/

/-- A write accepted by the fabric and still crossing to its block's domain (R28, R82): the address written (R78), the
register, the bits it changes, their new values, the W1C bits it clears, the data of its W1S and WO bits, whether it changes
class-S fields (R83), and when it was accepted. -/
structure Crossing where
  master : Nat
  addr : Nat
  off : Nat
  mask : Word
  value : Word
  clr : Word
  data : Word
  classS : Bool
  since : Nat
deriving DecidableEq, Repr

/-- Pending class-A bits of one register (R82): the bits of `mask` are pending with the values in `value`; `born` is the
number of the oldest write among them (R90). -/
structure PendA where
  off : Nat
  mask : Word
  value : Word
  born : Nat
deriving DecidableEq, Repr

/-- A word latched for one master's next read of the register at `off` (R75, R343, R437). -/
structure Shadow where
  master : Nat
  off : Nat
  value : Word
deriving DecidableEq, Repr

/-- A fault condition that persists (GLOBAL_FAULT_STAT.ACTIVE): class, source block, code and detail. -/
structure ActiveFault where
  cls : Nat
  source : Nat
  code : Nat
  info : Nat
deriving DecidableEq, Repr

/-- One record of the Gleaner error log (R409) or one entry of its queue (R410). -/
structure Report where
  first : Nat
  last : Nat
  repeats : Nat
  source : Nat
  kind : Nat
  code : Nat
  master : Nat
  info : Nat
deriving DecidableEq, Repr

/-- The register fabric beside its registers: unlock windows by master with the time they end (R81), latched
shadows (R75), pending class-A values (R82), those that the headland in progress applies (R24) and those that the next
metering sample takes (R350), writes in flight
(R28), the number of class-A writes accepted, when EDIT was set, the last of these writes that a running commit waits for
(R90), and whether comparisons are made (R89). -/
structure Fabric where
  unlocks : List (Nat × Nat)
  shadows : List Shadow
  pendA : List PendA
  pendNow : List PendA
  armed : List PendA
  inFlight : List Crossing
  editSince : Option Nat
  accepts : Nat
  commitOn : Option Nat
  compareOn : Bool
deriving DecidableEq, Repr

/-- One histogram slice (R405). -/
structure HSlice where
  bins : List Nat
  under : Nat
  above : Nat
  nan : Nat
  min : DWord
  max : DWord
  minTime : Nat
  maxTime : Nat
  start : Nat
  flags : Nat
deriving DecidableEq, Repr

/-- The Gleaner's and the harrow's state outside registers and SDRAM (chapter 17): the error queue (R410), the last
record written to the log, the value FIFO (R404), the live and held minute slices by definition and the minutes they
hold (R406, R407), the windows a warm restart carries, by 3 × definition + window (R408), the harrow's counts, and the definitions
that wait for the end of a freeze (R407): a record, or none where one becomes unused. -/
structure Gleaner where
  errQueue : List Report
  lastWritten : Option Report
  fifo : List (Nat × DWord × Nat)
  live : List (Nat × HSlice)
  held : List (Nat × HSlice)
  heldMinute : Option Nat
  liveMinute : Nat
  liveStep : Bool
  livePartial : Bool
  carried : List (Nat × HSlice)
  freezeSince : Option Nat
  lastTest : Nat
  critRuns : List (Nat × Nat)
  warm : List Nat
  tempHistAt : Nat
  archErases : List (Nat × Nat)
  heldDefs : List (Nat × Option (List Byte))
deriving DecidableEq, Repr

/-- An entry of the MSI-X table (R93): the address and the data of its message. -/
structure MsixEntry where
  address : Nat
  data : Nat
deriving DecidableEq, Repr

/-- MSI-X state of one function (R93, R100): enable, function mask, unmasked vectors, pending bits, and the message of each
vector. -/
structure Msix where
  enable : Bool
  fmask : Bool
  unmasked : List Nat
  pba : List Nat
  table : List MsixEntry
deriving DecidableEq, Repr

/-- A BAR2 read that waits behind earlier writes of its function (R97): its offset in BAR2, the SDRAM address it was
translated to, its length, when it came, and how many posted writes are ahead of it. -/
structure WaitingRead where
  offset : Nat
  addr : Nat
  len : Nat
  since : Nat
  ahead : Nat
deriving DecidableEq, Repr

/-- One physical function of the host link: MSI-X, power state (R103) and its BAR2 posted writes (R97), oldest first:
SDRAM address of the first byte, and the bytes with their enables; and the BAR2 reads that wait. -/
structure PcieFn where
  msix : Msix
  d3hot : Bool
  posted : List (Nat × List (Option Byte))
  reads : List WaitingRead
deriving DecidableEq, Repr

/-- The host link: both functions, the level of PE_PERST_N, and whether link-up waits for its end (R101). -/
structure HostLink where
  pf0 : PcieFn
  pf1 : PcieFn
  perst : Bool
  bringupDone : Bool
deriving DecidableEq, Repr

/-- A word waiting in a queue direction, with the time of its post (R105, R111). -/
structure QWord where
  word : Word
  at_ : Nat
deriving DecidableEq, Repr

/-- A message the controller has sent out of the block; newest first in `State.outbox`. -/
inductive OutMsg where
  /-- Data returned to a master for a register read (R73). -/
  | readData (master : Nat) (addr : Nat) (data : Nat)
  /-- A read completion: status 0 successful, 1 poisoned, 2 Completer Abort, 3 Unsupported Request (R97, R101). -/
  | completion (fn : Nat) (status : Nat) (bytes : List Byte)
  /-- An MSI-X message (R100), to the address and with the data of its vector's table entry (R93). -/
  | msi (fn : Nat) (vector : Nat) (address : Nat) (data : Nat)
  /-- PM_PME (R103). -/
  | pme (fn : Nat)
  /-- An Ethernet frame sent on a field port, byte by byte with its FCS (chapter 12). -/
  | frame (port : Nat) (bytes : List Nat)
  /-- A frame queued on a plant bus channel (chapter 13). -/
  | canFrame (channel : Nat) (object : Nat) (bytes : List Byte)
  /-- A frame sent to the partner over the headland link (chapter 15). -/
  | pairFrame (f : PairFrame)
  /-- A JTAG data-register read (R434). -/
  | tdo (value : Nat)
deriving DecidableEq, Repr

/-! State of chapter 04 -/

/-- An amendment that has been checked (R108): its channel, opcode, tag, inline words, staged payload, and the number of
its group. -/
structure Amend where
  ch : Nat
  op : Nat
  tag : Nat
  inl : List Word
  payload : List Byte
  group : Option Nat
deriving DecidableEq, Repr

/-- A group that is open on a channel (R111): its number, when its first header came, its requests in order, the place and
code of the first that broke a rule of its own, and, while what its requests make together is not consistent, the place of
the request that began it and the codes broken ever since. -/
structure OpenGroup where
  ch : Nat
  no : Nat
  since : Nat
  members : List Amend
  bad : Option (Nat × Nat)
  unfit : Option (Nat × List Nat)
deriving DecidableEq, Repr

/-- The steward's request handling (R108 to R111): amendments accepted and not yet applied, those that the headland in
progress applies, open groups, the number of the next group, replies that wait for room:
the DATA register of their direction and two words, and which atlas bank is the spare (R114). -/
structure Requests where
  accepted : List Amend
  applying : List Amend
  open_ : List OpenGroup
  groupNo : Nat
  replies : List (Nat × Word × Word)
  spare : Nat
deriving DecidableEq, Repr


/-! State of chapter 06 -/

/-- One measurement point of the point table (R139): SOURCE, KIND, and SCALE, OFFSET and SIGMA as binary32 bits. -/
structure Point where
  source : Nat
  kind : Nat
  scale : Nat
  offset : Nat
  sigma : Nat
deriving DecidableEq, Repr

/-- A furrow advance in progress (R148, R149): region, the bank it works in, the calendar time in ENERGY_TIME units,
PASS_MS and pass count of its freeze edge, the input image it reads, and when it began. -/
structure Advance where
  region : Nat
  bank : Nat
  time : Nat
  ms : Nat
  pass : Nat
  base : Nat
  began : Nat
deriving DecidableEq, Repr

/-- One point of a measurement snapshot (R142): which point, its value as binary64 bits, validity and substitution. An
implicit point (R141) i of entry g counts as 0x10000 + 4 g + i. -/
structure SnapPoint where
  code : Nat
  value : Nat
  valid : Bool
  subst : Bool
deriving DecidableEq, Repr

/-- The water of one pipe at the launching freeze edge (R154): MASS_TOTAL as binary32 bits, and mass and temperature of each
parcel from the FROM end, as binary64 bits. -/
structure Profile where
  pipe : Nat
  massTotal : Nat
  parcels : List (Nat × Nat)
deriving DecidableEq, Repr

/-- A parcel of a furrow (R143): MASS and TEMP as binary32 bits, ENTRY. -/
structure Parcel where
  mass : Nat
  temp : Nat
  entry : Nat
deriving DecidableEq, Repr

/-- A furrow (R143): the header fields, and the parcels from the FROM end. -/
structure Furrow where
  head : Nat
  cap : Nat
  stalled : Bool
  dir : Bool
  forced : Bool
  reversals : Nat
  massTotal : Nat
  outFrom : Nat
  outTo : Nat
  qAdv : Nat
  delay : Nat
  advMs : Nat
  parcels : List Parcel
deriving DecidableEq, Repr

/-- A pipe whose furrow waits for the advance of a region to complete before it is seeded again (R115, R149): its water as it
still moves under that advance's bank (none: a pipe created), whether it is seeded at T_INIT, and the calendar time of the
headland. -/
structure LateSeed where
  region : Nat
  pipe : Nat
  water : Option Furrow
  fresh : Bool
  time : Nat
deriving DecidableEq, Repr

/-- What an assembly takes beside the points from the launching image (R142, R155): a set-point table entry (1 pump, 2
valve, as binary32 bits), whether a plant runs (3: 1 or 0), and order 0 of a station (4), by index. -/
structure SnapValue where
  what : Nat
  index : Nat
  value : Int
deriving DecidableEq, Repr

/-- The surveyors beside their registers (chapter 6): the advances in progress, the freeze edges skipped in a row by
region, T_node by node (R147), that of the launching pass of the campaign in flight (R198), q̂ by pipe and the substation flow of its snapshot by field (R146), the quarantine (R161):
point, region, and the first and the last launch it holds for; the regions whose snapshot is due, the snapshot and the profiles of the
campaign in flight, the estimates, the regions being restarted with the time it ends (R138), the further values of the
snapshot, the furrows that wait to be seeded again (R149), and the code that each microcode store holds (R137). -/
structure Survey where
  advances : List Advance
  skips : List (Nat × Nat)
  tnode : List (Nat × Nat)
  tLaunch : List (Nat × Nat)
  qhat : List (Nat × Nat)
  dEst : List (Nat × Int)
  quar : List (Nat × Nat × Nat × Nat)
  snapDue : List Nat
  snap : List SnapPoint
  dSnap : List (Nat × Int)
  profiles : List Profile
  ests : List Estimate
  restarting : List (Nat × Nat)
  snapMore : List SnapValue
  late : List LateSeed
  code : List Byte
deriving DecidableEq, Repr

/-! State of chapter 07 -/

/-- An iterate of a solve (R173) as binary64 bits, stage after stage: x, the duals of the equality rows, the slacks and
duals of the inequality rows, and the duals of the lower and upper bounds (0 where a bound is not finite). -/
structure LaneIter where
  x : List (List Nat)
  y : List (List Nat)
  s : List (List Nat)
  z : List (List Nat)
  zl : List (List Nat)
  zu : List (List Nat)
deriving DecidableEq, Repr

/-- A solve in progress on a lane (R164, R173): the slice as it was when GO landed, the updates completed, the run of
stalled updates, max(‖r_e‖∞, ‖r_i‖∞) of the last five updates as binary64 bits (newest first), the status once decided,
the pivots floored, when GO landed, the last completed iterate (R175), and the dual sums of the row groups at the update
before it (R180). -/
structure LaneRun where
  lane : Nat
  prob : List Byte
  k : Nat
  stall : Nat
  resid : List Nat
  decided : Option Nat
  floored : Nat
  goAt : Nat
  iter : LaneIter
  before : List Nat
deriving DecidableEq, Repr

/-! State of chapter 08 -/

/-- A variable of an estimation problem (R156). -/
inductive EstVar where
  | p (node : Nat)
  | t (node : Nat)
  | w (node : Nat)
  | q (pipe : Nat)
deriving DecidableEq, Repr

/-- A variable of a stage of an optimisation problem (R157). -/
inductive OptVar where
  | plantP (plant : Nat)
  | plantT (plant : Nat)
  | group (group : Nat)
  | pump (pump : Nat)
  | valve (valve : Nat)
  | storeM (store : Nat)
  | storeE (store : Nat)
  | flow (pipe : Nat)
  | temp (pipe : Nat)
deriving DecidableEq, Repr

/-- A coupled pipe of a group (R197 to R199): its fields, z and T_fix by stage as binary64 bits, and λ, H⁰ and g⁰ of each
field's copy of the flow by stage; `open_` while both fields take part. -/
structure Coupled where
  pipe : Nat
  up : Nat
  down : Nat
  z : List Nat
  tfix : List Nat
  lamUp : List Nat
  lamDown : List Nat
  h0Up : List Nat
  g0Up : List Nat
  h0Down : List Nat
  g0Down : List Nat
  stepped : Bool
  open_ : Bool
deriving DecidableEq, Repr

/-- A coordination group (R197): its fields, the region that owns it, the round in progress, the last complete round, and
whether it has converged, and pri and dual of its last consensus step as binary32 bits. -/
structure GroupRun where
  fields : List Nat
  owner : Nat
  round : Nat
  done : Option Nat
  converged : Bool
  pipes : List Coupled
  pri : Nat
  dual : Nat
deriving DecidableEq, Repr

/-- An optimisation delivery (R182, R202): round, status, VALID, RESOLVE of its problem, ITER, GROUP, OBJ, and the lane's
slice up to the end of the result area. -/
structure Kept where
  round : Nat
  status : Nat
  valid : Bool
  resolve : Bool
  iter : Nat
  group : Nat
  obj : Nat
  slice : List Byte
deriving DecidableEq, Repr

/-- One field of the campaign in flight: its lane, which problems it has and which have been handed over, the statuses
delivered, flags of R205, the variables of its problems, the last optimisation delivery, that of the last complete
round, and whether it starts without a warm start (R115). -/
structure FieldRun where
  field : Nat
  region : Nat
  lane : Option Nat
  wantEst : Bool
  wantOpt : Bool
  estGo : Bool
  estDone : Bool
  optGo : Bool
  waiting : Bool
  estStatus : Nat
  estFallback : Bool
  notAssembled : Bool
  left : Bool
  estVars : List (List EstVar)
  estPoints : List Nat
  optVars : List OptVar
  last : Option Kept
  kept : Option Kept
  cold : Bool
deriving DecidableEq, Repr

/-- The campaign in flight, with the settings it holds for its life (R191, R192): Δh in SYS cycles, the electricity price
of each stage and the flow basis of each pipe as binary64 bits, the forecast profile factors of its fields as binary32 bits
(R193), the fields and groups, whether it was complete when the
headland began (R26), whether the deadline is raised, and whether it was hit. -/
structure Campaign where
  bank : Nat
  gen : Nat
  launchPass : Nat
  launchTime : Nat
  horizon : Nat
  deadline : Nat
  iterResolve : Nat
  roundsMax : Nat
  rho : Nat
  epsQ : Nat
  epsDual : Nat
  epsT : Nat
  prices : List Nat
  basis : List (Nat × Nat)
  factors : List (Nat × List Nat)
  fields : List FieldRun
  groups : List GroupRun
  ready : Bool
  raised : Bool
  hit : Bool
deriving DecidableEq, Repr

/-- Campaigns (chapter 8): the campaign in flight, the pass count at which the next launch is due (none: at the first
freeze edge at which R190's conditions hold), whether CAMPAIGN_NOW has asked for one, the
launches since sowing, whether the headland in progress publishes (R203), the solution store, and the fields that start
their next campaign without a warm start (R115). -/
structure Campaigns where
  inFlight : Option Campaign
  due : Option Nat
  asked : Bool
  launched : Nat
  decidedAt : Option Nat
  publishing : Bool
  store : List Stored
  noWarm : List Nat
deriving DecidableEq, Repr

/-! State of chapter 09 -/

/-- A function-block call in progress (R259): the instance, the caller's B1 to B3 and its branch-stack depth. -/
structure FbFrame where
  inst : Nat
  b1 : BitVec 22
  b2 : BitVec 22
  b3 : BitVec 22
  depth : Nat
  frame : Nat
deriving DecidableEq, Repr

/-- One entry of the call stack: the return index, and the function-block frame of a CALLFB (R209, R259). -/
structure CallEntry where
  ret : Nat
  fb : Option FbFrame
deriving DecidableEq, Repr

/-- The state of one pass core (R209): accumulators, bases, stacks (top first), PC, flags, the barriers it has arrived
at in this logic phase and the one it waits at (R235), whether it is gated (R251) and whether it is halted. -/
structure PassCore where
  la : Bool
  w0 : DWord
  w1 : DWord
  b1 : BitVec 22
  b2 : BitVec 22
  b3 : BitVec 22
  branch : List (Bool × Nat)
  calls : List CallEntry
  pc : Nat
  ov : Bool
  dz : Bool
  nv : Bool
  arrived : List Nat
  waiting : Option Nat
  gated : Bool
deriving DecidableEq, Repr

/-- The share of one strip (R239): where its code, constants and operand shares begin, and how long they are. -/
structure Strip where
  codeBase : Nat
  codeLen : Nat
  entry : Nat
  constBase : Nat
  constLen : Nat
  mBase : Nat
  mLen : Nat
  kBase : Nat
  kLen : Nat
  tBase : Nat
  tCount : Nat
  nBase : Nat
  nCount : Nat
  eBase : Nat
  eCount : Nat
deriving DecidableEq, Repr

/-- One record of an initial-value block (R240), with its offset made absolute within the area. -/
structure InitRec where
  area : Nat
  off : Nat
  data : List Byte
deriving DecidableEq, Repr

/-- One function-block descriptor of the library (R256). -/
structure FbBlock where
  type : Nat
  version : Nat
  entry : Nat
  bodyLen : Nat
  inOff : Nat
  inLen : Nat
  outOff : Nat
  outLen : Nat
  init : List Byte
deriving DecidableEq, Repr

/-- One instance entry of the library (R256). -/
structure FbInst where
  ident : Nat
  block : Nat
  strip : Nat
deriving DecidableEq, Repr

/-- A program as placed in a pair of banks (R239, R256): identity, strips, barrier masks, initial values, library. -/
structure Program where
  progId : Nat
  isa : Nat
  strips : List Strip
  barMask : List Nat
  init : List InitRec
  blocks : List FbBlock
  insts : List FbInst
  libLen : Nat
deriving DecidableEq, Repr

/-- The pass (chapters 9 and 10): the four cores, the programs in force, staged and kept, the timer grid, the edges of
the pass in progress (freeze, logic and output), and which image buffers are in use. -/
structure Pass where
  core0 : PassCore
  core1 : PassCore
  core2 : PassCore
  core3 : PassCore
  prog : Option Program
  staged : Option Program
  kept : Option Program
  timerOn : Bool
  nextTick : Nat
  period : Nat
  periodNext : Option Nat
  tickOf : Nat
  lateDue : Option Nat
  freezeAt : Nat
  logicAt : Nat
  outAt : Nat
  msAcc : Nat
  first : Bool
  faulted : Bool
  fatal : Bool
  exchanged : Bool
  lastCampaign : Nat
  lastLogicUs : Nat
  inBuf : Bool
  outBuf : Bool
  holdTicksUntil : Nat
deriving DecidableEq, Repr

/-! State of chapter 11 -/

/-- One loop engine beside its registers (R267 to R282): e1, e2, f1 and d1 in Q1.15 units, the limiter's z and v in units
of 2⁻³¹, whether the next sample is the first of a start, the set-point taken as binary32 bits and the commanded FF, the
coefficients held (KP, KI, KD, KF, KA, SHIFT) with the samples started on them, the tick of the sample that awaits its
feedback, the stamp of the conversion or frame last used, overruns since sowing, and v_pv, x (binary32 bits) and the
calendar time of the last sample. -/
structure LoopEngine where
  e1 : Int
  e2 : Int
  f1 : Int
  d1 : Int
  z : Int
  v : Int
  first : Bool
  sp : Nat
  ff : Int
  held : Option (List Nat)
  heldCount : Nat
  due : Option Nat
  stamp : Nat
  overruns : Nat
  vpv : Nat
  x : Nat
  code : Nat
  time : Nat
deriving DecidableEq, Repr

/-- The outputs as the unit drives them where it drives its pins at all (R219, R268, R353, R433): the DAC codes, the PWM duties in force and those that wait for a period start,
the GPIO codes, and the safe values in force as the 112 bytes of R51. -/
structure Outputs where
  dac : List Nat
  pwm : List Nat
  pwmNext : List Nat
  gpio : List Nat
  safe : List Byte
deriving DecidableEq, Repr

/-- The loop engines and the external set-point port (chapter 11): the time of the next loop tick once the timer runs, the
ticks so far, whether a freeze edge has passed since the last tick, the command blocks of a used output edge not yet taken
(SP as binary32 bits, and FF), the external words with the time and the count of complete frames. -/
structure Loops where
  engines : List LoopEngine
  nextTick : Option Nat
  ticks : Nat
  freezeSeen : Bool
  cmds : List (Nat × Int)
  xsp : List Nat
  xspAt : Option Nat
  xspFrames : Nat
  pwmNextAt : Nat
deriving DecidableEq, Repr

/-- A loop engine after reset. -/
def loopEngine0 : LoopEngine :=
  { e1 := 0, e2 := 0, f1 := 0, d1 := 0, z := 0, v := 0, first := true, sp := 0, ff := 0, held := none, heldCount := 0,
    due := none, stamp := 0, overruns := 0, vpv := 0, x := 0, code := 0, time := 0 }


/-! State of chapter 12 -/

/-- A frame in a receive queue (R305): its bytes without FCS, and the arrival timestamp of its descriptor, calendar time in
SYS cycles. -/
structure RxFrame where
  bytes : List Byte
  time : Nat
deriving DecidableEq, Repr

/-- A foreign time transmitter heard by the time receiver (IEEE 1588, 9.3.2.4): the identity of its port, its data set as one
number that is smaller for a better one (9.3.4), and the arrival of its last Announce messages, latest first. -/
structure PtpMaster where
  id : Nat
  rank : Nat
  heard : List Nat
deriving DecidableEq, Repr

/-- PTP on one port (R286): the transmitters heard and the one followed; a two-step Sync that waits for its Follow_Up
(sequence, arrival, correction); the delay request in flight (sequence, time sent) and a two-step answer to it that waits for
its Follow_Up (turnaround known so far); transmitter to receiver of the last Sync and mean path delay in ns; and the sequence
numbers and due times of what the port sends. -/
structure PtpPort where
  masters : List PtpMaster
  parent : Option Nat
  sync : Option (Nat × Nat × Int)
  asked : Option (Nat × Nat)
  answer : Option Int
  back : Int
  delay : Int
  seqAnnounce : Nat
  seqSync : Nat
  seqAsk : Nat
  dueAnnounce : Nat
  dueSync : Nat
deriving DecidableEq, Repr

/-- One field port beside its registers (chapter 12): the frames of its receive queue, oldest first (R305), what has
happened since the last freeze edge (reports accepted, frames dropped, ORDER telegrams sent, a queue drop), when EN was
set, the times of the Echo Requests answered in the last second, the Sync messages within ±1 µs in a row, and PTP (R286). -/
structure FieldPort where
  queue : List RxFrame
  accepted : Nat
  dropped : Nat
  orders : Nat
  qdrop : Bool
  enabledAt : Nat
  echoes : List Nat
  lockRun : Nat
  ptp : PtpPort
deriving DecidableEq, Repr

/-- A telegram that waits for a counter reservation (R69): whether it is for a waiting-room slot, and of which entry or slot;
the addressing, key generation and station as they were when it was composed (R296); the least counter that it raises TX_CTR
to first; its type, 0 where only the raise waits; and its plaintext. -/
structure HeldTelegram where
  room : Bool
  place : Nat
  port : Nat
  mac : Nat
  ip6 : Nat
  addr : Nat
  keyGen : Nat
  floor : Nat
  type : Nat
  plain : List Byte
deriving DecidableEq, Repr

/-- Field exchange beside registers and SDRAM: the ports; the entries that have had a report accepted, a CLOSE sent, or a
step back recorded since the last freeze edge; whether the full waiting room has been recorded in this pass; the entries
whose pending order has been sent; a counter reservation in flight with the time it lands, and the telegrams that wait for
it (R69); the source MAC addresses of the HELLOs in the waiting room, by slot; and the time of the last PPS_IN edge
(R286). -/
structure FieldEx where
  ports : List FieldPort
  reported : List Nat
  closed : List Nat
  stepped : List Nat
  fullSeen : Bool
  sent : List Nat
  reserving : Option (Nat × Nat)
  waiting : List HeldTelegram
  roomMacs : List (Nat × Nat)
  ppsAt : Option Nat
deriving DecidableEq, Repr


/-! State of chapter 13 -/

/-- A transmit request that waits for arbitration on a plant bus channel (R319, R320). -/
structure CanReq where
  object : Nat
  dlc : Nat
  data : List Byte
deriving DecidableEq, Repr

/-- AGE of an object of a plant bus channel (R318): the passes since its last stored or sent frame, none before the
first, and whether a frame was sent since the previous freeze edge. -/
structure CanAge where
  channel : Nat
  object : Nat
  age : Nat
  fresh : Bool
deriving DecidableEq, Repr

/-- A plant bus channel beside its registers: the request whose frame is known to be past arbitration, the queue in ISO
priority order behind it (R320), the run of NO_ACK results (R323)
and WAKE since the previous freeze edge (R318). -/
structure CanChannel where
  onBus : Option CanReq
  queue : List CanReq
  noAcks : Nat
  woke : Bool
deriving DecidableEq, Repr

/-! State of chapter 14 -/

/-- The gain and the offset in volts of the two modulators of a chain (R332). -/
structure AdcCal where
  lowGain : Rat
  lowOfs : Rat
  highGain : Rat
  highOfs : Rat
deriving DecidableEq, Repr

/-- One ADC channel (R327, R329): its coefficients, its last samples, newest first, as binary64 bits in the channel's unit, and
the samples since the high-gain and the low-gain modulator last overloaded, and whether that low-gain overload was negative. -/
structure AdcChan where
  cal : AdcCal
  hist : List Nat
  sinceHigh : Nat
  sinceLow : Nat
  lowNeg : Bool
deriving DecidableEq, Repr

/-- One RTD channel (R330): resistance and temperature as binary64 bits, and when it was converted. -/
structure RtdChan where
  ohms : Nat
  temp : Nat
  at_ : Nat
deriving DecidableEq, Repr

/-- One pulse input (R331): the level at the ball with the time of its last change, the level that counts, the edges counted since the last sample with the time of the newest, the time of
the last edge used, the edges since the input started (to 2), and the frequency as binary64 bits. -/
structure PulseIn where
  raw : Bool
  since : Nat
  level : Bool
  edges : Nat
  lastEdge : Nat
  used : Nat
  started : Nat
  freq : Nat
deriving DecidableEq, Repr

/-- One sample of a feeder block (R335): voltages and currents as binary64 bits, power and reactive power of the
elements, and FAULT. -/
structure FdrSample where
  v : List Nat
  i : List Nat
  p : List Rat
  q : List Rat
  fault : Bool
deriving DecidableEq, Repr

/-- One feeder (R335): the samples of the block in progress, newest first, whether V1 has been below the hysteresis, and
what the image shows of the last block (R349). -/
structure Feeder where
  block : List FdrSample
  below : Bool
  hz : Nat
  vrms : List Nat
  irms : List Nat
  p : Nat
  q : Nat
  phase : List Nat
  time : Nat
deriving DecidableEq, Repr

/-- One plant meter (R337 to R340): density and enthalpies as binary64 bits with the temperatures they belong to, the
last flow, when its run in the present direction began, the samples with T_FAULT not yet counted as a second, when its
RANGE condition began, and the time of its last sample. -/
structure HeatMeter where
  rho : Nat
  hSup : Nat
  hRet : Nat
  tSup : Nat
  tRet : Nat
  flow : Nat
  below : Bool
  runFrom : Nat
  unmetered : Nat
  rangeFrom : Option Nat
  time : Nat
deriving DecidableEq, Repr

/-- The metering front end beside its registers (chapter 14): whether the sample clock runs (R269) and whether the sample in
progress is the last one (R346); samples since RESTORE, the calendar time of the last one, and the metering block as it was
after it (R349); the hidden fractions of the energy registers by the offset of their LO word (R342); calibration (R332): the
channel last visited and when, what the step waits for (1 and 4 a measurement of the spare chain and of the channel's own, 2
and 5 a comparison) and since when, the coefficients of the spare chain and those the channel is to take; and the time of the
last sample before a save whose outage is not yet recorded (R346). -/
structure Metering where
  running : Bool
  closing : Bool
  samples : Nat
  lastAt : Nat
  shown : List Byte
  adc : List AdcChan
  rtd : List RtdChan
  pulse : List PulseIn
  feeders : List Feeder
  meters : List HeatMeter
  frac : List (Nat × Nat)
  calLast : Nat
  calAt : Nat
  calPhase : Nat
  calFrom : Nat
  spare : AdcCal
  calNew : AdcCal
  outageFrom : Option Nat
deriving DecidableEq, Repr

/-! State of chapter 15 -/

/-- A headland set (R361): the pass it belongs to, the blocks, forwarded changes and digests it carries, the frames that
have come and whether one was lost or broken, the epoch and mode of its END, the time of the freeze edge of its pass,
and, once it is complete, the copied memory as it stands with it (area times 2³² plus offset). -/
structure PairSet where
  pass : Nat
  blocks : List PairBlock
  writes : List PairWrite
  digest : Option Nat
  campaign : Option (Nat × Bool)
  frames : Nat
  broken : Bool
  epoch : Nat
  mode : Nat
  at_ : Nat
  mem : List Host.Cell
deriving DecidableEq, Repr

/-- The pair beside its registers (chapter 15).
The link: the partner's HELLO, the unit's own HELLO as last sent, and the time of the last ALIVE with what it carried.
On an active unit: whether sets are sent and whether the partner is joining; the copied
memory that the standby has acknowledged; the pass, memory and number of forwarded changes of the set that waits for its
acknowledgement; the output digests by pass; the changes to forward.
On a standby: the time of the last ALIGN and whether a set has ended since; the set being received, the complete one that waits for its shadow pass and the
one whose shadow pass runs; the pass committed, its freeze edge and its memory; the stations heard with the freeze edges
since, the status items frozen at the last ALIGN, and runs of differences (R359); the metering registers and calendar
time latched at headland begin; whether the active unit hands over; whether the last set was committed and the last
comparison matched.
On both: the campaign digest of the last publication, with its pass and whether it was at the deadline, whether it is to
be sent, and the campaign it was of; failed sets in a row; the end of the timed rule's wait; the trigger of a takeover under way and whether its
freeze is due; how authority ends at the next headland's end (0 YIELD, 1 FALLOW, 2 a verdict); whether the headland in
progress hands over; the journal; errors corrected and whether one could not be since the last triangulation (R365); the
verdicts of both units, and whether the unit's own is to be sent; the configuration digest (R372); and whether the next
set carries the campaign block (R357). -/
structure Pair where
  hello : Option PairHello
  told : Option PairHello
  aliveAt : Nat
  alive : Option (Bool × Nat)
  serving : Bool
  joining : Bool
  acked : List Host.Cell
  sent : Option (Nat × List Host.Cell × Nat)
  own : List (Nat × Nat)
  forward : List PairWrite
  alignAt : Nat
  setEnded : Bool
  recv : Option PairSet
  staged : Option PairSet
  shadow : Option PairSet
  committed : Option (Nat × Nat)
  heard : List (Nat × Nat)
  status : List (Nat × Nat)
  diffs : List (Nat × Nat)
  latch : List (Nat × Nat)
  latchCal : Nat
  handover : Bool
  setOk : Bool
  matched : Bool
  ownCamp : Option (Nat × Nat × Bool)
  campOut : Bool
  campSeen : Nat
  failedRun : Nat
  waitEnd : Option Nat
  trigger : Option Nat
  freezeDue : Bool
  leaving : Option Nat
  ending : Bool
  journal : List PairWrite
  eccCorr : Nat
  eccBad : Bool
  verdict : Option Nat
  theirs : Option Nat
  verdictDue : Bool
  configDigest : Nat
  campDue : Bool
deriving DecidableEq, Repr


/-! State of chapter 16 -/

/-- Station keys (R394, R395): entries revoked, entries given a KEY_GEN at the next headland, and whether a new FIELD_ROOT
waits to reset the sessions there. -/
structure StationKeys where
  revoked : List Nat
  rekey : List (Nat × Nat)
  newRoot : Bool
deriving DecidableEq, Repr

/-- One key slot (R382, R384): whether it has a policy, the policy (TYPE, derived or written, PARENT, USE, BOUND, LABEL),
its written value, whether it is revoked, and the measurement that a written BOUND value is wrapped under (R380). -/
structure KeySlot where
  policy : Bool
  type : Nat
  derived : Bool
  parent : Nat
  use : Nat
  bound : Bool
  label : List Byte
  value : Option (List Byte)
  revoked : Bool
  boundTo : List Byte
deriving DecidableEq, Repr

/-- The records in the key store area of retention device 0 (R378, R392): the slots, the owner record, the update counter,
the rollback floor, the station revocation map, and the target of a transition whose record stands with the owner key it
carries (R377). -/
structure KeyArea where
  slots : List KeySlot
  owner : List Byte
  ctr : Nat
  floor : Nat
  revoked : List Nat
  target : Option (Nat × List Byte)
deriving DecidableEq, Repr

/-- The key store (chapter 16): the life-cycle fuses, the slots and the owner record as the security core holds them, the
records in retention, the boot measurement and whether its chain is closed, KEYWRITE_SIGNED_ONLY and ROLLBACK of the sown
image, whether the key store area can be reached, the policies sown and not yet applied (R383), the tokens that hold
scopes open (scopes and NOT_AFTER), and when the challenge was set. -/
structure KeyStore where
  lc : Nat
  slots : List KeySlot
  owner : List Byte
  area : KeyArea
  measure : List Byte
  closed : Bool
  signedOnly : Bool
  rollback : Nat
  stored : Bool
  sown : List (Nat × KeySlot)
  tokens : List (Nat × Nat)
  chalAt : Nat
deriving DecidableEq, Repr

/-! State of chapter 18 -/

/-- The TAP (R434): the instruction selected, and the update latch of the boundary register. -/
structure Jtag where
  ir : Nat
  latch : Nat
deriving DecidableEq, Repr


/-! State of chapter 02 -/

/-- What a retained record holds of a station, by its address (R68): the 88 bytes from ENERGY to ENERGY_TIME of its
entry, TX_CTR, RX_CTR and KEY_GEN. -/
structure SavedStation where
  address : Nat
  energy : List Byte
  tx : Nat
  rx : Nat
  gen : Nat
deriving DecidableEq, Repr

/-- A furrow in a retained record: its pipe, the pipe's atlas record and the furrow's bytes. -/
structure SavedFurrow where
  pipe : Nat
  element : List Byte
  water : List Byte
deriving DecidableEq, Repr

/-- A retained record (R62 to R65): sequence number, calendar time of capture, that of the last metering sample in it (R346), the first 32 bytes of the prehash of the
sown image, whether it is a power-fail save and whether it holds the full set; the mode in force; the registers and the
energy fractions kept as they stand; the stations; the memory kept, placed as a sowing places it, with its uncorrectable
words; the newest log record and the windows carried; and of the full set PASS_MS, the furrows, the engines with those
that run, q̂ and T_node; and LOG, LO and HI of the definitions in use. -/
structure Retained where
  seq : Nat
  time : Nat
  meterTime : Nat
  digest : List Byte
  isSave : Bool
  isFull : Bool
  mode : Nat
  regs : List (Nat × Word)
  frac : List (Nat × Nat)
  stations : List SavedStation
  mem : List Host.Cell
  bad : List Nat
  lastLog : Option Report
  carried : List (Nat × HSlice)
  msAcc : Nat
  furrows : List SavedFurrow
  engines : List LoopEngine
  running : List Nat
  qhat : List (Nat × Nat)
  tnode : List (Nat × Nat)
  dEst : List (Nat × Int)
  defs : List (Nat × Nat × Nat × Nat)
deriving DecidableEq, Repr

/-- A restart that waits for a power-fail save to commit (R66): whether its cause is WARM_N, the kind requested, and
whether it sows the host image. -/
structure HeldRestart where
  warm : Bool
  kind : Nat
  fromHost : Bool
deriving DecidableEq, Repr

/-- The boot of the unit (chapter 2): VDD_AON is up; PORST_N is low; TEST_MODE as last read; PORST_N has been
released since VDD_AON rose; when the restart under way began; the kind it
requested (3: the configured kind) and whether the host image takes the place of slot A; the slot being tried (0 the
first, 1 slot B), the length and the prehash of its image, and the configured kind that its sowing set (R39); when PWR_WARN
was asserted and whether it is confirmed; whether it has been released since; the restart held; whether a checkpoint is
due and when the last interval ended; the records being written and those committed, and the checkpoint area written
next. -/
structure Boot where
  aon : Bool
  porst : Bool
  testMode : Bool
  wasOut : Bool
  startAt : Nat
  kind : Nat
  fromHost : Bool
  slot : Nat
  imageLen : Nat
  prehash : List Byte
  sownMode : Nat
  warnAt : Option Nat
  confirmed : Bool
  released : Bool
  held : Option HeldRestart
  ckptDue : Bool
  ckptAt : Nat
  writing : Option Retained
  saving : Option Retained
  ckpt0 : Option Retained
  ckpt1 : Option Retained
  save : Option Retained
  nextArea : Nat
deriving DecidableEq, Repr

/-- The whole machine. -/
structure State where
  /-- The commands that wait, first in, first out. -/
  pending : List Instr
  /-- SYS cycles since power-up; one passes when the queue is empty (assumption 2). -/
  now : Nat
  /-- The model's own: how many free values have been drawn (assumption 1). -/
  free : Nat
  /-- The register file: BAR0 offset and value, where it differs from the reset value. -/
  regs : List (Nat × Word)
  /-- The 40-bit physical address space of R35 beside the registers, in canonical form. -/
  mem : List Host.Cell
  /-- Addresses of 64-bit words with an uncorrectable error (R211, R412). -/
  memBad : List Nat
  /-- Calendar time in SYS cycles of 1/1,200,000,000 s since 1970-01-01T00:00:00Z (R32). -/
  cal : Nat
  /-- A time write in flight: the new time and when it lands (R438). -/
  calSet : Option (Nat × Nat)
  /-- Restarts and sowing (chapter 2). -/
  boot : Boot
  /-- The register fabric (chapter 3). -/
  fabric : Fabric
  /-- Fault conditions that persist (GLOBAL_FAULT_STAT.ACTIVE). -/
  active : List ActiveFault
  /-- The Gleaner and the harrow (chapter 17). -/
  gleaner : Gleaner
  /-- The host link (chapter 4). -/
  host : HostLink
  /-- The words waiting in each queue direction, by the offset of its DATA register (R105). -/
  queues : List (Nat × List QWord)
  /-- The steward's handling of requests (R108 to R111). -/
  requests : Requests
  /-- The pass cores, programs and pass timer (chapters 9 and 10). -/
  pass : Pass
  /-- The point table in force (R137, R139). -/
  points : List Point
  /-- The surveyors (chapter 6). -/
  survey : Survey
  /-- The solves in progress on the lanes (chapter 7). -/
  lanes : List LaneRun
  /-- The lanes whose self-test in progress has met an uncorrectable error (R188). -/
  testErrs : List Nat
  /-- The campaigns (chapter 8). -/
  camp : Campaigns
  /-- The plant bus channels CB0 to CB7 (chapter 13). -/
  bus : List CanChannel
  /-- AGE of the plant bus objects that have had a frame (R318). -/
  busAges : List CanAge
  /-- The metering front end (chapter 14). -/
  meter : Metering
  /-- Field exchange (chapter 12). -/
  field : FieldEx
  /-- The station keys (chapter 16). -/
  stations : StationKeys
  /-- The key store (chapter 16). -/
  keys : KeyStore
  /-- The TAP (chapter 18). -/
  jtag : Jtag
  /-- The driven outputs (R219, R433). -/
  outputs : Outputs
  /-- The loop engines and the external set-point port (chapter 11). -/
  loops : Loops
  /-- The redundant pair (chapter 15). -/
  pair : Pair
  /-- What the block has sent out, newest first (assumption 3). -/
  outbox : List OutMsg
deriving DecidableEq, Repr

/-- Why a command ends in a fault. No rule of the spec stops the block, and no meaning raises one: a step ends in a
next state. `stuck` stands for a state that R4 excludes and is raised by nobody (safe). -/
inductive Fault where
  /-- Raised by nobody; safe. -/
  | stuck
deriving DecidableEq, Repr

/-- Why a command has no meaning. -/
inductive Refusal where
  /-- Raised by the dispatch for a command that is not modelled, by its mnemonic; safe. -/
  | notModelled (mnemonic : String)
deriving DecidableEq, Repr

/-- The outcome of a command. -/
abbrev Out := Host.Outcome State Fault Refusal

/-- The fabric after reset: no master unlocked, nothing latched, pending or in flight. -/
def fabric0 : Fabric := ⟨[], [], [], [], [], [], none, 0, none, false⟩

/-- The Gleaner and the harrow after reset. -/
def gleaner0 : Gleaner := 
  ⟨[], none, [], [], [], none, 0, false, true, [], none, 0, [], [], 0, [], []⟩

/-- MSI-X state after a reset of it (R100): disabled, every vector masked, nothing pending. -/
def msix0 : Msix := ⟨false, false, [], [], List.replicate 64 ⟨0, 0⟩⟩

/-- A function after reset. -/
def pcieFn0 : PcieFn := ⟨msix0, false, [], []⟩

/-- The host link after reset: link down until NVM_BRINGUP ends. -/
def host0 : HostLink := ⟨pcieFn0, pcieFn0, true, false⟩

/-- A pass core after reset (R210, R251): cleared and gated. -/
def core0 : PassCore := ⟨false, 0, 0, 0, 0, 0, [], [], 0, false, false, false, [], none, true⟩

/-- The pass after reset: no program, pass timer stopped. -/
def pass0 : Pass :=
  { core0 := core0, core1 := core0, core2 := core0, core3 := core0, prog := none, staged := none, kept := none,
    timerOn := false, nextTick := 0, period := 100, periodNext := none, tickOf := 0, lateDue := none, freezeAt := 0,
    logicAt := 0, outAt := 0, msAcc := 0, first := true, faulted := false, fatal := false, exchanged := false,
    lastCampaign := 0, lastLogicUs := 0, inBuf := false, outBuf := false, holdTicksUntil := 0 }


/-- A plant bus channel after reset. -/
def canChannel0 : CanChannel := ⟨none, [], 0, false⟩

/-- A chain before its first calibration: nominal. -/
def adcCal0 : AdcCal := ⟨1, 0, 1, 0⟩

/-- The metering front end after reset: nothing sampled. -/
def metering0 : Metering :=
  { running := false,
    closing := false,
    samples := 0,
    lastAt := 0,
    shown := [],
    adc := List.replicate 32 ⟨adcCal0, [], 4, 4, false⟩,
    rtd := List.replicate 16 ⟨0, 0, 0⟩,
    pulse := List.replicate 32 ⟨false, 0, false, 0, 0, 0, 0, 0⟩,
    feeders := List.replicate 4 ⟨[], false, 0, [], [], 0, 0, [], 0⟩,
    meters := List.replicate 16 ⟨0, 0, 0, 0, 0, 0, false, 0, 0, none, 0⟩,
    frac := [],
    calLast := 31,
    calAt := 0,
    calPhase := 0,
    calFrom := 0,
    spare := adcCal0,
    calNew := adcCal0,
    outageFrom := none }

/-- The surveyors after reset. -/
def survey0 : Survey := ⟨[], [], [], [], [], [], [], [], [], [], [], [], [], [], [], []⟩

/-- Campaigns after reset: none in flight, a launch due as soon as it may be. -/
def camp0 : Campaigns := ⟨none, none, false, 0, none, false, [], []⟩

/-- The outputs after reset (R42): DAC code 0, PWM low, GPIO high impedance; the ROM safe values (R51). -/
def outputs0 : Outputs :=
  { dac := List.replicate 16 0, pwm := List.replicate 32 0, pwmNext := List.replicate 32 0, gpio := List.replicate 64 2,
    safe := List.replicate 96 0 ++ List.replicate 16 0xAA }

/-- The loop engines after reset: stopped, the tick timer not running. -/
def loops0 : Loops :=
  { engines := List.replicate 32 loopEngine0, nextTick := none, ticks := 0, freezeSeen := false, cmds := [],
    xsp := List.replicate 8 0, xspAt := none, xspFrames := 0, pwmNextAt := 0 }

/-- The pair after reset: nothing known of a partner. -/
def pair0 : Pair :=
  { hello := none, told := none, aliveAt := 0, alive := none, serving := false, joining := false, acked := [],
    sent := none, own := [], forward := [], alignAt := 0, setEnded := true, recv := none, staged := none, shadow := none, committed := none,
    heard := [], status := [], diffs := [], latch := [], latchCal := 0, handover := false, setOk := false, matched := false,
    ownCamp := none, campOut := false, campSeen := 0,
    failedRun := 0, waitEnd := none, trigger := none, freezeDue := false, leaving := none, ending := false, journal := [],
    eccCorr := 0, eccBad := false, verdict := none, theirs := none, verdictDue := false, configDigest := 0,
    campDue := false }

/-- PTP on a port after reset, and when the port starts. -/
def ptpPort0 : PtpPort := ⟨[], none, none, none, none, 0, 0, 0, 0, 0, 0, 0⟩

/-- A field port after reset. -/
def fieldPort0 : FieldPort := ⟨[], 0, 0, 0, false, 0, [], 0, ptpPort0⟩

/-- Field exchange after reset. -/
def fieldEx0 : FieldEx := ⟨List.replicate 4 fieldPort0, [], [], [], false, [], none, [], [], none⟩

/-- The steward's request handling after a restart: nothing accepted, no group open; bank 1 is the spare, of the two that
are neither in force nor pinned (DESIGN CHOICE, assumption 86). -/
def requests0 : Requests := ⟨[], [], [], 1, [], 1⟩

/-- The boot after reset: powered, PORST_N high, the configured kind requested, nothing read and no record kept. -/
def boot0 : Boot :=
  { aon := true, porst := false, testMode := false, wasOut := true, startAt := 0, kind := 3, fromHost := false, slot := 0, imageLen := 0, prehash := [], sownMode := 0, warnAt := none, confirmed := false, released := false, held := none,
    ckptDue := false, ckptAt := 0, writing := none, saving := none, ckpt0 := none, ckpt1 := none, save := none,
    nextArea := 0 }

/-- A slot without a policy. -/
def noSlot : KeySlot := ⟨false, 0, false, 0xFF, 0, false, [], none, false, []⟩

/-- The fixed policies of slots 0 and 1 (R381). -/
def slotIdentity : KeySlot := ⟨true, 3, true, 0xFF, 4, false, [], none, false, []⟩
def slotFieldRoot : KeySlot := ⟨true, 2, false, 0xFF, 8, false, [], none, false, []⟩

/-- The slots before anything is sown or written. -/
def slots0 : List KeySlot := slotIdentity :: slotFieldRoot :: List.replicate 62 noSlot

/-- A key store area that nothing has been written to. -/
def keyArea0 : KeyArea := ⟨slots0, [], 0, 0, [], none⟩

/-- The key store as made: in MANUFACTURE, nothing written (assumption 5). -/
def keys0 : KeyStore :=
  { lc := 0, slots := slots0, owner := [], area := keyArea0, measure := [], closed := false, signedOnly := false,
    rollback := 0, stored := false, sown := [], tokens := [], chalAt := 0 }

/-- The machine right after reset: every register at its reset value, memory with nothing listed, nothing waiting. -/
def State.reset : State :=
  { pending := [],
    now := 0,
    free := 0,
    regs := [],
    mem := [],
    memBad := [],
    cal := 0,
    calSet := none,
    boot := boot0,
    fabric := fabric0,
    active := [],
    gleaner := gleaner0,
    host := host0,
    queues := [],
    requests := requests0,
    pass := pass0,
    points := [],
    survey := survey0,
    lanes := [],
    testErrs := [],
    camp := camp0,
    bus := List.replicate 8 canChannel0,
    busAges := [],
    meter := metering0,
    field := fieldEx0,
    stations := ⟨[], [], false⟩,
    keys := keys0,
    jtag := ⟨1, 0⟩,
    outputs := outputs0,
    loops := loops0,
    pair := pair0,
    outbox := [] }

end Sys2Proof.Machine
end

