-- ==== Sys2Proof/Machine/Ops.lean ====
section
/-! DEFINITION. The named operations over registers and memory, the codes, free values, messages, and the recording of
rejections, faults and events (R8 to R12, R78, R100, R409, R410). -/

namespace Sys2Proof.Machine

/-! The shared error codes of R8. -/

def E_OK : Nat := 0x00
def E_RANGE : Nat := 0x01
def E_WIDTH : Nat := 0x02
def E_ALIGN : Nat := 0x03
def E_LOCKED : Nat := 0x04
def E_BUSY : Nat := 0x05
def E_STATE : Nat := 0x06
def E_UNKNOWN : Nat := 0x07
def E_SECURE : Nat := 0x08
def E_CONFLICT : Nat := 0x09
def E_CAPACITY : Nat := 0x0A
def E_SIGNATURE : Nat := 0x0B
def E_COUNTER : Nat := 0x0C
def E_KEY_REVOKED : Nat := 0x0D
def E_CHECKWORD : Nat := 0x0E
def E_TIMEOUT : Nat := 0x0F

/-- A value lies in a range. -/
def within (lo hi v : Nat) : Bool := decide (lo ≤ v) && decide (v ≤ hi)

/-- The codes of the checks that fail. -/
def broken (cs : List (Bool × Nat)) : List Nat := cs.filterMap (fun c => if c.1 then none else some c.2)

/-- The code reported when a request breaks several rules (R10): the lowest shared code, else the lowest
block-specific one; none where no rule is broken. -/
def pickCode : List Nat → Option Nat
  | [] => none
  | c :: cs =>
    match pickCode cs with
    | none => some c
    | some d => some (min c d)

/-! Block numbers of GLOBAL_APPLY_PEND (R409: 17 is the device). -/

def bGlobal : Nat := 0
def bAccess : Nat := 1
def bMailbox : Nat := 2
def bAtlas : Nat := 3
def bSurveyor : Nat := 4
def bTiller : Nat := 5
def bPass : Nat := 6
def bLoop : Nat := 7
def bField : Nat := 8
def bPlantBus : Nat := 9
def bMeter : Nat := 10
def bPair : Nat := 11
def bKeyStore : Nat := 12
def bGleaner : Nat := 13
def bHarrow : Nat := 14
def bClockPower : Nat := 15
def bDebug : Nat := 16
def bDevice : Nat := 17

/-! Master identities (R71). -/

def mSecurity : Nat := 0
def mSteward : Nat := 1
def mPassCore (n : Nat) : Nat := 2 + n
def mSurveyor (n : Nat) : Nat := 6 + n
def mPF1 : Nat := 14
def mPF0 : Nat := 15
/-- MASTER of a log record that no master caused (R409). -/
def mNone : Nat := 0xFF

/-- The master identity of a function: PF1 for true. -/
def fnMaster (fn : Bool) : Nat := if fn then mPF1 else mPF0

/-! The address map. -/

/-- Offset ranges of the blocks in BAR0 (R33), with the block numbers of GLOBAL_APPLY_PEND. -/
def blockRanges : List (Nat × Nat × Nat) :=
  [(0x000000, 0x010000, bGlobal), (0x010000, 0x020000, bAccess), (0x020000, 0x040000, bMailbox),
   (0x040000, 0x060000, bAtlas), (0x060000, 0x070000, bSurveyor), (0x080000, 0x100000, bTiller),
   (0x100000, 0x140000, bPass), (0x140000, 0x148000, bLoop), (0x180000, 0x1C0000, bField)] ++
  [(0x1C0000, 0x200000, bPlantBus), (0x200000, 0x240000, bMeter), (0x240000, 0x260000, bPair),
   (0x260000, 0x280000, bKeyStore), (0x280000, 0x2A0000, bGleaner), (0x2A0000, 0x2C0000, bHarrow),
   (0x2C0000, 0x2E0000, bClockPower), (0x2E0000, 0x300000, bDebug)]

/-- The block an offset lies in, if any (R33, R34). -/
def blockOf? (off : Nat) : Option Nat :=
  (blockRanges.find? (fun r => decide (r.1 ≤ off) && decide (off < r.2.1))).map (fun r => r.2.2)

/-- The block an offset lies in; 17 where none (assumption 6). -/
def blockOf (off : Nat) : Nat := (blockOf? off).getD bDevice

/-- The register rows of a block. -/
def blockRows (b : Nat) : List RegRow :=
  if b = bGlobal then rowsGlobal else if b = bAccess then rowsAccess else if b = bMailbox then rowsMailbox
  else if b = bAtlas then rowsAtlas else if b = bSurveyor then rowsSurveyor else if b = bTiller then rowsTiller
  else if b = bPass then rowsPass else if b = bLoop then rowsLoop else if b = bField then rowsField
  else if b = bPlantBus then rowsPlantBus else if b = bMeter then rowsMeter else if b = bPair then rowsPair
  else if b = bKeyStore then rowsKeyStore else if b = bGleaner then rowsGleaner else if b = bHarrow then rowsHarrow
  else if b = bClockPower then rowsClockPower else if b = bDebug then rowsDebug else []

/-- The offset within a family of replicated registers lies on one of its registers. -/
def dimsHit : List (Nat × Nat) → Nat → Bool
  | [], d => d == 0
  | (c, st) :: ds, d => decide (d / st < c) && dimsHit ds (d % st)

/-- The indices of a register within its family. -/
def dimsIndex : List (Nat × Nat) → Nat → List Nat
  | [], _ => []
  | (_, st) :: ds, d => d / st :: dimsIndex ds (d % st)

/-- An offset is one of the registers of a row. -/
def RegRow.hits (r : RegRow) (off : Nat) : Bool := decide (r.base ≤ off) && dimsHit r.dims (off - r.base)

/-- The row of the register at an offset, if a register is mapped there (R34). -/
def regRow? (off : Nat) : Option RegRow := (blockRows (blockOf off)).find? (fun r => r.hits off)

/-- The reset value of a register's fields put together. -/
def fieldsReset (fs : List FieldDesc) : Nat := fs.foldl (fun v f => putBits v f.hi f.lo f.reset) 0

/-- What the register at an offset holds after reset. -/
def regReset (off : Nat) : Word :=
  match regRow? off with
  | some r => BitVec.ofNat 32 (fieldsReset r.fields)
  | none => 0

/-! Registers. -/

/-- The register at an offset: its in-force value. -/
def State.reg (s : State) (off : Nat) : Word := smapGet regReset s.regs off

/-- The state with the register at an offset set. -/
def State.setReg (s : State) (off : Nat) (v : Word) : State := { s with regs := smapSet regReset s.regs off v }

/-- The value of a field. -/
def State.rd (s : State) (f : Fld) : Nat := bitsOf (s.reg f.off).toNat f.hi f.lo

/-- The state with a field set (hardware's own update of it). -/
def State.wr (s : State) (f : Fld) (v : Nat) : State :=
  s.setReg f.off (BitVec.ofNat 32 (putBits (s.reg f.off).toNat f.hi f.lo v))

/-- A counter field increased, saturating at all ones (R84). -/
def State.bump (s : State) (f : Fld) (k : Nat) : State := s.wr f (satAdd (f.hi + 1 - f.lo) (s.rd f) k)

/-- A counter field increased modulo its width. -/
def State.bumpWrap (s : State) (f : Fld) (k : Nat) : State := s.wr f (s.rd f + k)

/-- A field that keeps the highest value it has been given. -/
def State.raise (s : State) (f : Fld) (v : Nat) : State := s.wr f (max (s.rd f) (min v (2 ^ (f.hi + 1 - f.lo) - 1)))

/-- A pair of registers as one 64-bit value. -/
def State.rd64 (s : State) (lo hi : Nat) : Nat := (s.reg lo).toNat + 2 ^ 32 * (s.reg hi).toNat

/-- The state with a pair of registers set to a 64-bit value. -/
def State.wr64 (s : State) (lo hi : Nat) (v : Nat) : State :=
  (s.setReg lo (BitVec.ofNat 32 v)).setReg hi (BitVec.ofNat 32 (v / 2 ^ 32))

/-- Run a step for each element of a list in order. -/
def State.each {α : Type} (s : State) (xs : List α) (f : State → α → State) : State := xs.foldl f s

/-- Bits of a register replaced under a mask. -/
def State.mergeReg (s : State) (p : PendA) : State :=
  s.setReg p.off ((s.reg p.off &&& ~~~p.mask) ||| (p.value &&& p.mask))

/-- Pending bits of a register take effect. -/
abbrev State.landReg (s : State) (p : PendA) : State := s.mergeReg p

/-- A later pending value of a register laid over an earlier one (R82: the last accepted value stays). -/
def PendA.lay (p q : PendA) : PendA :=
  ⟨p.off, p.mask ||| q.mask, (p.value &&& ~~~q.mask) ||| (q.value &&& q.mask), min p.born q.born⟩

/-- A pending value put among others: one entry per register. -/
def addPend (xs : List PendA) (q : PendA) : List PendA :=
  if xs.any (fun p => p.off == q.off) then xs.map (fun p => if p.off = q.off then p.lay q else p) else xs ++ [q]

/-- The class-A values of the metering front end whose headland has ended, and whose register is selected, take effect at
a sample boundary (R350). -/
def State.landArmed (s : State) (sel : Nat → Bool) : State :=
  let s1 := s.each (s.fabric.armed.filter (fun p => sel p.off)) State.landReg
  { s1 with fabric := { s1.fabric with armed := s.fabric.armed.filter (fun p => !sel p.off) } }

/-! Memory. -/

/-- The histogram area of R400, from its first byte on: 1,024 definitions of 0x5800 bytes, 117 slices of 192 each. -/
def histBase : Nat := 0x0402800000

/-- A byte of a slice that holds nothing: MIN +∞ and MAX −∞, all else 0 (R405). -/
def emptySliceByte (k : Nat) : Byte :=
  if k = 0x96 ∨ k = 0x9E then 0xF0 else if k = 0x97 then 0x7F else if k = 0x9F then 0xFF else 0

/-- A byte of an unused record of an atlas bank (R112, R117 to R123): FROM and PIPE read 0xFFFF and REGION 0xFF. -/
def emptyBankByte (k : Nat) : Byte :=
  let mark (base size count width : Nat) : Bool :=
    decide (base ≤ k) && decide (k < base + size * count) && decide ((k - base) % size < width)
  if mark 0x100000 64 24576 2 || mark 0x300000 128 256 2 || mark 0x308000 32 1024 2 || mark 0x312000 64 256 1 then 0xFF
  else 0

/-- What a byte reads as that nothing has written (assumption 4): erased NOR reads 0xFF, histogram slices read empty
(R405, R408), atlas banks read as unused records (R117 to R124), everything else 0. -/
def memDefault (a : Nat) : Byte :=
  if 0x0100000000 ≤ a && a < 0x0120000000 then 0xFF
  else if 0x0400000000 ≤ a && a < 0x0400C00000 then emptyBankByte ((a - 0x0400000000) % 0x400000)
  else if histBase ≤ a && a < histBase + 0x1600000 then
    (if (a - histBase) % 0x5800 < 22464 then emptySliceByte ((a - histBase) % 0x5800 % 192) else 0)
  else 0

/-- Memory keeps its canonical form. -/
abbrev Memory.wf (m : List Host.Cell) : Bool := smapWf memDefault m

/-- The register file keeps its canonical form. -/
abbrev Regs.wf (m : List (Nat × Word)) : Bool := smapWf regReset m

/-- One byte of memory. -/
def State.byte (s : State) (a : Nat) : Byte := smapGet memDefault s.mem a

/-- The n bytes from an address. -/
def State.bytes (s : State) : Nat → Nat → List Byte
  | _, 0 => []
  | a, n + 1 => s.byte a :: State.bytes s (a + 1) n

/-- A little-endian value of n bytes (R3). -/
def State.ld (s : State) (a n : Nat) : Nat := ofLeBytes (s.bytes a n)

/-- A two's-complement little-endian value of n bytes. -/
def State.ldS (s : State) (a n : Nat) : Int := toSigned (8 * n) (s.ld a n)

/-- One byte written. -/
def State.putByte (s : State) (a : Nat) (v : Byte) : State := { s with mem := smapSet memDefault s.mem a v }

/-- Bytes written from an address upward. -/
def State.putBytes (s : State) : Nat → List Byte → State
  | _, [] => s
  | a, b :: bs => State.putBytes (s.putByte a b) (a + 1) bs

/-- A little-endian value of n bytes written (R3). -/
def State.st (s : State) (a n v : Nat) : State := s.putBytes a (leBytes n v)

/-- The marks of the words that lie wholly in n bytes removed: a write of a whole protected word stores fresh check
bits (R211, R412). -/
def State.healWords (s : State) (a n : Nat) : State :=
  { s with memBad := s.memBad.filter (fun w => !(decide (a ≤ w) && decide (w + 8 ≤ a + n))) }

/-- A record written whole: its bytes, with fresh check bits. -/
def State.putWhole (s : State) (a : Nat) (bs : List Byte) : State := (s.putBytes a bs).healWords a bs.length

/-- Bytes written from an address upward, all at once. -/
def State.fill (s : State) (a : Nat) (bs : List Byte) : State := { s.healWords a bs.length with mem := smapFill memDefault s.mem a bs }

/-- A two's-complement value written. -/
def State.stS (s : State) (a n : Nat) (v : Int) : State := s.st a n (ofSigned (8 * n) v)

/-- n bytes copied between two areas that do not overlap. -/
def State.copyMem (s : State) (src dst n : Nat) : State := { s.healWords dst n with mem := smapCopy memDefault s.mem src dst n }

/-- n bytes made to read as memory that nothing has written. -/
def State.clearMem (s : State) (a n : Nat) : State := { s.healWords a n with mem := smapDrop s.mem a (a + n) }

/-- A rising list without repeats of neighbours. -/
def squeeze : List Nat → List Nat
  | [] => []
  | [x] => [x]
  | x :: y :: r => if x = y then squeeze (y :: r) else x :: squeeze (y :: r)

/-- The indices of the records of a table that hold a listed byte: base, record size, record count. -/
def State.listedRecords (s : State) (base size count : Nat) : List Nat :=
  squeeze ((smapRange s.mem base (base + size * count)).map (fun e => (e.1 - base) / size))

/-! The ranges of R35. -/

def aImage : Nat := 0x0002000000
def aQueues : Nat := 0x0004000000
def aPassMem : Nat := 0x0008000000
def aNor : Nat := 0x0100000000
def aRet : Nat := 0x0140000000
def aWork : Nat := 0x0200000000
def aSdram : Nat := 0x0400000000

/-- An SDRAM address from its offset. -/
def sd (off : Nat) : Nat := aSdram + off

/-- Fitted SDRAM in bytes. -/
def State.sdramSize (s : State) : Nat := s.rd CP_DDR_STAT_SIZE_GIB * 2 ^ 30

/-- The 64-bit word at an address is marked uncorrectable. -/
def State.isBad (s : State) (a : Nat) : Bool := s.memBad.contains (a / 8 * 8)

/-- Any of n bytes lies in an uncorrectable word. -/
def State.anyBad (s : State) (a n : Nat) : Bool :=
  s.memBad.any (fun w => decide (a / 8 * 8 ≤ w) && decide (w < a + n))

/-! Time. -/

/-- SYS cycles in one second, millisecond and microsecond. -/
def cycPerS : Nat := 1200000000
def cycPerMs : Nat := 1200000
def cycPerUs : Nat := 1200

/-- Calendar time in the format of ENERGY_TIME: whole units of 2⁻¹⁵ s elapsed (R32, R127). -/
def State.time (s : State) : Nat := s.cal * 32768 / cycPerS

/-- Calendar time in whole seconds. -/
def State.seconds (s : State) : Nat := s.cal / cycPerS

/-- The input image in force: buffer A or B (R35, R214). -/
def State.inBase (s : State) : Nat := aImage + (if s.pass.inBuf then 0x400000 else 0)

/-- The input buffer being filled for the next pass. -/
def State.inBaseNext (s : State) : Nat := aImage + (if s.pass.inBuf then 0 else 0x400000)

/-- The output buffer of this pass: A or B (R35, R218). -/
def State.outBase (s : State) : Nat := aImage + 0x800000 + (if s.pass.outBuf then 0x200000 else 0)

/-- The other output buffer. -/
def State.outBaseOther (s : State) : Nat := aImage + 0x800000 + (if s.pass.outBuf then 0 else 0x200000)

/-! Pass phases (PASS_PHASE) and modes (R245). -/

def phRemainder : Nat := 0
def phFreeze : Nat := 1
def phLogic : Nat := 2
def phOutput : Nat := 3
def phHeadland : Nat := 4

def modeStop : Nat := 0
def modeRun : Nat := 1
def modeHold : Nat := 2

/-! Free values. -/

/-- The next free value. -/
def State.freshVal (s : State) : BitVec 64 := Config.freeValue s.free

/-- The state after a free value has been drawn. -/
def State.drawn (s : State) : State := { s with free := s.free + 1 }

/-! Messages to the outside. -/

/-- A message sent. -/
def State.send (s : State) (m : OutMsg) : State := { s with outbox := m :: s.outbox }

/-- The function behind a flag. -/
def State.fn (s : State) (fn : Bool) : PcieFn := if fn then s.host.pf1 else s.host.pf0

/-- The state with a function replaced. -/
def State.setFn (s : State) (fn : Bool) (p : PcieFn) : State :=
  if fn then { s with host := { s.host with pf1 := p } } else { s with host := { s.host with pf0 := p } }

/-- A vector would be delivered now: MSI-X enabled, function and vector unmasked. -/
def Msix.open_ (m : Msix) (v : Nat) : Bool := m.enable && !m.fmask && m.unmasked.contains v

/-- A list of numbers with one put in, once. -/
def addOnce (xs : List Nat) (n : Nat) : List Nat := if xs.contains n then xs else n :: xs

/-- The message of a vector, with the address and the data of its table entry (R93, R100). -/
def State.sendMsi (s : State) (fn : Bool) (v : Nat) : State :=
  let e := ((s.fn fn).msix.table[v]?).getD ⟨0, 0⟩
  s.send (.msi (b2n fn) v e.address e.data)

/-- A rise of the cause of a vector (R100, R103): sent while the vector is open, otherwise kept pending; in D3hot it
is kept pending and PM_PME is sent. Of a vector that is unmasked while MSI-X is disabled R100 says neither that a message is
sent nor that the pending bit is set: it is kept pending (DESIGN CHOICE, assumption 55). -/
def State.raiseVec (s : State) (fn : Bool) (v : Nat) : State :=
  let p := s.fn fn
  if p.d3hot then
    (s.setFn fn { p with msix := { p.msix with pba := addOnce p.msix.pba v } }).send (.pme (b2n fn))
  else if p.msix.open_ v then s.sendMsi fn v
  else s.setFn fn { p with msix := { p.msix with pba := addOnce p.msix.pba v } }

/-! Reports (R409, R410). -/

/-- KIND of a rejection record: a write sets bit 4. -/
def kindReject (isWrite : Bool) : Nat := b2n isWrite * 16

/-- KIND of a fault record of a class. -/
def kindFault (cls : Nat) : Nat := 1 + 4 * cls

/-- KIND of an event record. -/
def kindEvent : Nat := 2

/-- Two reports are the same but for their times (R410). -/
def Report.same (a b : Report) : Bool :=
  a.source == b.source && a.kind == b.kind && a.code == b.code && a.master == b.master && a.info == b.info

/-- A report folded into an equal one (R410). -/
def Report.fold (r : Report) (t : Nat) : Report := { r with repeats := satAdd 32 r.repeats 1, last := t }

/-- The bytes of a log record (R409). -/
def Report.encode (r : Report) : List Byte :=
  leBytes 8 r.first ++ leBytes 8 r.last ++ leBytes 4 r.repeats ++ leBytes 1 r.source ++ leBytes 1 r.kind ++
    leBytes 1 r.code ++ leBytes 1 r.master ++ leBytes 8 r.info

/-- The first byte of the log in SDRAM (R400). -/
def logBase : Nat := sd 0x2610000

/-- The address of log record n in SDRAM (R400, R411). -/
def logSlot (n : Nat) : Nat := logBase + 32 * (n % 4096)

/-- The newest record of the log (R411). -/
def State.lastLog (s : State) : Nat := s.rd GL_LOG_WR_INDEX + 4095

/-- A record put into the log. -/
def State.putLog (s : State) (n : Nat) (r : Report) : State := s.putBytes (logSlot n) r.encode

/-- The error queue replaced. -/
def State.setQueue (s : State) (q : List Report) : State := { s with gleaner := { s.gleaner with errQueue := q } }

/-- The last record written, folded: in the log while it is not frozen (R410, R411). -/
def State.foldLast (s : State) (w : Report) : State :=
  let s1 := if s.rd GL_STAT_FROZEN = 1 then s else s.putLog s.lastLog w
  { s1 with gleaner := { s1.gleaner with lastWritten := some w } }

/-- Put a report on the error queue (R410): newest last; a repeat of the newest entry, or of the last record written
while the queue is empty, folds; a report that finds 64 entries is dropped and counted by source. -/
def State.report (s : State) (source kind code master info : Nat) : State :=
  let q := s.gleaner.errQueue
  let r : Report := ⟨s.time, s.time, 0, source, kind, code, master, info⟩
  match q.getLast?, s.gleaner.lastWritten with
  | some e, _ =>
    if e.same r then s.setQueue (q.dropLast ++ [e.fold s.time])
    else if q.length < 64 then s.setQueue (q ++ [r])
    else s.bump (GL_LOSS_COUNT source) 1
  | none, some w => if w.same r then s.foldLast (w.fold s.time) else s.setQueue (q ++ [r])
  | none, none => s.setQueue (q ++ [r])

/-- An event recorded in the Gleaner (R409). -/
def State.event (s : State) (source code info : Nat) : State := s.report source kindEvent code mNone info

/-- A fault recorded (R11, R12, R410): counted and shown whether or not its record is dropped. -/
def State.recordFault (s : State) (cls source code info : Nat) : State :=
  let s1 := s.wr GLOBAL_FAULT_STAT_SEEN (s.rd GLOBAL_FAULT_STAT_SEEN ||| 2 ^ cls)
  let s2 := s1.bump GLOBAL_FAULT_CNT_COUNT 1
  let s3 := ((s2.wr GLOBAL_FAULT_LAST_CODE code).wr GLOBAL_FAULT_LAST_SOURCE source).wr GLOBAL_FAULT_LAST_CLASS cls
  (s3.report source (kindFault cls) code mNone info).raiseVec false 0

/-- A fault recorded whose condition persists until `endFault`. -/
def State.startFault (s : State) (cls source code info : Nat) : State :=
  let f : ActiveFault := ⟨cls, source, code, info⟩
  let s1 := s.recordFault cls source code info
  if s1.active.contains f then s1 else { s1 with active := f :: s1.active }

/-- The persisting condition of a fault ends. -/
def State.endFault (s : State) (source code info : Nat) : State :=
  { s with active := s.active.filter (fun f => !(f.source == source && f.code == code && f.info == info)) }

/-- A rejected or discarded access reported in the places of R78: ACCESS_ERR_nn of the master, the count of all
rejections, and the Gleaner log with the full address. -/
def State.reject (s : State) (master addr code : Nat) (isWrite : Bool) : State :=
  let s1 :=
    if s.rd (ACCESS_ERR_CODE master) = 0 then
      ((s.wr (ACCESS_ERR_CODE master) code).wr (ACCESS_ERR_WRITE master) (b2n isWrite)).wr
        (ACCESS_ERR_OFFSET master) (addr % 2 ^ 22)
    else s.wr (ACCESS_ERR_OVERRUN master) 1
  (s1.bump ACCESS_ERR_CNT_COUNT 1).report (blockOf (addr % 2 ^ 40)) (kindReject isWrite) code master (addr % 2 ^ 40)

end Sys2Proof.Machine
end

