-- ==== Sys2Proof/Machine/PlantBus.lean ====
section
/-! DEFINITION. The plant bus controllers (R311 to R326): channel states, objects, the transmit queue, error
confinement, sleep and wake, and the plant bus blocks of the images. -/

namespace Sys2Proof.Machine

/-- E_TIMING of the PLANTBUS block (R312). -/
def E_TIMING : Nat := 0x10
/-- E_DUP_ID of the PLANTBUS block (R316). -/
def E_DUP_ID : Nat := 0x11

/-! Channel states (R314). -/

def cbStopped : Nat := 0
def cbIntegrating : Nat := 1
def cbActive : Nat := 2
def cbPassive : Nat := 3
def cbBusOff : Nat := 4
def cbAsleep : Nat := 5
def cbMonitoring : Nat := 6

/-! Transmit results (R321). -/

def txNone : Nat := 0
def txSent : Nat := 1
def txNoAck : Nat := 2
def txBusError : Nat := 3
def txBusOff : Nat := 4
def txNotSent : Nat := 5
def txAsleep : Nat := 6
def txRejected : Nat := 7
def txMonitor : Nat := 8

/-- The unit belongs to a pair (R351). -/
def State.paired (s : State) : Bool := s.rd PAIR_CFG_PAIRED == 1

/-- A channel's state beside its registers. -/
def State.canCh (s : State) (c : Nat) : CanChannel := (s.bus[c]?).getD canChannel0

/-- The state with a channel's state replaced. -/
def State.setCanCh (s : State) (c : Nat) (x : CanChannel) : State := { s with bus := s.bus.set c x }

/-- STATE of a channel. -/
def State.cbState (s : State) (c : Nat) : Nat := s.rd (CB_STAT_STATE c)

/-- STATE of a channel set. -/
def State.setCb (s : State) (c x : Nat) : State := s.wr (CB_STAT_STATE c) x

/-- A channel monitors (R315): MON = 1, or its unit is in a pair and has no authority. -/
def State.cbMonitors (s : State) (c : Nat) : Bool :=
  s.rd (CB_CTL_MON c) == 1 || (s.paired && s.rd GLOBAL_MODE_AUTH == 0)

/-- The bytes that a DLC stands for (ISO 11898-1, R311). -/
def dlcBytes (d : Nat) : Nat :=
  if d ≤ 8 then d else if d = 9 then 12 else if d = 10 then 16 else if d = 11 then 20 else if d = 12 then 24
  else if d = 13 then 32 else if d = 14 then 48 else 64

/-- RESULT of an object set. -/
def State.objResult (s : State) (c o r : Nat) : State := s.wr (OBJ_STAT_RESULT c o) r

/-- Every queued object of a channel ends with a result, and the queue empties. -/
def State.endQueue (s : State) (c r : Nat) : State :=
  let q := (s.canCh c).queue
  (s.each q (fun t x => t.objResult c x.object r)).setCanCh c { s.canCh c with queue := [] }

/-- The frame past arbitration ends with a result, if there is one. -/
def State.endOnBus (s : State) (c r : Nat) : State :=
  match (s.canCh c).onBus with
  | none => s
  | some x => (s.objResult c x.object r).setCanCh c { s.canCh c with onBus := none }

/-- The channel monitors (R315): TEC and REC are 0, and what is queued ends MONITOR. -/
def State.enterMonitor (s : State) (c : Nat) : State :=
  ((((s.endQueue c txMonitor).wr (CB_STAT_TEC c) 0).wr (CB_STAT_REC c) 0).setCb c cbMonitoring).endFault bPlantBus 0 c

/-- An enabled channel that is neither stopped, asleep nor bus-off takes the state its counters give (R322). -/
def State.cbByErrors (s : State) (c : Nat) : State :=
  s.setCb c (if 127 < s.rd (CB_STAT_TEC c) || 127 < s.rd (CB_STAT_REC c) then cbPassive else cbActive)

/-- Entry to BUS_OFF (R322): the frame in progress and the queue end FAILED_BUSOFF, and F1 lasts until recovery. -/
def State.busOff (s : State) (c : Nat) : State :=
  ((((((s.endOnBus c txBusOff).endQueue c txBusOff).setCb c cbBusOff).wr (CB_STAT_TEC c) 255).wr (CB_STAT_BUSOFF_SEEN c) 1).bump
    (CB_CNT_BUSOFF_COUNT c) 1).startFault 1 bPlantBus 0 c

/-- TEC of a transmitter raised by 8 (R322). -/
def State.tecUp (s : State) (c : Nat) : State :=
  let t := s.rd (CB_STAT_TEC c) + 8
  if 255 < t then s.busOff c else (s.wr (CB_STAT_TEC c) t).cbByErrors c

/-- TEC of a transmitter lowered by 1 after a frame sent (R322). -/
def State.tecDown (s : State) (c : Nat) : State :=
  (s.wr (CB_STAT_TEC c) (s.rd (CB_STAT_TEC c) - 1)).cbByErrors c

/-- REC of a receiver raised (R322), held at 0 while the channel monitors (R315). -/
def State.recUp (s : State) (c k : Nat) : State :=
  if s.cbState c = cbMonitoring then s
  else (s.wr (CB_STAT_REC c) (min 255 (s.rd (CB_STAT_REC c) + k))).cbByErrors c

/-- REC of a receiver after a frame received without error (ISO 11898-1, R322): lowered by 1, or set to some value from
119 to 127, which ISO leaves open, where it was above 127. -/
def State.recDown (s : State) (c : Nat) : State :=
  let r := s.rd (CB_STAT_REC c)
  if s.cbState c = cbMonitoring then s
  else if r ≤ 127 then (s.wr (CB_STAT_REC c) (r - 1)).cbByErrors c
  else (s.drawn.wr (CB_STAT_REC c) (119 + s.freshVal.toNat % 9)).cbByErrors c

/-- A protocol error counted (CB_ERR). -/
def State.countErr (s : State) (c : Nat) (k : CanErr) : State :=
  match k with
  | .bit => s.bump (CB_ERR_BIT c) 1
  | .stuff => s.bump (CB_ERR_STUFF c) 1
  | .form => s.bump (CB_ERR_CRC_FORM c) 1
  | .crc => s.bump (CB_ERR_CRC_FORM c) 1
  | .ack => s.bump (CB_ERR_ACK c) 1
  | .exception => s

/-! Bit timing (R312). -/

/-- The checks made when EN goes to 1. -/
def State.cbTimingOk (s : State) (c : Nat) : Bool :=
  let nq := 1 + s.rd (CB_NBT_NTSEG1 c) + s.rd (CB_NBT_NTSEG2 c)
  let dq := 1 + s.rd (CB_DBT_DTSEG1 c) + s.rd (CB_DBT_DTSEG2 c)
  let nb := s.rd (CB_NBT_NBRP c) * nq
  let db := s.rd (CB_DBT_DBRP c) * dq
  decide (s.rd (CB_NBT_NSJW c) ≤ s.rd (CB_NBT_NTSEG2 c)) && decide (s.rd (CB_DBT_DSJW c) ≤ s.rd (CB_DBT_DTSEG2 c)) &&
  decide (8 ≤ nq) && decide (80 ≤ nb) &&
  (s.rd (CB_CTL_FD_EN c) == 0 || (decide (5 ≤ dq) && decide (db ≤ nb) && decide (10 ≤ db))) &&
  (s.rd (CB_CTL_TDC_EN c) == 0 || decide (s.rd (CB_DBT_DBRP c) ≤ 2))

/-- The channel starts (R314): TEC, REC and every object status cleared, then integration. -/
def State.cbStart (s : State) (c : Nat) : State :=
  let s1 := ((s.wr (CB_STAT_TEC c) 0).wr (CB_STAT_REC c) 0).each (List.range 256) (fun t o => t.setReg (OBJ_STAT c o) 0)
  let s2 := (s1.wr (CB_CTL_EN c) 1).wr (CB_STAT_ALONE c) 0
  { (s2.setCanCh c canChannel0).setCb c cbIntegrating with
    busAges := s2.busAges.filter (fun a => a.channel != c) }

/-- The channel stops (R314): nothing is queued any more, and a bus-off F1 ends. -/
def State.cbStop (s : State) (c : Nat) : State :=
  (((s.setCanCh c canChannel0).wr (CB_CTL_EN c) 0).setCb c cbStopped).endFault bPlantBus 0 c

/-- CHANNEL_ENABLE (R314, R312): a write of EN takes effect. -/
def execChannelEnable (master : Fin 16) (channel : Fin 8) (on : Bool) (s : State) : Out :=
  let c := channel.val
  .next (
    if !on then (if s.cbState c = cbStopped then s else s.cbStop c)
    else if s.rd (CB_CTL_EN c) = 1 then s
    else if s.cbTimingOk c then s.cbStart c
    else s.reject master (CB_CTL c) E_TIMING true)

/-- Nothing of the channel is queued or on the bus. -/
def CanChannel.quiet (x : CanChannel) : Bool := x.queue.isEmpty && x.onBus.isNone

/-- The channel goes to sleep at bus idle where SLEEP_REQ asks for it (R324). -/
def State.cbSleepIfAsked (s : State) (c : Nat) : State :=
  if s.rd (CB_CTL_SLEEP_REQ c) = 1 && (s.canCh c).quiet &&
    (s.cbState c = cbActive || s.cbState c = cbPassive || s.cbState c = cbMonitoring) then s.setCb c cbAsleep
  else s

/-- INTEGRATION_COMPLETE (R314): 11 recessive bits after start, wake or a change of authority. -/
def execIntegrationComplete (channel : Fin 8) (s : State) : Out :=
  let c := channel.val
  .next (
    if s.cbState c ≠ cbIntegrating then s
    else if s.cbMonitors c then (s.enterMonitor c).cbSleepIfAsked c
    else (s.cbByErrors c).cbSleepIfAsked c)

/-- AUTH asserted (R315): each monitoring channel with MON = 0 integrates. -/
def State.busTakeAuth (s : State) : State :=
  s.each (List.range 8) (fun t c =>
    if t.cbState c = cbMonitoring && t.rd (CB_CTL_MON c) == 0 then t.setCb c cbIntegrating else t)

/-- Whether the first object of a queue is past arbitration at this edge is a matter of the bus: a free value (assumption
28). Where it is, its frame goes on by itself. -/
def State.mayStart (s : State) (c : Nat) : State :=
  match (s.canCh c).queue with
  | [] => s
  | x :: q =>
    if (s.canCh c).onBus.isSome then s
    else if bitOf s.freshVal.toNat 0 then (s.drawn).setCanCh c { s.canCh c with onBus := some x, queue := q }
    else s.drawn

/-- AUTH released (R315): the frame on the bus completes, and the channels that take part in their bus monitor; what was
queued ends MONITOR. -/
def State.busDropAuth (s : State) : State :=
  s.each (List.range 8) (fun t c =>
    if t.paired && (t.cbState c = cbActive || t.cbState c = cbPassive || t.cbState c = cbBusOff) then
      let t1 := (t.mayStart c).endQueue c txMonitor
      if (t1.canCh c).onBus.isSome then t1 else t1.enterMonitor c
    else t)

/-- No transmission begins any more from the pass in progress (R253): what has not won arbitration ends NOT_SENT. The spec
names no result for it. DESIGN CHOICE (assumption 28). -/
def State.busAbandon (s : State) : State :=
  s.each (List.range 8) (fun t c => (t.mayStart c).endQueue c txNotSent)

/-! Reception (R317). -/

/-- The RX object of a channel that takes a frame. -/
def State.rxObject (s : State) (c : Nat) (ide : Bool) (id : Nat) : Option Nat :=
  (List.range 256).find? (fun o =>
    s.rd (OBJ_CFG_DIR c o) == 1 && s.rd (OBJ_CFG_IDE c o) == b2n ide && s.rd (OBJ_CFG_ID c o) == id)

/-- AGE of an object after its last frame, at 0. -/
def State.freshAge (s : State) (c o : Nat) : State :=
  { s with busAges := ⟨c, o, 0, true⟩ :: s.busAges.filter (fun a => !(a.channel == c && a.object == o)) }

/-- The data, DLC and flags of a frame put into an object's registers. -/
def State.putFrame (s : State) (c o dlc : Nat) (fdf brs esi : Bool) (data : List Byte) : State :=
  let bs := data.take (dlcBytes dlc) ++ List.replicate 64 0
  let s1 := s.each (List.range 16) (fun t k =>
    t.setReg (OBJ_DATA c o k) (BitVec.ofNat 32 (ofLeBytes ((bs.drop (4 * k)).take 4))))
  (((s1.wr (OBJ_STAT_DLC c o) dlc).wr (OBJ_STAT_FDF c o) (b2n fdf)).wr (OBJ_STAT_BRS c o) (b2n brs)).wr
    (OBJ_STAT_ESI c o) (b2n esi)

/-- A frame stored in an RX object. -/
def State.storeFrame (s : State) (c o : Nat) (f : CanFrame) : State :=
  let s1 := s.putFrame c o f.dlc f.fdf f.brs f.esi f.data
  let s2 := s1.bumpWrap (OBJ_RXCNT_COUNT c o) 1
  let s3 := if s2.rd (OBJ_STAT_UNREAD c o) = 1 then (s2.wr (OBJ_STAT_LOST c o) 1).bump (CB_CNT_LOST_COUNT c) 1 else s2
  (s3.wr (OBJ_STAT_UNREAD c o) 1).freshAge c o

/-- The frame is matched against the RX objects: stored, or counted as unmatched, as a remote frame is. -/
def State.takeFrame (s : State) (c : Nat) (f : CanFrame) : State :=
  match (if f.remote then none else s.rxObject c f.ide f.id) with
  | some o => s.storeFrame c o f
  | none => s.bump (CB_CNT_UNMATCHED_COUNT c) 1

/-- ALONE ends, and the run of NO_ACK results (R323). -/
def State.notAlone (s : State) (c : Nat) : State :=
  (s.setCanCh c { s.canCh c with noAcks := 0 }).wr (CB_STAT_ALONE c) 0

/-- The objects hold committed state only (R358): a standby or joining unit's own reception does not change them. -/
def State.busCopied (s : State) : Bool := s.paired && (s.rd PAIR_STAT_STATE == 3 || s.rd PAIR_STAT_STATE == 2)

/-- CAN_FRAME_RECEIVED (R317): a frame received without error by a channel that takes part in its bus or monitors it; an
FD frame on an FD-intolerant channel is none (R311). -/
def execCanFrameReceived (channel : Fin 8) (frame : CanFrame) (s : State) : Out :=
  let c := channel.val
  let st := s.cbState c
  .next (
    if !(st = cbActive || st = cbPassive || st = cbMonitoring) || (frame.fdf && s.rd (CB_CTL_FD_EN c) == 0) then s
    else if s.busCopied then (s.recDown c).notAlone c
    else ((s.takeFrame c frame).recDown c).notAlone c)

/-! Transmission (R319 to R323). -/

/-- The place of an object's frame in ISO priority order: base identifier, base frame before extended, extension. -/
def State.canPriority (s : State) (c o : Nat) : Nat :=
  let id := s.rd (OBJ_CFG_ID c o)
  if s.rd (OBJ_CFG_IDE c o) = 1 then (id / 2 ^ 18) * 2 ^ 19 + 2 ^ 18 + id % 2 ^ 18 else id % 2 ^ 11 * 2 ^ 19

/-- A request put in its place in the queue. -/
def State.canEnqueue (s : State) (c : Nat) (r : CanReq) : State :=
  let q := (s.canCh c).queue
  let before := q.takeWhile (fun x => decide (s.canPriority c x.object ≤ s.canPriority c r.object))
  s.setCanCh c { s.canCh c with queue := before ++ [r] ++ q.drop before.length }

/-- One object with SEND = 1 at output write (R319): its result at once, or its place in the queue. -/
def State.canRequest (s : State) (c o : Nat) : State :=
  let a := s.outBase + 0x6000 + 80 * (256 * c + o)
  let dlc := bitsOf (s.ld a 4) 7 4
  let st := s.cbState c
  if s.rd (OBJ_CFG_DIR c o) ≠ 2 then s.objResult c o txRejected
  else if 8 < dlc ∧ s.rd (OBJ_FMT_FDF c o) = 0 then s.objResult c o txRejected
  else if st = cbStopped then s.objResult c o txRejected
  else if st = cbMonitoring then s.objResult c o txMonitor
  else if st = cbAsleep ∨ s.rd (CB_CTL_SLEEP_REQ c) = 1 then s.objResult c o txAsleep
  else if st = cbBusOff then s.objResult c o txBusOff
  else (s.objResult c o txNone).canEnqueue c ⟨o, dlc, s.bytes (a + 0x10) (dlcBytes dlc)⟩

/-- The requests of the output buffer, channel by channel in ascending object order (R319). -/
def State.canTakeRequests (s : State) : State :=
  s.each (List.range 8) (fun t c =>
    t.each (t.listedRecords (t.outBase + 0x6000 + 80 * 256 * c) 80 256) (fun u o =>
      if u.ld (u.outBase + 0x6000 + 80 * (256 * c + o)) 1 % 2 = 1 then u.canRequest c o else u))

/-- The effect of a frame's end on counters, ALONE and the object's result (R321 to R323). -/
def State.canEnded (s : State) (c : Nat) (r : CanReq) (how : CanTxEnd) : State :=
  match how with
  | .sent =>
    let fdf := s.rd (OBJ_FMT_FDF c r.object) == 1
    let brs := s.rd (OBJ_FMT_BRS c r.object) == 1
    let s2 := (s.objResult c r.object txSent).putFrame c r.object r.dlc fdf brs (fdf && s.cbState c = cbPassive) r.data
    ((((s2.freshAge c r.object).send (.canFrame c r.object r.data)).tecDown c).notAlone c)
  | .noAck =>
    let s1 := (s.objResult c r.object txNoAck).countErr c .ack
    let s2 := if s1.cbState c = cbPassive then s1 else s1.tecUp c
    let n := (s2.canCh c).noAcks + 1
    let s3 := s2.setCanCh c { s2.canCh c with noAcks := n }
    if n = 16 then (s3.wr (CB_STAT_ALONE c) 1).recordFault 0 bPlantBus 0 c else s3
  | .busError k =>
    let s1 := (s.objResult c r.object txBusError).countErr c k
    let s2 := (s1.setCanCh c { s1.canCh c with noAcks := 0 }).tecUp c
    if s2.cbState c = cbBusOff then s2.objResult c r.object txBusOff else s2

/-- The loop delay measured at the FDF to res edge of an own FD frame with BRS (R313), shown up to 127. -/
def State.loopMeasured (s : State) (c : Nat) (r : CanReq) (loop : Option Nat) : State :=
  match loop with
  | none => s
  | some d =>
    if s.rd (OBJ_FMT_BRS c r.object) = 1 ∧ s.rd (CB_CTL_TDC_EN c) = 1 then s.wr (CB_TDCV_TDCV c) (min d 127) else s

/-- The transmit window of a pass is too short for any arbitration (R320): it would close before 20 µs after the output
edge. -/
def State.windowShort (s : State) (c : Nat) : Bool :=
  decide (s.pass.nextTick < s.pass.outAt + 20 * cycPerUs + s.rd (CB_TXW_TXW_US c) * cycPerUs)

/-- The closing instant of the transmit window (R320). -/
def State.windowEnd (s : State) (c : Nat) : Nat :=
  if s.windowShort c then s.pass.outAt + 20 * cycPerUs else s.pass.nextTick - s.rd (CB_TXW_TXW_US c) * cycPerUs

/-- The frame that ends next: the one past arbitration, or the first of the queue, which has won it, with the queue left. -/
def State.ending (s : State) (c : Nat) : Option (CanReq × List CanReq) :=
  let ch := s.canCh c
  match ch.onBus, ch.queue with
  | some r, q => some (r, q)
  | none, r :: q => if s.windowShort c then none else some (r, q)
  | none, [] => none

/-- CAN_TRANSMIT_END (R321): a frame that has won arbitration ends; `loop` is the delay measured at its FDF to res edge, if
it got there. A channel that has lost its authority monitors from then on (R315). -/
def execCanTransmitEnd (channel : Fin 8) (how : CanTxEnd) (loop : Option Nat) (s : State) : Out :=
  let c := channel.val
  let st := s.cbState c
  .next (
    match s.ending c with
    | none => s
    | some (r, q) =>
      if !(st = cbActive || st = cbPassive) then s
      else
        let s1 := ((s.setCanCh c { s.canCh c with onBus := none, queue := q }).loopMeasured c r loop).canEnded c r how
        (if s1.cbMonitors c then s1.enterMonitor c else s1).cbSleepIfAsked c)

/-- The queued objects that have not won arbitration end with a result; the first goes on where it is past arbitration. -/
def State.endUnsent (s : State) (c : Nat) (past : Bool) (r : Nat) : State :=
  let ch := s.canCh c
  let s1 := match ch.onBus, ch.queue with
    | none, x :: q => if past then s.setCanCh c { ch with onBus := some x, queue := q } else s
    | _, _ => s
  s1.endQueue c r

/-- TRANSMIT_WINDOW_CLOSE (R320): from the closing instant on; where no arbitration could begin, no object has won it. -/
def execTransmitWindowClose (channel : Fin 8) (past : Bool) (s : State) : Out :=
  let c := channel.val
  .next (if s.now < s.windowEnd c then s else s.endUnsent c (past && !s.windowShort c) txNotSent)

/-- BUSOFF_RECOVERY (R322): TEC and REC cleared, error active, and the F1 ends; a request to sleep takes effect (R324). -/
def execBusoffRecovery (channel : Fin 8) (s : State) : Out :=
  let c := channel.val
  .next (
    if s.cbState c ≠ cbBusOff then s
    else ((((s.wr (CB_STAT_TEC c) 0).wr (CB_STAT_REC c) 0).setCb c cbActive).endFault bPlantBus 0 c).cbSleepIfAsked c)

/-- CAN_PROTOCOL_ERROR (R322): an error that ends no transmission, with what the fault confinement rules make of it. A protocol
exception with PEX_EN = 0 is a form error (R311); a channel that monitors holds its counters (R315). -/
def execCanProtocolError (channel : Fin 8) (kind : CanErr) (step : CanStep) (s : State) : Out :=
  let c := channel.val
  let st := s.cbState c
  .next (
    if !(st = cbActive || st = cbPassive || st = cbMonitoring) then s
    else if kind = .exception && s.rd (CB_CTL_PEX_EN c) == 1 then s.wr (CB_STAT_PEX_SEEN c) 1
    else
      let s1 := s.countErr c (if kind = .exception then .form else kind)
      match step with
      | .same => s1
      | .rec1 => s1.recUp c 1
      | .rec8 => s1.recUp c 8
      | .tec8 => if st = cbMonitoring then s1 else s1.tecUp c)

/-! Sleep and wake (R324). -/

/-- CHANNEL_SLEEP_REQUEST (R324): SLEEP_REQ takes effect; a frame past arbitration is allowed to finish. -/
def execChannelSleepRequest (channel : Fin 8) (past : Bool) (s : State) : Out :=
  let c := channel.val
  .next (((s.wr (CB_CTL_SLEEP_REQ c) 1).endUnsent c past txAsleep).cbSleepIfAsked c)

/-- CBn_STB is at the transceiver's standby level (R324). -/
def State.cbStandby (s : State) (c : Nat) : Bool :=
  s.cbState c == cbAsleep && s.rd (CB_CTL_STB_EN c) == 1 && s.rd (CB_CTL_WAKE_MODE c) == 0

/-- A wake frame (R324): identifier and masked data byte 0 as CB_WAKE_ID and CB_WAKE_DATA ask. -/
def State.wakeMatch (s : State) (c : Nat) (f : CanFrame) : Bool :=
  let m := s.rd (CB_WAKE_DATA_MASK c)
  !f.remote && b2n f.ide == s.rd (CB_WAKE_ID_IDE c) && f.id == s.rd (CB_WAKE_ID_ID c) &&
  (match f.data.take (dlcBytes f.dlc) with
   | [] => false
   | b :: _ => b.toNat &&& m == s.rd (CB_WAKE_DATA_VALUE c) &&& m)

/-- The channel wakes: SLEEP_REQ cleared, WAKE set, and it integrates. -/
def State.cbWake (s : State) (c : Nat) : State :=
  let s1 := ((s.wr (CB_CTL_SLEEP_REQ c) 0).wr (CB_STAT_WAKE c) 1).setCb c cbIntegrating
  s1.setCanCh c { s1.canCh c with woke := true }

/-- CHANNEL_WAKE (R324): by a dominant level, or by the wake frame, which its RX object takes. -/
def execChannelWake (channel : Fin 8) (seen : CanWake) (s : State) : Out :=
  let c := channel.val
  .next (
    if s.cbState c ≠ cbAsleep then s
    else
      match seen with
      | .dominant => if s.rd (CB_CTL_WAKE_MODE c) = 0 then s.cbWake c else s
      | .frame f =>
        if s.rd (CB_CTL_WAKE_MODE c) = 1 && s.wakeMatch c f && !(f.fdf && s.rd (CB_CTL_FD_EN c) == 0) then
          (match (if s.busCopied then none else s.rxObject c f.ide f.id) with
           | some o => ((s.cbWake c).storeFrame c o f).notAlone c
           | none => s.cbWake c)
        else s)

/-! The input image (R318). -/

/-- The AGE of an object that the image shows. -/
def State.ageOf (s : State) (c o : Nat) : Nat :=
  match s.busAges.find? (fun a => a.channel == c && a.object == o) with
  | some a => a.age
  | none => 0xFFFFFFFF

/-- The channel word of a channel. -/
def State.cbWord (s : State) (c : Nat) : Nat :=
  s.cbState c + 8 * s.rd (CB_STAT_ALONE c) + 16 * b2n (s.canCh c).woke + 256 * s.rd (CB_STAT_TEC c) +
    65536 * s.rd (CB_STAT_REC c)

/-- The input block of one used object at an address. -/
def State.canBlock (s : State) (c o a : Nat) : State :=
  let r (f : Nat → Nat → Fld) : Nat := s.rd (f c o)
  let w0 := r OBJ_CFG_DIR + 4 * r OBJ_STAT_UNREAD + 8 * r OBJ_STAT_LOST + 16 * r OBJ_STAT_FDF + 32 * r OBJ_STAT_BRS +
    64 * r OBJ_STAT_ESI + 256 * r OBJ_STAT_DLC + 65536 * r OBJ_STAT_RESULT
  let data := (List.range 16).flatMap (fun k => leBytes 4 (s.reg (OBJ_DATA c o k)).toNat)
  s.putBytes a (leBytes 4 w0 ++ leBytes 4 (s.ageOf c o) ++ leBytes 4 (s.cbWord c) ++ leBytes 4 0 ++ data)

/-- The plant bus part of a freeze: ages advance, the blocks of the used objects of enabled channels are written at
`base`, and UNREAD, LOST and the WAKE indications are cleared. -/
def State.canFreeze (s : State) (base : Nat) : State :=
  let s0 : State := { s with busAges := s.busAges.map (fun a =>
    if a.fresh then { a with age := 0, fresh := false } else { a with age := satAdd 32 a.age 1 }) }
  let s1 := s0.clearMem (base + 0x6000) 163840
  s1.each (List.range 8) (fun t c =>
    let used := if t.rd (CB_CTL_EN c) = 1 then (List.range 256).filter (fun o => t.rd (OBJ_CFG_DIR c o) != 0) else []
    let t1 := t.each used (fun u o =>
      ((u.canBlock c o (base + 0x6000 + 80 * (256 * c + o))).wr (OBJ_STAT_UNREAD c o) 0).wr (OBJ_STAT_LOST c o) 0)
    t1.setCanCh c { t1.canCh c with woke := false })

/-- The objects of the enabled channels take the state that an image shows (R358). -/
def State.canCommit (s : State) (base : Nat) : State :=
  s.each (List.range 8) (fun t c =>
    let used := if t.rd (CB_CTL_EN c) = 1 then (List.range 256).filter (fun o => t.rd (OBJ_CFG_DIR c o) != 0) else []
    t.each used (fun u o =>
      let a := base + 0x6000 + 80 * (256 * c + o)
      let w := u.ld a 4
      let age := u.ld (a + 4) 4
      let u1 := (u.putFrame c o (bitsOf w 11 8) (bitOf w 4) (bitOf w 5) (bitOf w 6) (u.bytes (a + 0x10) 64)).objResult c o
        (bitsOf w 23 16)
      let u2 := (u1.wr (OBJ_STAT_UNREAD c o) 0).wr (OBJ_STAT_LOST c o) 0
      let kept := u2.busAges.filter (fun x => !(x.channel == c && x.object == o))
      let u3 : State := { u2 with busAges := if age = 0xFFFFFFFF then kept else ⟨c, o, age, false⟩ :: kept }
      u3))

end Sys2Proof.Machine
end

