-- ==== Sys2Proof/Machine/Authority.lean ====
section
/-! DEFINITION. Modes, authority and the driven outputs: the mode in force (R245), AUTH_OUT and its release (R353, R354,
R367), safe values, and which outputs loop engines own (R23, R51, R219, R276). -/

namespace Sys2Proof.Machine

/-! Pair states (R354). -/

def prSingle : Nat := 0
def prWaiting : Nat := 1
def prJoining : Nat := 2
def prStandby : Nat := 3
def prActive : Nat := 4
def prFallow : Nat := 5

/-- The state with the pair's hidden state replaced. -/
def State.setPair (s : State) (p : Pair) : State := { s with pair := p }

/-- PAIR_STAT.STATE. -/
def State.prState (s : State) : Nat := s.rd PAIR_STAT_STATE

/-- A healthy standby: the partner's HELLO shows STANDBY with READY = 1, over a link that is up (R354). -/
def State.healthyStandby (s : State) : Bool :=
  s.paired && s.prState == prActive && s.rd PAIR_STAT_LINK_UP == 1 &&
    s.pair.hello.any (fun h => h.state == prStandby && h.ready)

/-- MODE set, with vector 1 where it changes (R100). -/
def State.setMode (s : State) (m : Nat) : State :=
  if s.rd PASS_MODE_STAT_MODE = m && s.rd GLOBAL_MODE_MODE == m then s
  else ((s.wr PASS_MODE_STAT_MODE m).wr GLOBAL_MODE_MODE m).raiseVec false 1

/-- AUTH_OUT set, with vector 1 where it changes (R100). -/
def State.setAuth (s : State) (on : Bool) : State :=
  if s.rd GLOBAL_MODE_AUTH = b2n on then s else (s.wr GLOBAL_MODE_AUTH (b2n on)).raiseVec false 1

/-- AUTH_OUT released (R315, R367); the unit goes to the pair state given. -/
def State.releaseAuth (s : State) (st : Nat) : State :=
  if s.rd GLOBAL_MODE_AUTH = 0 && s.prState != prActive then s
  else ((s.setAuth false).wr PAIR_STAT_STATE st).busDropAuth

/-- What an F2 or F3 does to authority on its recording edge (R11, R367): with a healthy standby the unit releases
AUTH_OUT and becomes FALLOW. -/
def State.yieldOnFault (s : State) : State := if s.healthyStandby then s.releaseAuth prFallow else s

/-! Boundary scan (R397, R434). -/

/-- The debug scopes that are open: all in MANUFACTURE, otherwise those that tokens hold open. -/
def State.scopes (s : State) : Nat := if s.keys.lc = 0 then 7 else s.keys.tokens.foldl (fun a t => a ||| t.1) 0

/-- EXTEST, INTEST, CLAMP or HIGHZ is in force: selected while boundary scan is open, the first two only in STOP without
authority; otherwise they act as BYPASS. -/
def State.scan (s : State) : Bool :=
  let idle := s.rd GLOBAL_MODE_MODE == 0 && s.rd GLOBAL_MODE_AUTH == 0
  bitOf s.scopes 0 && (s.jtag.ir == 4 || s.jtag.ir == 5 || ((s.jtag.ir == 3 || s.jtag.ir == 6) && idle))

/-! Driven outputs. -/

/-- The state with the driven outputs replaced. -/
def State.setOut (s : State) (o : Outputs) : State := { s with outputs := o }

/-- The DAC code, PWM duty or GPIO code at an index of a block in the format of SAFE_VALUES (R51). -/
def blockDac (bs : List Byte) (n : Nat) : Nat := ofLeBytes ((bs.drop (2 * n)).take 2)
def blockPwm (bs : List Byte) (n : Nat) : Nat := ofLeBytes ((bs.drop (32 + 2 * n)).take 2)
def blockGpio (bs : List Byte) (n : Nat) : Nat := (((bs[96 + n / 4]?).getD 0).toNat / 4 ^ (n % 4)) % 4

/-- Kinds of an engine's output (LOOP_OUT.OUT_KIND). -/
def outDac : Nat := 1
def outPwm : Nat := 2

/-- An output is assigned to a loop engine, in whatever state that is (R276). -/
def State.assigned (s : State) (kind ch : Nat) : Bool :=
  (List.range 32).any (fun n => s.rd (LOOP_OUT_OUT_KIND n) == kind && s.rd (LOOP_OUT_OUT_CH n) == ch)

/-- The block put on every output that no engine owns, in one edge (R219): PWM duties wait for their period, and a GPIO
code of 0b11 is driven as 0b10 and counted. -/
def State.driveBlock (s : State) (bs : List Byte) : State :=
  let o := s.outputs
  let bad := ((List.range 64).filter (fun n => blockGpio bs n == 3)).length
  let s1 := s.setOut { o with
    dac := o.dac.zipIdx.map (fun x => if s.assigned outDac x.2 then x.1 else blockDac bs x.2),
    pwmNext := o.pwmNext.zipIdx.map (fun x => if s.assigned outPwm x.2 then x.1 else blockPwm bs x.2),
    gpio := o.gpio.zipIdx.map (fun x => if blockGpio bs x.2 = 3 then 2 else blockGpio bs x.2) }
  if bad = 0 then s1 else s1.bump PASS_OUT_ERR_COUNT bad

/-- A code driven by a loop engine on its output. -/
def State.driveEngine (s : State) (n code : Nat) : State :=
  let ch := s.rd (LOOP_OUT_OUT_CH n)
  if s.rd (LOOP_OUT_OUT_KIND n) = outDac then s.setOut { s.outputs with dac := s.outputs.dac.set ch code }
  else if s.rd (LOOP_OUT_OUT_KIND n) = outPwm then s.setOut { s.outputs with pwmNext := s.outputs.pwmNext.set ch code }
  else s

/-- The seed safe value of an engine's output. -/
def State.safeCode (s : State) (n : Nat) : Nat :=
  let ch := s.rd (LOOP_OUT_OUT_CH n)
  if s.rd (LOOP_OUT_OUT_KIND n) = outDac then blockDac s.outputs.safe ch
  else if s.rd (LOOP_OUT_OUT_KIND n) = outPwm then blockPwm s.outputs.safe ch
  else 0

/-- The code that an engine's output is driven at now. -/
def State.drivenCode (s : State) (n : Nat) : Nat :=
  let ch := s.rd (LOOP_OUT_OUT_CH n)
  if s.rd (LOOP_OUT_OUT_KIND n) = outDac then s.outputs.dac.getD ch 0 else s.outputs.pwm.getD ch 0

/-- Every output at its seed safe value, engines' outputs too (R253, R279): taken at once and in PWM at the next period. -/
def State.allSafe (s : State) : State :=
  (s.driveBlock s.outputs.safe).each (List.range 32) (fun t n => t.driveEngine n (t.safeCode n))

/-- The seed safe values written into the output block of both buffers (R219, R246). -/
def State.safeBuffers (s : State) : State :=
  (s.putBytes (aImage + 0x800000) s.outputs.safe).putBytes (aImage + 0xA00000) s.outputs.safe

/-- PWM_PERIOD_START (R433): all periods start together every 65,536 SYS cycles, and the waiting duties take effect. -/
def execPwmPeriodStart (s : State) : Out :=
  .next (
    if s.now < s.loops.pwmNextAt then s
    else { (s.setOut { s.outputs with pwm := s.outputs.pwmNext }) with
      loops := { s.loops with pwmNextAt := (s.now / 65536 + 1) * 65536 } })

end Sys2Proof.Machine
end

