-- ==== Sys2Proof/Machine/Balls.lean ====
section
/-! DEFINITION. The balls of the package (R418 to R423), the boundary register that runs through them (R434), and what the
output pins are driven at (R42, R353, R426, R434). -/

namespace Sys2Proof.Machine

/-- The supply rails and grounds at the balls (R422 to R424). -/
inductive Rail where
  | vss | agndMet | vddC | vddD0 | vddSram | vddSrd | vddDdr | vdd1v8 | vddIo | vddMet | vddAon
deriving DecidableEq, Repr

/-- What a ball carries (R419 to R423). `neg` is the second ball of a differential pair; an xSPI port is 0 XN0, 1 XN1, 2 XR0
or 3 XR1, with its lines in the order of its balls: 0 to 7 DQ, 8 CK, 9 DQS, 10 CS_N, 11 RESET_N; the lines of an RTD channel
are 0 IP, 1 SP, 2 SN, 3 IN; the last two constructors are a rail, and no ball at all. -/
inductive Ball where
  | gpio (n : Nat) | pwm (n : Nat)
  | cbTx (n : Nat) | cbRx (n : Nat) | cbStb (n : Nat)
  | ddrDq (n : Nat) | ddrDqs (b : Nat) (neg : Bool) | ddrDm (b : Nat) | ddrZq
  | ddrCk (neg : Bool) | ddrCke | ddrCsN | ddrActN | ddrOdt | ddrPar | ddrAlertN | ddrResetN
  | ddrA (n : Nat) | ddrBa (n : Nat) | ddrBg (n : Nat)
  | peTx (k : Nat) (neg : Bool) | peRx (k : Nat) (neg : Bool) | peRefclk (neg : Bool) | pePerstN
  | fpTx (p : Nat) (neg : Bool) | fpRx (p : Nat) (neg : Bool) | fpLos (p : Nat) | fpModAbs (p : Nat) | fpTxDis (p : Nat)
  | hlTx (k : Nat) (neg : Bool) | hlRx (k : Nat) (neg : Bool)
  | authOut | authIn | pairRole | clkRef | ppsIn | pwrWarn | xtal32In | xtal32Out | porstN | warmN | testMode
  | tck | tms | tdi | tdo | trstN
  | xspi (port line : Nat)
  | adc (n : Nat) (neg : Bool) | metVref | metVfilt | rtd (n line : Nat)
  | pls (n : Nat) | dac (n : Nat) | dacRef | xspClk | xspFs | xspDat
  | rail (r : Rail) | none
deriving DecidableEq, Repr

/-- Rows A to D (R419), numbered 1 to 4. -/
def topBall (r c : Nat) : Ball :=
  if c < 2 || 33 < c then (if r = 1 then .none else .rail .vss)
  else match r with
    | 1 => .gpio (c - 2)
    | 2 => .gpio (c + 30)
    | 3 => .pwm (c - 2)
    | _ =>
      let n := (c - 2) / 3
      if 25 < c then .rail .vss
      else match (c - 2) % 3 with
        | 0 => .cbTx n
        | 1 => .cbRx n
        | _ => .cbStb n

/-- Rows AM to AT (R420), numbered 31 to 34. -/
def bottomBall (r c : Nat) : Ball :=
  let b := (c - 2) / 3
  if c < 2 || 33 < c then (if r = 34 then .none else .rail .vddDdr)
  else if 28 < c then (if r = 34 ∧ c = 29 then .ddrZq else .rail .vddDdr)
  else match (c - 2) % 3, r with
    | 0, _ => .ddrDq (8 * b + (34 - r))
    | 1, 34 => .ddrDqs b false
    | 1, 33 => .ddrDqs b true
    | 1, 32 => .ddrDm b
    | 1, _ => .rail .vss
    | _, _ => .ddrDq (8 * b + 4 + (34 - r))

/-- Four balls side by side. -/
def four (a b c d : Ball) (k : Nat) : Ball :=
  match k with
  | 0 => a
  | 1 => b
  | 2 => c
  | _ => d

/-- Columns 1 to 4 of rows E to AL (R421), with `k` counted from 0. -/
def leftBall (r k : Nat) : Ball :=
  let v : Ball := .rail .vss
  let lane (tx rx : Nat → Bool → Ball) (n : Nat) : Ball := four (tx n false) (tx n true) (rx n false) (rx n true) k
  if r < 9 then lane .peTx .peRx (r - 5)
  else if r = 9 then four (.peRefclk false) (.peRefclk true) .pePerstN v k
  else if r = 10 then v
  else if r < 19 then
    let p := (r - 11) / 2
    if r % 2 = 1 then lane .fpTx .fpRx p else four (.fpLos p) (.fpModAbs p) (.fpTxDis p) v k
  else match r with
    | 20 => lane .hlTx .hlRx 0
    | 21 => lane .hlTx .hlRx 1
    | 22 => four .authOut .authIn .pairRole v k
    | 23 => four .clkRef v .ppsIn .pwrWarn k
    | 24 => four .xtal32In .xtal32Out (.rail .vddAon) v k
    | 25 => four .porstN .warmN .testMode v k
    | 26 => four .tck .tms .tdi .tdo k
    | 27 => four .trstN (.rail .vddAon) (.rail .vddAon) v k
    | 28 => .rail .vddSrd
    | 30 => .rail .vddSrd
    | _ => v

/-- Columns 31 to 34 of rows E to AL (R421), with `k` counted from 0. -/
def rightBall (r k : Nat) : Ball :=
  if 24 < r then four (.rail .vdd1v8) (.rail .vdd1v8) (.rail .vss) (.rail .vss) k
  else if 12 < r then .xspi ((r - 13) / 3) ((r - 13) % 3 * 4 + k)
  else match r with
    | 5 => four (.ddrCk false) (.ddrCk true) .ddrCke .ddrCsN k
    | 6 => four .ddrActN .ddrOdt .ddrPar .ddrAlertN k
    | 11 => four (.ddrA 16) (.ddrBa 0) (.ddrBa 1) (.ddrBg 0) k
    | 12 => four (.ddrBg 1) .ddrResetN (.rail .vddDdr) (.rail .vss) k
    | _ => .ddrA ((r - 7) * 4 + k)

/-- Columns 5 to 30 of rows E to N, the analogue block (R422), with `k` counted from 0. -/
def analogueBall (r k : Nat) : Ball :=
  let agnd : Ball := .rail .agndMet
  match r with
  | 5 => .adc (k / 2) (k % 2 == 1)
  | 6 => .adc (13 + k / 2) (k % 2 == 1)
  | 7 => if k < 12 then .adc (26 + k / 2) (k % 2 == 1) else if k = 12 then .metVref else if k = 13 then .metVfilt else agnd
  | 8 => if k < 24 then .rtd (k / 4) (k % 4) else agnd
  | 9 => if k < 24 then .rtd (6 + k / 4) (k % 4) else agnd
  | 10 => if k < 16 then .rtd (12 + k / 4) (k % 4) else agnd
  | 11 => .pls k
  | 12 =>
    if k < 6 then .pls (26 + k) else if k < 22 then .dac (k - 6)
    else four .dacRef .xspClk .xspFs .xspDat (k - 22)
  | _ => if k < 13 then .rail .vddMet else agnd

/-- Columns 5 to 30 of rows P to AL, the core power block (R423). -/
def powerBall (r c : Nat) : Ball :=
  let upper : Bool := decide (r < 20)
  if (r + c) % 2 = 1 then .rail .vss
  else if c < 7 then .rail .vddIo
  else if c < 13 then .rail (if upper then .vddSrd else .vddSram)
  else if c < 25 then .rail (if upper then .vddD0 else .vddC)
  else if c < 29 then .rail (if upper then .vddSram else .vddC)
  else .rail (if upper then .vdd1v8 else .vddDdr)

/-- The ball in row `r` and column `c`, both numbered from 1 to 34, the rows in the order A to AT (R418). -/
def ballAt (r c : Nat) : Ball :=
  if r < 5 then topBall r c
  else if 30 < r then bottomBall r c
  else if c < 5 then leftBall r (c - 1)
  else if 30 < c then rightBall r (c - 31)
  else if r < 14 then analogueBall r (c - 5)
  else powerBall r c

/-! The boundary register (R434). -/

/-- How many cells a ball has: one an input, two an output (data, enable), three a bidirectional ball (input, data, enable),
none a ball that the register does not cover. That the data strobes and masks are bidirectional, and an xSPI port's strobe an
input, is DEDUCED from the counts of balls and cells that the rule gives (assumption 107). -/
def Ball.cells : Ball → Nat
  | .gpio _ => 3 | .pwm _ => 2
  | .cbTx _ => 2 | .cbRx _ => 1 | .cbStb _ => 2
  | .ddrDq _ => 3 | .ddrDqs _ _ => 3 | .ddrDm _ => 3 | .ddrZq => 0
  | .ddrCk _ => 2 | .ddrCke => 2 | .ddrCsN => 2 | .ddrActN => 2 | .ddrOdt => 2 | .ddrPar => 2 | .ddrAlertN => 1
  | .ddrResetN => 2 | .ddrA _ => 2 | .ddrBa _ => 2 | .ddrBg _ => 2
  | .pePerstN => 1
  | .fpLos _ => 1 | .fpModAbs _ => 1 | .fpTxDis _ => 2
  | .authOut => 2 | .authIn => 1 | .pairRole => 1 | .ppsIn => 1 | .pwrWarn => 1 | .warmN => 1
  | .xspi _ line => if line < 8 then 3 else if line = 9 then 1 else 2
  | .pls _ => 1 | .xspClk => 1 | .xspFs => 1 | .xspDat => 1
  | _ => 0

/-- The balls that the boundary register covers, by row and then by column; the first is nearest TDI. -/
def coveredBalls : List Ball :=
  ((List.range 34).flatMap (fun r => (List.range 34).map (fun c => ballAt (r + 1) (c + 1)))).filter (fun b => 0 < b.cells)

/-- The cells of a list of balls: the ball and the place of the cell among its cells. -/
def cellsOf (bs : List Ball) : List (Ball × Nat) := bs.flatMap (fun b => (List.range b.cells).map (fun k => (b, k)))

/-- The place of a ball's first cell, counted from TDI. -/
def Ball.cellAt (b : Ball) : Nat := ((coveredBalls.takeWhile (fun x => x != b)).map Ball.cells).sum

/-! The output pins. -/

/-- The device itself drives its DAC, PWM and GPIO pins: not before PORST_N is first released (R426), always as a single unit,
and in a pair while AUTH_OUT is asserted (R353). -/
def State.drives (s : State) : Bool :=
  s.boot.wasOut && (s.rd PAIR_CFG_PAIRED == 0 || s.rd GLOBAL_MODE_AUTH == 1)

/-- The PWM and GPIO pins are high impedance with their pull-downs while PORST_N is low and in the first 3 ms of sowing, the DAC
codes being 0 (R42). -/
def State.pinsOff (s : State) : Bool :=
  s.boot.porst || (s.rd CP_BOOT_STAT_STAGE == 0 && decide (s.now < s.boot.startAt + 3000 * cycPerUs))

/-- The level that the unit gives a PWM pin, none where it does not drive it (R433): high for the duty's SYS cycles of each
period. -/
def State.pwmDrive (s : State) (n : Nat) : Option Bool :=
  if s.drives && !s.pinsOff then (s.outputs.pwm[n]?).map (fun d => decide (s.now % 65536 < d)) else none

/-- The level that the unit gives a GPIO pin, none where it is high impedance: the codes of R51 are 0 low, 1 high, 2 high
impedance. -/
def State.gpioDrive (s : State) (n : Nat) : Option Bool :=
  if s.drives && !s.pinsOff then
    match s.outputs.gpio[n]? with
    | some 0 => some false
    | some 1 => some true
    | _ => none
  else none

/-- The code that a DAC pin is driven at, none where it is high impedance with its amplifier disabled (R353, R426). -/
def State.dacPin (s : State) (n : Nat) : Option Nat := if s.drives then s.outputs.dac[n]? else none

/-- The level that the unit gives a covered output pin of its own, where State holds it; AUTH_OUT is always driven. -/
def State.ownDrive (s : State) : Ball → Option (Option Bool)
  | .gpio n => some (s.gpioDrive n)
  | .pwm n => some (s.pwmDrive n)
  | .authOut => some (some (s.rd GLOBAL_MODE_AUTH == 1))
  | _ => none

/-- Whether the boundary register drives the pins in place of the device: EXTEST, INTEST, CLAMP. INTEST drives them as IEEE
1149.1 permits (PRESUMED, assumption 107). -/
def State.scanDrives (s : State) : Bool := s.scan && s.jtag.ir != 5

/-- The level that a covered output pin is driven at, none where it is high impedance: the update latch's data cell where its
enable cell is 1 while a boundary-scan instruction drives the pins, but AUTH_OUT never high; nothing under HIGHZ; else what the
unit drives. -/
def State.pinLevel (s : State) (b : Ball) : Option (Option Bool) :=
  if s.scanDrives then
    let end_ := b.cellAt + b.cells
    some (if bitOf s.jtag.latch (end_ - 1) then some (b != .authOut && bitOf s.jtag.latch (end_ - 2)) else none)
  else if s.scan then some none
  else s.ownDrive b

/-- What a cell captures under SAMPLE: an output cell of a pin whose drive State holds shows that drive, an enable cell 1 where
it is driven (PRESUMED, assumption 107); every other cell, and the data of an undriven pin, what the environment gives. -/
def State.cellSample (s : State) (env : Bool) (b : Ball) (k : Nat) : Bool :=
  match s.ownDrive b with
  | none => env
  | some d => if k + 1 = b.cells then d.isSome else if k + 2 = b.cells then d.getD env else env

/-- The boundary register under SAMPLE, its cell nearest TDI in bit 0. -/
def State.boundary (s : State) (env : Nat) : Nat :=
  ((cellsOf coveredBalls).zipIdx).foldl (fun a x => if s.cellSample (bitOf env x.2) x.1.1 x.1.2 then a + 2 ^ x.2 else a) 0

end Sys2Proof.Machine
end

