-- ==== Sys2Proof/Machine/Aes.lean ====
section
/-! DEFINITION. AES-256 (FIPS 197) in Galois/Counter Mode (NIST SP 800-38D), which protects telegrams, sealed data, wrapped
keys and BOUND values (R288, R380, R386, R389). -/

namespace Sys2Proof.Machine

/-! The block cipher. -/

/-- The S-box, entry i in bits 8 i + 7 to 8 i. -/
def aesBox : Nat :=
  0x16bb54b00f2d99416842e6bf0d89a18cdf2855cee9871e9b948ed9691198f8e1 * 2 ^ 1792 +
  0x9e1dc186b95735610ef6034866b53e708a8bbd4b1f74dde8c6b4a61c2e2578ba * 2 ^ 1536 +
  0x08ae7a65eaf4566ca94ed58d6d37c8e779e4959162acd3c25c2406490a3a32e0 * 2 ^ 1280 +
  0xdb0b5ede14b8ee4688902a22dc4f816073195d643d7ea7c41744975fec130ccd * 2 ^ 1024 +
  0xd2f3ff1021dab6bcf5389d928f40a351a89f3c507f02f94585334d43fbaaefd0 * 2 ^ 768 +
  0xcf584c4a39becb6a5bb1fc20ed00d153842fe329b3d63b52a05a6e1b1a2c8309 * 2 ^ 512 +
  0x75b227ebe28012079a059618c323c7041531d871f1e5a534ccf73f362693fdb7 * 2 ^ 256 +
  0xc072a49cafa2d4adf04759fa7dc982ca76abd7fe2b670130c56f6bf27b777c63

/-- SubBytes of one byte. -/
def subByte (x : Nat) : Nat := aesBox / 2 ^ (8 * x) % 256

/-- A byte times 2 in GF(2⁸). -/
def xtime (x : Nat) : Nat := if x < 128 then 2 * x else (2 * x) ^^^ 0x11B

/-- Byte i of a list of bytes as numbers; 0 past its end. -/
def byteAt (xs : List Nat) (i : Nat) : Nat := (xs[i]?).getD 0

/-- Four bytes combined bit by bit with four others. -/
def xorBytes (xs ys : List Nat) : List Nat := (xs.zip ys).map (fun p => p.1 ^^^ p.2)

/-- The words of the key schedule of AES-256, the newest first: each from the one before and the one eight before. -/
def keyWords : Nat → Nat → List (List Nat) → List (List Nat)
  | 0, _, ws => ws
  | n + 1, rcon, ws =>
    let i := ws.length
    let prev := ws.headD []
    let old := (ws[7]?).getD []
    if i % 8 = 0 then
      let t := (prev.drop 1 ++ prev.take 1).map subByte
      keyWords n (xtime rcon) (xorBytes old (xorBytes t [rcon, 0, 0, 0]) :: ws)
    else if i % 8 = 4 then keyWords n rcon (xorBytes old (prev.map subByte) :: ws)
    else keyWords n rcon (xorBytes old prev :: ws)

/-- The 15 round keys of a 32-byte key. -/
def roundKeys (key : List Nat) : List (List Nat) :=
  let first := (List.range 8).map (fun i => (key.drop (4 * i)).take 4)
  let ws := (keyWords 52 1 first.reverse).reverse
  (List.range 15).map (fun r => ((ws.drop (4 * r)).take 4).flatten)

/-- ShiftRows of a block held column by column. -/
def shiftRows (xs : List Nat) : List Nat := (List.range 16).map (fun i => byteAt xs ((i + 4 * (i % 4)) % 16))

/-- MixColumns of a block. -/
def mixColumns (xs : List Nat) : List Nat :=
  (List.range 16).map (fun i =>
    let a (k : Nat) : Nat := byteAt xs (i / 4 * 4 + (i + k) % 4)
    xtime (a 0) ^^^ (xtime (a 1) ^^^ a 1) ^^^ a 2 ^^^ a 3)

/-- A block encrypted under round keys. -/
def aesBlock (rks : List (List Nat)) (block : List Nat) : List Nat :=
  let s0 := xorBytes block (rks.headD [])
  let s13 := ((rks.drop 1).take 13).foldl (fun s k => xorBytes (mixColumns (shiftRows (s.map subByte))) k) s0
  xorBytes (shiftRows (s13.map subByte)) ((rks[14]?).getD [])

/-! GHASH. -/

/-- A product in the field of GCM, of blocks as numbers whose first bit is the most significant: `n` bits of x remain. -/
def gfProduct : Nat → Nat → Nat → Nat → Nat
  | 0, _, _, z => z
  | n + 1, x, v, z =>
    gfProduct n x (if v % 2 = 1 then (v / 2) ^^^ (0xE1 * 2 ^ 120) else v / 2) (if x / 2 ^ n % 2 = 1 then z ^^^ v else z)

/-- The blocks of a byte string as numbers, the last filled with zeros. -/
def gcmBlocks (bs : List Nat) : List Nat :=
  (List.range ((bs.length + 15) / 16)).map (fun i =>
    (List.range 16).foldl (fun acc k => 256 * acc + byteAt bs (16 * i + k)) 0)

/-- GHASH of additional data and ciphertext. -/
def ghash (h : Nat) (aad ct : List Nat) : Nat :=
  (gcmBlocks aad ++ gcmBlocks ct ++ [8 * aad.length * 2 ^ 64 + 8 * ct.length]).foldl (fun y x => gfProduct 128 (y ^^^ x) h 0) 0

/-- The bytes of a number of 16 bytes, most significant first. -/
def gcmBlock (v : Nat) : List Nat := (beBytes 16 v).map BitVec.toNat

/-- A byte string under the key stream that begins with counter block 2 of a 12-byte IV. -/
def gcmStream (rks : List (List Nat)) (iv bs : List Nat) : List Nat :=
  let blocks := (List.range ((bs.length + 15) / 16)).flatMap (fun i =>
    aesBlock rks (iv ++ (beBytes 4 (i + 2)).map BitVec.toNat))
  xorBytes bs blocks

/-- The tag of additional data and ciphertext. -/
def gcmTag (rks : List (List Nat)) (iv aad ct : List Nat) : List Nat :=
  let h := (aesBlock rks (List.replicate 16 0)).foldl (fun acc b => 256 * acc + b) 0
  xorBytes (gcmBlock (ghash h aad ct)) (aesBlock rks (iv ++ [0, 0, 0, 1]))

/-- Bytes as numbers, and back. -/
def nums (bs : List Byte) : List Nat := bs.map BitVec.toNat
def bytesOfNums (xs : List Nat) : List Byte := xs.map (BitVec.ofNat 8)

/-- AES-256-GCM with a 12-byte IV: ciphertext, then the 16-byte tag. -/
def gcmSeal (key iv aad plain : List Byte) : List Byte :=
  let rks := roundKeys (nums key)
  let ct := gcmStream rks (nums iv) (nums plain)
  bytesOfNums (ct ++ gcmTag rks (nums iv) (nums aad) ct)

/-- AES-256-GCM opened: the plaintext, where the tag verifies. -/
def gcmOpen (key iv aad sealed : List Byte) : Option (List Byte) :=
  let rks := roundKeys (nums key)
  let n := sealed.length - 16
  let ct := nums (sealed.take n)
  if 16 ≤ sealed.length ∧ nums (sealed.drop n) = gcmTag rks (nums iv) (nums aad) ct then
    some (bytesOfNums (gcmStream rks (nums iv) ct))
  else none

end Sys2Proof.Machine
end

