-- ==== Sys2Proof/Machine/Shake.lean ====
section
/-! DEFINITION. SHAKE256 (FIPS 202) and KMAC256 (NIST SP 800-185), which the spec uses for digests, the boot measurement
and derived keys (R50, R60, R357, R379). -/

namespace Sys2Proof.Machine

/-- The rotation of each lane, by 5 y + x. -/
def keccakRot : List Nat :=
  [0, 1, 62, 28, 27, 36, 44, 6, 55, 20, 3, 10, 43, 25, 39, 41, 45, 15, 21, 8, 18, 2, 61, 56, 14]

/-- The round constants. -/
def keccakRc : List DWord :=
  [0x0000000000000001, 0x0000000000008082, 0x800000000000808A, 0x8000000080008000, 0x000000000000808B,
   0x0000000080000001, 0x8000000080008081, 0x8000000000008009, 0x000000000000008A, 0x0000000000000088,
   0x0000000080008009, 0x000000008000000A] ++
  [0x000000008000808B, 0x800000000000008B, 0x8000000000008089, 0x8000000000008003, 0x8000000000008002,
   0x8000000000000080, 0x000000000000800A, 0x800000008000000A, 0x8000000080008081, 0x8000000000008080,
   0x0000000080000001, 0x8000000080008008]

/-- Lane (x, y) of a state of 25 lanes. -/
def lane (a : List DWord) (x y : Nat) : DWord := a.getD (x % 5 + 5 * (y % 5)) 0

/-- The 25 lanes that a function of x and y gives. -/
def lanesOf (f : Nat → Nat → DWord) : List DWord := (List.range 25).map (fun i => f (i % 5) (i / 5))

/-- One round of Keccak-f[1600]: θ, ρ and π, χ, ι. -/
def keccakRound (a : List DWord) (rc : DWord) : List DWord :=
  let c := (List.range 5).map (fun x => lane a x 0 ^^^ lane a x 1 ^^^ lane a x 2 ^^^ lane a x 3 ^^^ lane a x 4)
  let d := (List.range 5).map (fun x => c.getD ((x + 4) % 5) 0 ^^^ (c.getD ((x + 1) % 5) 0).rotateLeft 1)
  let t := lanesOf (fun x y => lane a x y ^^^ d.getD x 0)
  let b := lanesOf (fun x y => (lane t (x + 3 * y) x).rotateLeft (keccakRot.getD ((x + 3 * y) % 5 + 5 * x) 0))
  lanesOf (fun x y =>
    let v := lane b x y ^^^ (~~~(lane b (x + 1) y) &&& lane b (x + 2) y)
    if x + y = 0 then v ^^^ rc else v)

/-- Keccak-f[1600]. -/
def keccakF (a : List DWord) : List DWord := keccakRc.foldl keccakRound a

/-- The lanes of a block of bytes, little-endian, made up to 25 with zeros. -/
def blockLanes (bs : List Byte) : List DWord :=
  (List.range 25).map (fun i => BitVec.ofNat 64 (ofLeBytes ((bs.drop (8 * i)).take 8)))

/-- The rate of SHAKE256 in bytes. -/
def shakeRate : Nat := 136

/-- A message with its domain suffix and padding, a whole number of blocks. -/
def shakePad (suffix : Byte) (m : List Byte) : List Byte :=
  let k := shakeRate - m.length % shakeRate
  if k = 1 then m ++ [suffix ||| 0x80] else m ++ [suffix] ++ List.replicate (k - 2) 0 ++ [0x80]

/-- Absorb a number of blocks. -/
def absorb : Nat → List DWord → List Byte → List DWord
  | 0, a, _ => a
  | n + 1, a, m =>
    absorb n (keccakF ((a.zip (blockLanes (m.take shakeRate))).map (fun p => p.1 ^^^ p.2))) (m.drop shakeRate)

/-- Squeeze a number of blocks. -/
def squeezeBlocks : Nat → List DWord → List Byte
  | 0, _ => []
  | n + 1, a => (a.flatMap (fun l => leBytes 8 l.toNat)).take shakeRate ++ squeezeBlocks n (keccakF a)

/-- The sponge: n bytes of output for a message under a domain suffix. -/
def sponge (suffix : Byte) (m : List Byte) (n : Nat) : List Byte :=
  let p := shakePad suffix m
  (squeezeBlocks ((n + shakeRate - 1) / shakeRate) (absorb (p.length / shakeRate) (List.replicate 25 0) p)).take n

/-- The first n bytes of SHAKE256. -/
def shake256 (m : List Byte) (n : Nat) : List Byte := sponge 0x1F m n

/-- The bytes of a number, most significant first, at least one. -/
def minBytes (v : Nat) : List Byte := if v < 256 then beBytes 1 v else if v < 65536 then beBytes 2 v else beBytes 4 v

def leftEncode (v : Nat) : List Byte := leBytes 1 (minBytes v).length ++ minBytes v
def rightEncode (v : Nat) : List Byte := minBytes v ++ leBytes 1 (minBytes v).length
def encodeString (s : List Byte) : List Byte := leftEncode (8 * s.length) ++ s

/-- A string behind the rate, padded with zeros to a whole number of blocks. -/
def bytepad (s : List Byte) : List Byte :=
  let z := leftEncode shakeRate ++ s
  z ++ List.replicate ((shakeRate - z.length % shakeRate) % shakeRate) 0

/-- The bytes of an ASCII string. -/
def ascii (s : String) : List Byte := s.toList.map (fun c => BitVec.ofNat 8 c.toNat)

/-- KMAC256(K, X, 8 n bits, S). -/
def kmac256 (k x : List Byte) (n : Nat) (s : String) : List Byte :=
  sponge 0x04
    (bytepad (encodeString (ascii "KMAC") ++ encodeString (ascii s)) ++ bytepad (encodeString k) ++ x ++
      rightEncode (8 * n)) n

end Sys2Proof.Machine
end

