-- ==== Sys2Proof/Machine/Curve448.lean ====
section
/-! DEFINITION. X448 (RFC 7748) and Ed448ph (RFC 8032), which unwrap update messages and sign firmware, seed images, update
messages, tokens and attestation statements (R50, R53, R381, R386, R389, R396, R398). -/

namespace Sys2Proof.Machine

/-- p = 2⁴⁴⁸ − 2²²⁴ − 1. -/
def p448 : Nat := 2 ^ 448 - 2 ^ 224 - 1

/-- The order of the base point of Ed448. -/
def order448 : Nat := 2 ^ 446 - 13818066809895115352007386748515426880336692474882178609894547503885

def mul448 (a b : Nat) : Nat := a * b % p448
def add448 (a b : Nat) : Nat := (a + b) % p448
def sub448 (a b : Nat) : Nat := (a + (p448 - b % p448)) % p448

/-- a to the power whose bits remain to be taken, `n` of them, the most significant first. -/
def pow448 (a e : Nat) : Nat → Nat → Nat
  | 0, acc => acc
  | n + 1, acc =>
    let sq := mul448 acc acc
    pow448 a e n (if e / 2 ^ n % 2 = 1 then mul448 sq a else sq)

/-- 1 / a; 0 of 0. -/
def inv448 (a : Nat) : Nat := pow448 a (p448 - 2) 448 1

/-! X448. -/

/-- The ladder's two points as x and z. -/
structure Ladder where
  x2 : Nat
  z2 : Nat
  x3 : Nat
  z3 : Nat
deriving DecidableEq, Repr

/-- The two points exchanged where a bit says so. -/
def Ladder.swap (l : Ladder) (b : Bool) : Ladder := if b then ⟨l.x3, l.z3, l.x2, l.z2⟩ else l

/-- One step of the Montgomery ladder. -/
def Ladder.double (l : Ladder) (u : Nat) : Ladder :=
  let a := add448 l.x2 l.z2
  let aa := mul448 a a
  let b := sub448 l.x2 l.z2
  let bb := mul448 b b
  let e := sub448 aa bb
  let da := mul448 (sub448 l.x3 l.z3) a
  let cb := mul448 (add448 l.x3 l.z3) b
  let sum := add448 da cb
  let dif := sub448 da cb
  ⟨mul448 aa bb, mul448 e (add448 aa (mul448 39081 e)), mul448 sum sum, mul448 u (mul448 dif dif)⟩

/-- The ladder over the `n` low bits of a scalar, with the bit before them. -/
def ladder448 (k u : Nat) : Nat → Bool → Ladder → Ladder
  | 0, last, l => l.swap last
  | n + 1, last, l =>
    let b := decide (k / 2 ^ n % 2 = 1)
    ladder448 k u n b ((l.swap (b != last)).double u)

/-- The u-coordinate of base point 5. -/
def base448 : List Byte := leBytes 56 5

/-- X448(k, u), of 56-byte strings. -/
def x448 (k u : List Byte) : List Byte :=
  let e := ofLeBytes k
  let scalar := e % 2 ^ 447 - e % 4 + 2 ^ 447
  let x := ofLeBytes u % p448
  let r := ladder448 scalar x 448 false ⟨1, 0, x, 1⟩
  leBytes 56 (mul448 r.x2 (inv448 r.z2))

/-! Ed448. -/

/-- d = −39081. -/
def d448 : Nat := p448 - 39081

/-- A point as X, Y and Z. -/
structure Point448 where
  x : Nat
  y : Nat
  z : Nat
deriving DecidableEq, Repr

/-- The neutral point, and the base point. -/
def zero448 : Point448 := ⟨0, 1, 1⟩
def gen448 : Point448 :=
  ⟨224580040295924300187604334099896036246789641632564134246125461686950415467406032909029192869357953282578032075146446173674602635247710,
   298819210078481492676017930443930673437544040154080242095928241372331506189835876003536878655418784733982303233503462500531545062832660,
   1⟩

/-- The sum of two points (RFC 8032, 5.2.4). -/
def Point448.plus (s t : Point448) : Point448 :=
  let a := mul448 s.z t.z
  let b := mul448 a a
  let c := mul448 s.x t.x
  let d := mul448 s.y t.y
  let e := mul448 d448 (mul448 c d)
  let f := sub448 b e
  let g := add448 b e
  let h := mul448 (add448 s.x s.y) (add448 t.x t.y)
  ⟨mul448 a (mul448 f (sub448 (sub448 h c) d)), mul448 a (mul448 g (sub448 d c)), mul448 f g⟩

/-- A multiple of a point: the `n` low bits of k remain. -/
def times448 (k : Nat) (t : Point448) : Nat → Point448 → Point448
  | 0, acc => acc
  | n + 1, acc =>
    let two := acc.plus acc
    times448 k t n (if k / 2 ^ n % 2 = 1 then two.plus t else two)

/-- k times a point. -/
def Point448.times (t : Point448) (k : Nat) : Point448 := times448 k t 456 zero448

/-- Two points are the same. -/
def Point448.same (s t : Point448) : Bool := mul448 s.x t.z == mul448 t.x s.z && mul448 s.y t.z == mul448 t.y s.z

/-- A point encoded: y, and the low bit of x above it. -/
def Point448.encode (t : Point448) : List Byte :=
  let zi := inv448 t.z
  leBytes 57 (mul448 t.y zi + 2 ^ 455 * (mul448 t.x zi % 2))

/-- A point decoded (RFC 8032, 5.2.3), if it is one. -/
def decode448 (bs : List Byte) : Option Point448 :=
  let v := ofLeBytes bs
  let y := v % 2 ^ 455
  let sign := v / 2 ^ 455 % 2
  let u := sub448 (mul448 y y) 1
  let w := sub448 (mul448 d448 (mul448 y y)) 1
  let u3 := mul448 u (mul448 u u)
  let x := mul448 (mul448 u3 w) (pow448 (mul448 (mul448 u3 (mul448 u u)) (mul448 w (mul448 w w))) ((p448 - 3) / 4) 448 1)
  if bs.length ≠ 57 ∨ p448 ≤ y ∨ mul448 w (mul448 x x) ≠ u ∨ (x = 0 ∧ sign = 1) then none
  else some ⟨if x % 2 = sign then x else sub448 0 x, y, 1⟩

/-- The scalar and the prefix of a 57-byte private key. -/
def edSecret (key : List Byte) : Nat × List Byte :=
  let h := shake256 key 114
  let e := ofLeBytes (h.take 56)
  (e % 2 ^ 447 - e % 4 + 2 ^ 447, h.drop 57)

/-- The public key of a private key. -/
def edPublic (key : List Byte) : List Byte := (gen448.times (edSecret key).1).encode

/-- dom4 of Ed448ph with a context. -/
def edDomain (context : String) : List Byte :=
  ascii "SigEd448" ++ leBytes 1 1 ++ leBytes 1 (ascii context).length ++ ascii context

/-- A hash of RFC 8032 as a scalar. -/
def edScalar (context : String) (m : List Byte) : Nat := ofLeBytes (shake256 (edDomain context ++ m) 114) % order448

/-- The Ed448ph signature over a 64-byte prehash under a context. -/
def edSign (key : List Byte) (context : String) (digest : List Byte) : List Byte :=
  let (a, pre) := edSecret key
  let pub := (gen448.times a).encode
  let r := edScalar context (pre ++ digest)
  let rEnc := (gen448.times r).encode
  let k := edScalar context (rEnc ++ pub ++ digest)
  rEnc ++ leBytes 57 ((r + k * a) % order448)

/-- An Ed448ph signature over a 64-byte prehash verifies under a public key and a context. -/
def edVerify (pub : List Byte) (context : String) (digest signature : List Byte) : Bool :=
  let s := ofLeBytes (signature.drop 57)
  match decode448 pub, decode448 (signature.take 57) with
  | some a, some r =>
    let k := edScalar context (signature.take 57 ++ pub ++ digest)
    signature.length == 114 && decide (s < order448) &&
      ((gen448.times s).times 4).same ((r.plus (a.times k)).times 4)
  | _, _ => false

end Sys2Proof.Machine
end

