-- ==== Sys2Proof/Machine/Clock.lean ====
section
/-! DEFINITION. Calendar time and the clock monitor (R31, R32, R406, R437, R438): steps, writes in flight, discipline,
clocks that stop and return. -/

namespace Sys2Proof.Machine

/-- Calendar time set; a change of more than 1 s sets STEPPED, and a backward one marks the live slice (R406, R438). -/
def State.setCal (s : State) (t : Nat) : State :=
  let s1 : State := { s with cal := t }
  if t ≤ s.cal + cycPerS ∧ s.cal ≤ t + cycPerS then s1
  else
    let s2 := s1.wr CP_TIME_CTL_STEPPED 1
    if t < s.cal then { s2 with gleaner := { s2.gleaner with liveStep := true } } else s2

/-- A time sent to the always-on count (R32, R438): it lands after 2 SYS and 4 RTC cycles, 122.1 µs. -/
def State.sendTime (s : State) (t : Nat) : State :=
  { (s.wr CP_TIME_CTL_TIME_BUSY 1) with calSet := some (t, s.now + 146487) }

/-- TIME_SET_LANDED (R32, R438): the write in flight lands and TIME_BUSY clears. -/
def execTimeSetLanded (s : State) : Out :=
  .next (
    match s.calSet with
    | none => s
    | some (t, due) =>
      if s.now < due then s
      else ({ (s.wr CP_TIME_CTL_TIME_BUSY 0) with calSet := none }).setCal t)

/-- A correction that the discipline makes (R438): by at most 1 s in place, or by a step through the path of SET. -/
def State.discipline (s : State) (correction : Int) : State :=
  let t := ((s.cal : Int) + correction).toNat
  if correction.natAbs ≤ cycPerS then { s with cal := t } else s.sendTime t

/-- PPS_IN has been seen within the last 2 s (the model's reading of a valid 1PPS input). -/
def State.ppsValid (s : State) : Bool :=
  match s.field.ppsAt with
  | some t => decide (s.now ≤ t + 2 * cycPerS)
  | none => false

/-- PPS_EDGE (R286, R429): a rising edge disciplines calendar time, before any time receiver. -/
def execPpsEdge (correction : Int) (s : State) : Out :=
  .next (({ (s.wr CP_TIME_CTL_SOURCE 2) with field := { s.field with ppsAt := some s.now } }).discipline correction)

/-- The clock domains of R27 in order; 0 SYS never stops. -/
def State.clockFlag (s : State) (d : Nat) (on : Bool) : State :=
  let v := s.rd CP_CLK_STAT_STOPPED
  s.wr CP_CLK_STAT_STOPPED (putBits v d d (b2n on))

/-- A domain's clock is found stopped or absent. -/
def State.stopClock (s : State) (d : Nat) : State :=
  (s.clockFlag d true).wr CP_CLK_STAT_SEEN (s.rd CP_CLK_STAT_SEEN ||| 2 ^ d)

/-- The clock of a domain is stopped or absent (R31). -/
def State.clockStopped (s : State) (d : Nat) : Bool := bitOf (s.rd CP_CLK_STAT_STOPPED) d

end Sys2Proof.Machine
end

