-- ==== Sys2Proof/Machine/Mailbox.lean ====
section
/-! DEFINITION. The mailboxes of "Host Link and Mailboxes" (R104 to R107): channels, posts, pops and the reset of an
end. -/

namespace Sys2Proof.Machine

/-- The block code of a write by a master that is not the end it should be (R105). -/
def E_WRONG_END : Nat := 0x10

/-- One word mailbox or one direction of a queue channel: its DATA and status registers, its ends (R104), and the
vectors that its filling and its emptying raise (R100): function and vector. -/
structure MbDir where
  data : Nat
  stat : Nat
  queue : Bool
  sender : Nat
  receiver : Nat
  fillVec : Option (Bool × Nat)
  emptyVec : Option (Bool × Nat)
deriving DecidableEq, Repr

/-- Word mailbox MBW_nn (R104). -/
def mbwDir (n : Nat) : MbDir :=
  let mk (a b : Nat) (f e : Option (Bool × Nat)) : MbDir := ⟨MBW_DATA n, MBW_STAT n, false, a, b, f, e⟩
  if n < 8 then mk mPF0 mSteward none (some (false, 48 + n))
  else if n < 16 then mk mSteward mPF0 (some (false, 32 + (n - 8))) none
  else if n < 24 then mk mPF0 (mPassCore ((n - 16) / 2)) none (some (false, 56 + (n - 16)))
  else mk (mPassCore ((n - 24) / 2)) mPF0 (some (false, 40 + (n - 24))) none

/-- Secure word mailbox SMBW_nn (R104). -/
def smbwDir (n : Nat) : MbDir :=
  let mk (a b : Nat) (f e : Option (Bool × Nat)) : MbDir := ⟨SMBW_DATA n, SMBW_STAT n, false, a, b, f, e⟩
  if n < 4 then mk mPF1 mSecurity none (some (true, 12 + n))
  else if n < 8 then mk mSecurity mPF1 (some (true, 8 + (n - 4))) none
  else if n < 12 then mk mSteward mSecurity none none
  else mk mSecurity mSteward none none

/-- The ends X and Y of queue channel QCH_cc (R104). -/
def qchEnds (c : Nat) : Nat × Nat :=
  if c = 7 then (mPF1, mSteward)
  else if 2 ≤ c ∧ c ≤ 5 then (mPF0, mPassCore (c - 2))
  else (mPF0, mSteward)

/-- Direction XY of QCH_cc; its emptying raises PF0 vector 24 + c, or PF1 vector 4 (R100). -/
def qchXY (c : Nat) : MbDir :=
  ⟨QCH_XY_DATA c, QCH_XY_STAT c, true, (qchEnds c).1, (qchEnds c).2, none,
    some (if c = 7 then (true, 4) else (false, 24 + c))⟩

/-- Direction YX of QCH_cc; a word in it raises PF0 vector 16 + c, or PF1 vector 3 (R100). -/
def qchYX (c : Nat) : MbDir :=
  ⟨QCH_YX_DATA c, QCH_YX_STAT c, true, (qchEnds c).2, (qchEnds c).1,
    some (if c = 7 then (true, 3) else (false, 16 + c)), none⟩

/-- Direction XY of secure channel SQCH_cc (R104). -/
def sqchXY (c : Nat) : MbDir :=
  ⟨SQCH_XY_DATA c, SQCH_XY_STAT c, true, (if c = 0 then mPF1 else mSteward), mSecurity, none,
    if c = 0 then some (true, 2) else none⟩

/-- Direction YX of secure channel SQCH_cc (R104). -/
def sqchYX (c : Nat) : MbDir :=
  ⟨SQCH_YX_DATA c, SQCH_YX_STAT c, true, mSecurity, (if c = 0 then mPF1 else mSteward),
    (if c = 0 then some (true, 1) else none), none⟩

/-- Every mailbox and direction. -/
def allDirs : List MbDir :=
  (List.range 32).map mbwDir ++ (List.range 16).map smbwDir ++ (List.range 8).map qchXY ++ (List.range 8).map qchYX ++
    (List.range 2).map sqchXY ++ (List.range 2).map sqchYX

/-- The mailbox or direction whose DATA register lies at an offset. -/
def dirOfData? (off : Nat) : Option MbDir := allDirs.find? (fun d => d.data == off)

/-- The mailbox or direction whose status register lies at an offset. -/
def dirOfStat? (off : Nat) : Option MbDir := allDirs.find? (fun d => d.stat == off)

/-! The status fields, laid out differently for word mailboxes and queue directions. -/

def MbDir.busyCnt (d : MbDir) : Fld := if d.queue then ⟨d.stat, 31, 24⟩ else ⟨d.stat, 31, 16⟩
def MbDir.senderReset (d : MbDir) : Fld := if d.queue then ⟨d.stat, 16, 16⟩ else ⟨d.stat, 8, 8⟩
def MbDir.preReset (d : MbDir) : Fld := ⟨d.stat, 4, 4⟩
def MbDir.full (d : MbDir) : Fld := ⟨d.stat, 0, 0⟩
def MbDir.preLevel (d : MbDir) : Fld := ⟨d.stat, 13, 8⟩

/-- The words waiting in a queue direction, oldest first. -/
def State.waiting (s : State) (data : Nat) : List QWord := smapGet (fun _ => []) s.queues data

/-- The state with the words of a queue direction replaced. -/
def State.setWaiting (s : State) (data : Nat) (ws : List QWord) : State :=
  { s with queues := smapSet (fun _ => []) s.queues data ws }

/-- Raise a vector, if there is one. -/
def State.raiseOpt (s : State) : Option (Bool × Nat) → State
  | none => s
  | some (fn, v) => s.raiseVec fn v

/-- The mailbox has no room for a post (R105). -/
def State.mbBusy (s : State) (d : MbDir) : Bool :=
  if d.queue then decide (32 ≤ (s.waiting d.data).length) else s.rd d.full == 1

/-- A post by the sender into a mailbox with room (R105). -/
def State.mbAccept (s : State) (d : MbDir) (w : Word) : State :=
  if d.queue then
    let ws := s.waiting d.data
    let s1 := s.setWaiting d.data (ws ++ [⟨w, s.now⟩])
    if ws.isEmpty then s1.raiseOpt d.fillVec else s1
  else ((s.setReg d.data w).wr d.full 1).raiseOpt d.fillVec

/-- A post by the sender (R105): accepted, or rejected with E_BUSY and counted. -/
def State.mbPost (s : State) (d : MbDir) (w : Word) : State :=
  if s.mbBusy d then (s.bump d.busyCnt 1).reject d.sender d.data E_BUSY true else s.mbAccept d w

/-- The word a read of DATA shows (R105): the head word of a queue direction, the last word of a word mailbox. -/
def State.mbPeek (s : State) (d : MbDir) : Word :=
  if d.queue then
    match s.waiting d.data with
    | [] => 0
    | w :: _ => w.word
  else s.reg d.data

/-- The mailbox holds an unread word. -/
def State.mbUnread (s : State) (d : MbDir) : Bool :=
  if d.queue then !(s.waiting d.data).isEmpty else s.rd d.full == 1

/-- A pop by the receiver (R105): the word, or 0 with E_STATE logged where there is none. -/
def State.mbPop (s : State) (d : MbDir) : Word × State :=
  if !s.mbUnread d then (0, s.reject d.receiver d.data E_STATE false)
  else if d.queue then
    let ws := (s.waiting d.data).drop 1
    let s1 := (s.setWaiting d.data ws).wr d.preLevel (s.rd d.preLevel - 1)
    (s.mbPeek d, if ws.isEmpty then s1.raiseOpt d.emptyVec else s1)
  else (s.mbPeek d, ((s.wr d.full 0).wr d.preReset 0).raiseOpt d.emptyVec)

/-- One direction at the reset of some ends (R107): words those ends have posted are purged and SENDER_RESET is set;
words posted to them are kept and marked as predating the reset. -/
def State.mbResetDir (s : State) (ends : List Nat) (d : MbDir) : State :=
  let s1 :=
    if ends.contains d.sender then
      ((if d.queue then (s.setWaiting d.data []).wr d.preLevel 0
        else (s.wr d.full 0).wr d.preReset 0).wr d.senderReset 1).raiseOpt d.fillVec
    else s
  if ends.contains d.receiver then
    (if d.queue then s1.wr d.preLevel (s1.waiting d.data).length
     else if s1.rd d.full = 1 then s1.wr d.preReset 1 else s1)
  else s1

/-- MAILBOX_END_RESET: the reset of ends, by master ID (R107). -/
def State.mbEndReset (s : State) (ends : List Nat) : State := s.each allDirs (fun t d => t.mbResetDir ends d)

/-- A receiver has something that woke it: an unread word or a SENDER_RESET (R106, R107). -/
def State.mbWoken (s : State) (receiver : Nat) : Bool :=
  allDirs.any (fun d => d.receiver == receiver && (s.mbUnread d || s.rd d.senderReset == 1))

end Sys2Proof.Machine
end

