-- ==== Sys2Proof/Machine/Float.lean ====
section
/-! DEFINITION. IEEE 754 binary32 and binary64 arithmetic, exact and rounded to nearest with ties to even (R226), with
the flags and NaN rules of R226. A format is given by its precision p and its exponent width eb. -/

namespace Sys2Proof.Machine

/-- A binary floating-point format: precision with the hidden bit, and exponent bits. -/
structure FpFmt where
  p : Nat
  eb : Nat
deriving DecidableEq, Repr

/-- binary64. -/
def fmt64 : FpFmt := ⟨53, 11⟩

/-- binary32. -/
def fmt32 : FpFmt := ⟨24, 8⟩

/-- A decoded floating-point value: a NaN, an infinity, or ± m × 2^e. -/
inductive FpVal where
  | nan
  | inf (neg : Bool)
  | fin (neg : Bool) (m : Nat) (e : Int)
deriving DecidableEq, Repr

/-- The flags an operation raises: overflow, division by zero, invalid operation (R209). -/
structure FpFlags where
  ov : Bool
  dz : Bool
  nv : Bool
deriving DecidableEq, Repr

/-- No flag raised. -/
def fpNone : FpFlags := ⟨false, false, false⟩

/-- The exponent of the smallest subnormal unit. -/
def fpEmin (f : FpFmt) : Int := -((2 ^ (f.eb - 1) : Nat) : Int) - (f.p : Int) + 3

/-- The bits of an infinity. -/
def fpInfBits (f : FpFmt) (neg : Bool) : Nat :=
  b2n neg * 2 ^ (f.p - 1 + f.eb) + (2 ^ f.eb - 1) * 2 ^ (f.p - 1)

/-- The default NaN: 0x7FF8_0000_0000_0000 in binary64 (R226). -/
def fpDefaultNan (f : FpFmt) : Nat := (2 ^ f.eb - 1) * 2 ^ (f.p - 1) + 2 ^ (f.p - 2)

/-- Decode the bits of a value. -/
def fpDecode (f : FpFmt) (bits : Nat) : FpVal :=
  let man := bits % 2 ^ (f.p - 1)
  let ex := (bits / 2 ^ (f.p - 1)) % 2 ^ f.eb
  let neg := bitOf bits (f.p - 1 + f.eb)
  if ex = 2 ^ f.eb - 1 then (if man = 0 then .inf neg else .nan)
  else if ex = 0 then .fin neg man (fpEmin f)
  else .fin neg (man + 2 ^ (f.p - 1)) (fpEmin f + ex - 1)

/-- The bits hold a NaN. -/
def fpIsNan (f : FpFmt) (bits : Nat) : Bool := fpDecode f bits == .nan

/-- The bits hold a signalling NaN. -/
def fpIsSnan (f : FpFmt) (bits : Nat) : Bool := fpIsNan f bits && !bitOf bits (f.p - 2)

/-- The bits hold a finite value. -/
def fpFinite (f : FpFmt) (bits : Nat) : Bool :=
  match fpDecode f bits with
  | .fin _ _ _ => true
  | _ => false

/-- The bits hold a subnormal, non-zero value. -/
def fpSubnormal (f : FpFmt) (bits : Nat) : Bool :=
  (bits / 2 ^ (f.p - 1)) % 2 ^ f.eb == 0 && bits % 2 ^ (f.p - 1) != 0

/-- A NaN with its quiet bit set. -/
def fpQuiet (f : FpFmt) (bits : Nat) : Nat := putBits bits (f.p - 2) (f.p - 2) 1

/-- m divided by 2^k, rounded to nearest with ties to even. -/
def roundShift (m k : Nat) : Nat :=
  let q := m / 2 ^ k
  let r := m % 2 ^ k
  if k = 0 then m
  else if r > 2 ^ (k - 1) || (r == 2 ^ (k - 1) && q % 2 == 1) then q + 1 else q

/-- The number of bits of m. -/
def bitLen (m : Nat) : Nat := if m = 0 then 0 else m.log2 + 1

/-- Round ± m × 2^e to the format; the flag says that it overflowed to infinity. -/
def fpRound (f : FpFmt) (neg : Bool) (m : Nat) (e : Int) : Nat × Bool :=
  let sbit := b2n neg * 2 ^ (f.p - 1 + f.eb)
  if m = 0 then (sbit, false)
  else
    let q : Int := max (e + (bitLen m : Nat) - (f.p : Nat)) (fpEmin f)
    let m' := if q ≤ e then m * 2 ^ (e - q).toNat else roundShift m (q - e).toNat
    let body := if m' < 2 ^ (f.p - 1) then m'
      else ((q - fpEmin f).toNat + 1) * 2 ^ (f.p - 1) + (m' - 2 ^ (f.p - 1))
    if body ≥ (2 ^ f.eb - 1) * 2 ^ (f.p - 1) then (fpInfBits f neg, true) else (sbit + body, false)

/-- The result of an operation that met a NaN operand: that NaN quietened, the left one where both are (R226). -/
def fpNanResult (f : FpFmt) (a b : Nat) : Nat × FpFlags :=
  ((if fpIsNan f a then fpQuiet f a else fpQuiet f b), { fpNone with nv := fpIsSnan f a || fpIsSnan f b })

/-- An invalid operation without a NaN operand (R226). -/
def fpInvalid (f : FpFmt) : Nat × FpFlags := (fpDefaultNan f, { fpNone with nv := true })

/-- A rounded finite result with its overflow flag. -/
def fpResult (f : FpFmt) (neg : Bool) (m : Nat) (e : Int) : Nat × FpFlags :=
  ((fpRound f neg m e).1, { fpNone with ov := (fpRound f neg m e).2 })

/-- ± m as an integer. -/
def signedMag (neg : Bool) (m : Nat) : Int := if neg then -(m : Int) else m

/-- Sum (R226). -/
def fpAdd (f : FpFmt) (a b : Nat) : Nat × FpFlags :=
  match fpDecode f a, fpDecode f b with
  | .nan, _ => fpNanResult f a b
  | _, .nan => fpNanResult f a b
  | .inf n1, .inf n2 => if n1 = n2 then (fpInfBits f n1, fpNone) else fpInvalid f
  | .inf n1, .fin _ _ _ => (fpInfBits f n1, fpNone)
  | .fin _ _ _, .inf n2 => (fpInfBits f n2, fpNone)
  | .fin n1 m1 e1, .fin n2 m2 e2 =>
    let e := min e1 e2
    let t : Int := signedMag n1 (m1 * 2 ^ (e1 - e).toNat) + signedMag n2 (m2 * 2 ^ (e2 - e).toNat)
    if t = 0 then fpResult f (n1 && n2) 0 e
    else fpResult f (decide (t < 0)) t.natAbs e

/-- The sign bit inverted (R225, FNEG). -/
def fpNeg (f : FpFmt) (a : Nat) : Nat :=
  putBits a (f.p - 1 + f.eb) (f.p - 1 + f.eb) (b2n (!bitOf a (f.p - 1 + f.eb)))

/-- The sign bit cleared (R225, FABS). -/
def fpAbs (f : FpFmt) (a : Nat) : Nat := putBits a (f.p - 1 + f.eb) (f.p - 1 + f.eb) 0

/-- Difference (R226): a NaN operand is returned with its own sign. -/
def fpSub (f : FpFmt) (a b : Nat) : Nat × FpFlags :=
  if fpIsNan f a || fpIsNan f b then fpNanResult f a b else fpAdd f a (fpNeg f b)

/-- Product (R226). -/
def fpMul (f : FpFmt) (a b : Nat) : Nat × FpFlags :=
  match fpDecode f a, fpDecode f b with
  | .nan, _ => fpNanResult f a b
  | _, .nan => fpNanResult f a b
  | .inf n1, .inf n2 => (fpInfBits f (n1 != n2), fpNone)
  | .inf n1, .fin n2 m2 _ => if m2 = 0 then fpInvalid f else (fpInfBits f (n1 != n2), fpNone)
  | .fin n1 m1 _, .inf n2 => if m1 = 0 then fpInvalid f else (fpInfBits f (n1 != n2), fpNone)
  | .fin n1 m1 e1, .fin n2 m2 e2 => fpResult f (n1 != n2) (m1 * m2) (e1 + e2)

/-- Quotient (R226): the quotient is taken to more bits than the format holds, with the remainder jammed. -/
def fpDiv (f : FpFmt) (a b : Nat) : Nat × FpFlags :=
  match fpDecode f a, fpDecode f b with
  | .nan, _ => fpNanResult f a b
  | _, .nan => fpNanResult f a b
  | .inf _, .inf _ => fpInvalid f
  | .inf n1, .fin n2 _ _ => (fpInfBits f (n1 != n2), fpNone)
  | .fin n1 _ e1, .inf n2 => fpResult f (n1 != n2) 0 e1
  | .fin n1 m1 e1, .fin n2 m2 e2 =>
    if m2 = 0 then
      if m1 = 0 then fpInvalid f else (fpInfBits f (n1 != n2), { fpNone with dz := true })
    else
      let k := 2 * f.p + 8
      let q := m1 * 2 ^ k / m2
      let r := m1 * 2 ^ k % m2
      fpResult f (n1 != n2) (2 * q + b2n (r != 0)) (e1 - e2 - k - 1)

/-- One bit of an integer square root, from the highest down. -/
def isqrtGo : Nat → Nat → Nat → Nat
  | 0, _, r => r
  | k + 1, n, r => if (r + 2 ^ k) * (r + 2 ^ k) ≤ n then isqrtGo k n (r + 2 ^ k) else isqrtGo k n r

/-- The integer part of a square root. -/
def isqrt (n : Nat) : Nat := isqrtGo (bitLen n / 2 + 1) n 0

/-- Square root (R226): a value below −0 is invalid. -/
def fpSqrt (f : FpFmt) (a : Nat) : Nat × FpFlags :=
  match fpDecode f a with
  | .nan => fpNanResult f a a
  | .inf n => if n then fpInvalid f else (fpInfBits f false, fpNone)
  | .fin n m e =>
    if m = 0 then (a, fpNone)
    else if n then fpInvalid f
    else
      let k : Nat := 2 * f.p + 8 + (if (e % 2 : Int) = 0 then 0 else 1)
      let w := m * 2 ^ k
      let r := isqrt w
      fpResult f false (2 * r + b2n (r * r != w)) ((e - k) / 2 - 1)

/-- The order of two values that are not NaNs; zeros of either sign are equal. -/
def fpCmp (f : FpFmt) (a b : Nat) : Ordering :=
  match fpDecode f a, fpDecode f b with
  | .inf n1, .inf n2 => if n1 = n2 then .eq else if n1 then .lt else .gt
  | .inf n1, _ => if n1 then .lt else .gt
  | _, .inf n2 => if n2 then .gt else .lt
  | .fin n1 m1 e1, .fin n2 m2 e2 =>
    let e := min e1 e2
    compare (signedMag n1 (m1 * 2 ^ (e1 - e).toNat)) (signedMag n2 (m2 * 2 ^ (e2 - e).toNat))
  | _, _ => .eq

/-- a < b; false where either is a NaN. -/
def fpLt (f : FpFmt) (a b : Nat) : Bool := !fpIsNan f a && !fpIsNan f b && fpCmp f a b == .lt

/-- a ≤ b; false where either is a NaN. -/
def fpLe (f : FpFmt) (a b : Nat) : Bool := !fpIsNan f a && !fpIsNan f b && fpCmp f a b != .gt

/-- Minimum or maximum (R226). -/
def fpMinMax (f : FpFmt) (wantMax : Bool) (a b : Nat) : Nat × FpFlags :=
  let fl := { fpNone with nv := fpIsSnan f a || fpIsSnan f b }
  if fpIsNan f a && fpIsNan f b then (fpQuiet f a, fl)
  else if fpIsNan f a then (b, fl)
  else if fpIsNan f b then (a, fl)
  else match fpCmp f a b with
    | .lt => (if wantMax then b else a, fl)
    | .gt => (if wantMax then a else b, fl)
    | .eq =>
      let sa := bitOf a (f.p - 1 + f.eb)
      let sb := bitOf b (f.p - 1 + f.eb)
      if sa = sb then (a, fl)
      else if wantMax then (if sa then b else a, fl)
      else (if sa then a else b, fl)

/-- A signed integer in the format, rounded. -/
def fpOfInt (f : FpFmt) (i : Int) : Nat := (fpRound f (decide (i < 0)) i.natAbs 0).1

/-- An integer division by 2^k rounded to nearest with ties to even, or an exact product by 2^k. -/
def fpIntPart (neg : Bool) (m : Nat) (e : Int) : Int :=
  if 0 ≤ e then signedMag neg (m * 2 ^ e.toNat) else signedMag neg (roundShift m (-e).toNat)

/-- Conversion to a w-bit signed integer (R226, FTOI): 0 for a NaN, saturating; both set NV. -/
def fpToInt (f : FpFmt) (w : Nat) (a : Nat) : Int × Bool :=
  match fpDecode f a with
  | .nan => (0, true)
  | .inf n => ((if n then -(2 ^ (w - 1) : Nat) else (2 ^ (w - 1) : Nat) - 1), true)
  | .fin n m e =>
    let i := fpIntPart n m e
    if clampSigned w i = i then (i, fpIsSnan f a) else (clampSigned w i, true)

/-- binary32 to binary64, exactly; a NaN keeps its sign, quiet bit and payload. -/
def f32to64 (a : Nat) : Nat :=
  match fpDecode fmt32 a with
  | .nan => b2n (bitOf a 31) * 2 ^ 63 + 0x7FF * 2 ^ 52 + (a % 2 ^ 23) * 2 ^ 29
  | .inf n => fpInfBits fmt64 n
  | .fin n m e => (fpRound fmt64 n m e).1

/-- binary64 to binary32, rounded; a NaN is quietened and its payload cut. -/
def f64to32 (a : Nat) : Nat × FpFlags :=
  match fpDecode fmt64 a with
  | .nan => (fpQuiet fmt32 (b2n (bitOf a 63) * 2 ^ 31 + 0xFF * 2 ^ 23 + (a % 2 ^ 52) / 2 ^ 29),
      { fpNone with nv := fpIsSnan fmt64 a })
  | .inf n => (fpInfBits fmt32 n, fpNone)
  | .fin n m e => fpResult fmt32 n m e

/-- The exact rational value of finite bits, 0 otherwise. -/
def fpToRat (f : FpFmt) (a : Nat) : Rat :=
  match fpDecode f a with
  | .fin n m e =>
    if 0 ≤ e then ((signedMag n (m * 2 ^ e.toNat) : Int) : Rat)
    else mkRat (signedMag n m) (2 ^ (-e).toNat)
  | _ => 0

/-- An exact rational rounded to the format. -/
def fpOfRat (f : FpFmt) (r : Rat) : Nat :=
  let k := 2 * f.p + 8 + bitLen r.den
  let w := r.num.natAbs * 2 ^ k
  (fpRound f (decide (r < 0)) (2 * (w / r.den) + b2n (w % r.den != 0)) (-(k : Int) - 1)).1

end Sys2Proof.Machine
end

