-- ==== Sys2Proof/Machine/Flags.lean ====
section
/-! DEFINITION. The flag computations of the pass core (R226): OV, DZ and NV are sticky and never fault. -/

namespace Sys2Proof.Machine

/-- Flags joined into a core's sticky flags (R209, R226). -/
def PassCore.raiseFlags (c : PassCore) (f : FpFlags) : PassCore :=
  { c with ov := c.ov || f.ov, dz := c.dz || f.dz, nv := c.nv || f.nv }

/-- OV raised where a condition holds. -/
def flagOv (b : Bool) : FpFlags := ⟨b, false, false⟩

/-- DZ raised where a condition holds. -/
def flagDz (b : Bool) : FpFlags := ⟨false, b, false⟩

/-- NV raised where a condition holds. -/
def flagNv (b : Bool) : FpFlags := ⟨false, false, b⟩

/-- An exact integer result kept modulo 2⁶⁴, with OV where the signed result does not fit (R226). -/
def wrapFlag (i : Int) : DWord × FpFlags :=
  (BitVec.ofInt 64 i, flagOv (decide (i < -(2 ^ 63) ∨ 2 ^ 63 ≤ i)))

/-- An exact integer result saturated at −2⁶³ and 2⁶³ − 1, with OV where it saturates (R225, R226). -/
def satFlag (i : Int) : DWord × FpFlags :=
  (BitVec.ofInt 64 (clampSigned 64 i), flagOv (decide (clampSigned 64 i ≠ i)))

/-- Signed division truncated toward zero (R225, R226): a divisor of 0 gives 0 and DZ, −2⁶³ / −1 wraps and sets OV. -/
def divFlag (a b : DWord) : DWord × FpFlags :=
  if b = 0 then (0, flagDz true) else wrapFlag (Int.tdiv a.toInt b.toInt)

/-- Signed remainder with the sign of the dividend (R225, R226): a divisor of 0 gives 0 and DZ. -/
def modFlag (a b : DWord) : DWord × FpFlags :=
  if b = 0 then (0, flagDz true) else (BitVec.ofInt 64 (Int.tmod a.toInt b.toInt), fpNone)

/-- The three flags as FLG and PASS_CORE_STAT.FLAGS give them: [0] OV, [1] DZ, [2] NV (R228, R244). -/
def PassCore.flagBits (c : PassCore) : Nat := b2n c.ov + 2 * b2n c.dz + 4 * b2n c.nv

end Sys2Proof.Machine
end

