-- ==== Sys2Proof/Machine/Operands.lean ====
section
/-! DEFINITION. The pass cores' operand forms (R209 to R213, R221): where an operand lies, the checks that fault, the
fetch, and the program faults (R242, R243). -/

namespace Sys2Proof.Machine

/-! The PASS block's fault codes (R242, R253). -/

def PF_ADDR : Nat := 0x18
def PF_STACK : Nat := 0x19
def PF_CALL : Nat := 0x1A
def PF_BARRIER : Nat := 0x1B
def PF_ECC : Nat := 0x1C
def UNBALANCED : Nat := 0x1D
def F_WATCHDOG : Nat := 0x1E

/-- A pass core. -/
def State.core (s : State) (n : Fin 4) : PassCore :=
  if n = 0 then s.pass.core0 else if n = 1 then s.pass.core1 else if n = 2 then s.pass.core2 else s.pass.core3

/-- The state with a pass core replaced. -/
def State.setCore (s : State) (n : Fin 4) (c : PassCore) : State :=
  if n = 0 then { s with pass := { s.pass with core0 := c } }
  else if n = 1 then { s with pass := { s.pass with core1 := c } }
  else if n = 2 then { s with pass := { s.pass with core2 := c } }
  else { s with pass := { s.pass with core3 := c } }

/-! PASS_CORE_STAT.STATE (R244). -/

def coreIdle : Nat := 0
def coreRunning : Nat := 1
def coreWaiting : Nat := 2
def coreHalted : Nat := 3

/-- The bank in use (R211, R255). -/
def State.bank (s : State) : Nat := s.rd PASS_PROG_BANK

/-! Bases in pass-core memory (R211, R255) and image SRAM (R35). -/

def codeBank (b : Nat) : Nat := aPassMem + 0x300000 * b
def constBank (b : Nat) : Nat := aPassMem + 0x600000 + 0x100000 * b
def areaM : Nat := aPassMem + 0x800000
def areaK : Nat := aPassMem + 0xA00000
def areaT : Nat := aPassMem + 0xC00000
def areaN : Nat := aPassMem + 0xC20000
def areaE : Nat := aPassMem + 0xC30000
def areaL : Nat := aPassMem + 0xC40000
def libCodeBank (b : Nat) : Nat := aPassMem + 0xC80000 + 0x40000 * b
def descBank (b : Nat) : Nat := aPassMem + 0xD00000 + 0x20000 * b
def instBank (b : Nat) : Nat := aPassMem + 0xD40000 + 0x160000 * b

/-- The strip that a core runs, if the program in force has one for it (R235). -/
def State.strip? (s : State) (n : Fin 4) : Option Strip := s.pass.prog.bind (fun p => p.strips[n.val]?)

/-- The function-block frame a core is in, if it runs a block (R259). -/
def PassCore.inFb (c : PassCore) : Option FbFrame := (c.calls.find? (fun e => e.fb.isSome)).bind (fun e => e.fb)

/-- The descriptor of an instance's block in the program in force. -/
def State.fbBlock? (s : State) (inst : Nat) : Option FbBlock :=
  s.pass.prog.bind (fun p => (p.insts[inst]?).bind (fun i => p.blocks[i.block]?))

/-- The bytes that the instances before one take (R257). -/
def instOffset (p : Program) (inst : Nat) : Nat :=
  ((p.insts.take inst).map (fun i => 16 + ((p.blocks[i.block]?).map FbBlock.bodyLen).getD 0)).foldl (· + ·) 0

/-- The address of instance n in a bank (R257). -/
def instAddr (p : Program) (bank inst : Nat) : Nat := instBank bank + instOffset p inst

/-- What an access of a bit or word instruction may do to an area (R212). -/
inductive MemUse where
  | read
  | write
deriving DecidableEq, Repr

/-- A share of an operand area: where byte 0 of the area lies, and the bytes of the area that the strip owns. -/
structure Share where
  origin : Nat
  first : Nat
  len : Nat
deriving DecidableEq, Repr

/-- z bytes from a byte of the area lie wholly inside the share (R213). -/
def Share.holds (h : Share) (off z : Nat) : Bool := decide (h.first ≤ off) && decide (off + z ≤ h.first + h.len)

/-- The share that an area code names for a core (R212, R258); none where the code is unassigned or the use is not
permitted. Offsets into M, K and C count from byte 0 of the area (R213, R239); area L is the strip's own 64 KiB (R212);
inside a function block only area D, the instance's body, is reachable. -/
def State.share? (s : State) (n : Fin 4) (use : MemUse) (area : Nat) : Option Share :=
  match s.pass.prog, s.strip? n with
  | some p, some st =>
    match (s.core n).inFb with
    | some fb =>
      if area = 0x9 then (s.fbBlock? fb.inst).map (fun b => ⟨instAddr p s.bank fb.inst + 16, 0, b.bodyLen⟩) else none
    | none =>
      if area = 0x0 ∧ use = .read then some ⟨s.inBase, 0, 0x400000⟩
      else if area = 0x1 then some ⟨s.outBase, 0, 0x200000⟩
      else if area = 0x2 then some ⟨areaM, st.mBase, st.mLen⟩
      else if area = 0x3 then some ⟨areaK, st.kBase, st.kLen⟩
      else if area = 0x4 then some ⟨areaL + 0x10000 * n.val, 0, 0x10000⟩
      else if area = 0x5 ∧ use = .read then some ⟨constBank s.bank, st.constBase, st.constLen⟩
      else none
  | _, _ => none

/-- The value of a base register; B0 reads 0 (R209). -/
def PassCore.base (c : PassCore) (n : BitVec 2) : Nat :=
  if n = 1 then c.b1.toNat else if n = 2 then c.b2.toNat else if n = 3 then c.b3.toNat else 0

/-- A base register set; B0 is never written (R224). -/
def PassCore.setBase (c : PassCore) (n : BitVec 2) (v : BitVec 22) : PassCore :=
  if n = 1 then { c with b1 := v } else if n = 2 then { c with b2 := v } else if n = 3 then { c with b3 := v } else c

/-- An address lies in pass-core memory, which SECDED protects (R211). -/
def inPassMem (a : Nat) : Bool := decide (aPassMem ≤ a) && decide (a < aPassMem + 0x1000000)

/-- A read of n bytes at an address meets an uncorrectable word of pass-core memory (R242). -/
def State.eccFault (s : State) (a n : Nat) : Bool := inPassMem a && s.anyBad a n

/-- Where a word operand of z bytes lies (R213): its address, or the fault of R242. -/
def State.wordAddr (s : State) (n : Fin 4) (use : MemUse) (z : Nat) (x : MemOp) : Except Nat Nat :=
  match s.share? n use x.area.toNat with
  | none => .error PF_ADDR
  | some h =>
    let off := (s.core n).base x.base + z * x.off.toNat
    if h.holds off z && off % z == 0 then
      -- a read, and a store narrower than 64 bits, meet an uncorrectable word (R211)
      if s.eccFault (h.origin + off) z && !(use == .write && z == 8) then .error PF_ECC else .ok (h.origin + off)
    else .error PF_ADDR

/-- Where a bit operand lies (R213): its byte and the bit in it, or the fault of R242. -/
def State.bitAddr (s : State) (n : Fin 4) (use : MemUse) (x : MemOp) : Except Nat (Nat × Nat) :=
  match s.share? n use x.area.toNat with
  | none => .error PF_ADDR
  | some h =>
    let bit := 8 * (s.core n).base x.base + x.off.toNat
    if h.holds (bit / 8) 1 then
      if s.eccFault (h.origin + bit / 8) 1 then .error PF_ECC else .ok (h.origin + bit / 8, bit % 8)
    else .error PF_ADDR

/-- A bit of memory. -/
def State.bit (s : State) (a n : Nat) : Bool := bitOf (s.byte a).toNat n

/-- A bit of memory set; only that bit changes (R237). -/
def State.putBit (s : State) (a n : Nat) (v : Bool) : State :=
  s.putByte a (BitVec.ofNat 8 (Machine.putBits (s.byte a).toNat n n (b2n v)))

/-- The barriers whose mask names a strip (R235). -/
def Program.barriersOf (p : Program) (strip : Nat) : List Nat :=
  (List.range 16).filter (fun b => bitOf ((p.barMask[b]?).getD 0) strip)

/-- The barriers of a core's strip in the program in force. -/
def State.barriers (s : State) (n : Fin 4) : List Nat :=
  match s.pass.prog with
  | some p => p.barriersOf n.val
  | none => []

/-- PASS_PHASE brought up to date with the cores (R244). -/
def State.showCores (s : State) : State :=
  let bitsWhere (f : Nat → Bool) : Nat := ((List.range 4).map (fun n => b2n (f n) * 2 ^ n)).foldl (· + ·) 0
  let st (n : Nat) : Nat := s.rd (PASS_CORE_STAT_STATE n)
  let wait (n : Nat) : Option Nat := (s.core (Fin.ofNat 4 n)).waiting
  let low := ((List.range 4).filterMap wait).foldl min 16
  ((s.wr PASS_PHASE_RUNNING (bitsWhere (fun n => st n == coreRunning || st n == coreWaiting))).wr PASS_PHASE_AT_BAR
    (bitsWhere (fun n => st n == coreWaiting))).wr PASS_PHASE_BAR_LOW (if low = 16 then 0 else low)

/-- PROGRAM_FAULT (R243): the core halts before the instruction changes anything; the first fault is captured in
PASS_FAULT, and the halt counts as arrival at every remaining barrier (R235). -/
def State.progFault (s : State) (n : Fin 4) (code : Nat) : State :=
  let c := s.core n
  let s1 :=
    if s.rd PASS_FAULT_CODE = 0 then
      ((s.wr PASS_FAULT_CODE code).wr PASS_FAULT_CORE n.val).wr PASS_FAULT_PC (c.pc % 2 ^ 20)
    else s.wr PASS_FAULT_OVERRUN 1
  let s2 := (s1.recordFault 2 bPass code n.val).yieldOnFault
  let s3 := (s2.setCore n { c with arrived := s2.barriers n, waiting := none }).wr (PASS_CORE_STAT_STATE n.val) coreHalted
  ({ s3 with pass := { s3.pass with faulted := true } }).showCores

/-- The code that a core fetches from: its base and its length in instructions, the strip's or, inside a function
block, the library's (R235, R255). -/
def State.codeOf (s : State) (n : Fin 4) : Nat × Nat :=
  match s.pass.prog, s.strip? n with
  | some p, some st =>
    if (s.core n).inFb.isSome then (libCodeBank s.bank, p.libLen) else (codeBank s.bank + 4 * st.codeBase, st.codeLen)
  | _, _ => (0, 0)

/-- The word of the instruction that a core fetches. -/
def State.wordAt (s : State) (n : Fin 4) : Nat := s.ld ((s.codeOf n).1 + 4 * (s.core n).pc) 4

/-- A running core whose fetch succeeds executes the instruction that the word at its PC spells (R221), and no other. -/
def State.issues (s : State) (n : Fin 4) (i : Instr) : Bool :=
  s.rd (PASS_CORE_STAT_STATE n.val) != coreRunning || !decide ((s.core n).pc < (s.codeOf n).2) ||
    s.eccFault ((s.codeOf n).1 + 4 * (s.core n).pc) 4 || encodeFurrow i == some (s.wordAt n)

/-- A core's command with what it comes to: nothing where the core's code holds another instruction at its PC. -/
def State.issue (s : State) (n : Fin 4) (i : Instr) (t : State) : State := if s.issues n i then t else s

/-- Run one instruction on a core (R209): nothing happens on a core that runs no strip; a fetch outside the code or of
an uncorrectable word faults (R242); otherwise `f` acts on the core with PC already at the next instruction, or names a
fault, which leaves everything as it was. -/
def State.runOn (s : State) (n : Fin 4) (f : PassCore → Except Nat State) : State :=
  let c := s.core n
  if s.rd (PASS_CORE_STAT_STATE n.val) ≠ coreRunning then s
  else if ¬ c.pc < (s.codeOf n).2 then s.progFault n PF_ADDR
  else if s.eccFault ((s.codeOf n).1 + 4 * c.pc) 4 then s.progFault n PF_ECC
  else
    match f { c with pc := c.pc + 1 } with
    | .ok t => t
    | .error code => s.progFault n code

/-- An instruction that acts on the core alone. -/
def State.runCore (s : State) (n : Fin 4) (f : PassCore → Except Nat PassCore) : State :=
  s.runOn n (fun c => (f c).map (fun c' => s.setCore n c'))

end Sys2Proof.Machine
end

