-- ==== Sys2Proof/Machine/Semaphore.lean ====
section
/-! DEFINITION. The hardware semaphores (R85 to R87). A held semaphore's register keeps STATE 0b01 and its OWNER; what a
read returns in STATE is worked out for the reader. -/

namespace Sys2Proof.Machine

/-- A semaphore is held. -/
def State.semHeld (s : State) (n : Nat) : Bool := s.rd (ACCESS_SEM_STATE n) != 0

/-- The holder of a semaphore. -/
def State.semOwner (s : State) (n : Nat) : Nat := s.rd (ACCESS_SEM_OWNER n)

/-- A semaphore made free, with ABANDONED as given (R85, R86). -/
def State.semFree (s : State) (n : Nat) (abandoned : Bool) : State :=
  ((s.wr (ACCESS_SEM_STATE n) 0).wr (ACCESS_SEM_OWNER n) 0).wr (ACCESS_SEM_ABANDONED n) (b2n abandoned)

/-- A semaphore taken by a master. -/
def State.semTake (s : State) (n master : Nat) : State :=
  ((s.wr (ACCESS_SEM_STATE n) 1).wr (ACCESS_SEM_OWNER n) master).wr (ACCESS_SEM_ABANDONED n) 0

/-- The steward lets semaphore 31 go, if it still holds it (R87): it may have been forced meanwhile. -/
def State.letGo31 (s : State) : State := if s.semHeld 31 && s.semOwner 31 == mSteward then s.semFree 31 false else s

/-- Every semaphore of a master that is reset alone is released with ABANDONED set (R86). -/
def State.semAbandon (s : State) (master : Nat) : State :=
  s.each (List.range 32) (fun t n => if t.semHeld n && t.semOwner n == master then t.semFree n true else t)

/-- What a read of a semaphore by a master shows in STATE, with GRANTED for the read that acquires it (R85). -/
def semWord (state abandoned owner : Nat) : Word := BitVec.ofNat 32 (state * 256 + abandoned * 16 + owner)

/-- A peek by an 8- or 16-bit read (R85): FREE, BUSY with OWNER, or OWN. -/
def State.semPeek (s : State) (n master : Nat) : Word :=
  let ab := s.rd (ACCESS_SEM_ABANDONED n)
  if !s.semHeld n then semWord 0 ab 0
  else if s.semOwner n = master then semWord 3 ab master
  else semWord 2 ab (s.semOwner n)

/-- A full read by a master (R85): it acquires a free semaphore, and reports BUSY or OWN of a held one. -/
def State.semRead (s : State) (n master : Nat) : Word × State :=
  let ab := s.rd (ACCESS_SEM_ABANDONED n)
  if !s.semHeld n then (semWord 1 ab master, s.semTake n master)
  else if s.semOwner n = master then (semWord 3 ab master, s)
  else (semWord 2 ab (s.semOwner n),
    (((s.bump ACCESS_SEM_BUSY_CNT_COUNT 1).wr ACCESS_SEM_LAST_SEM n).wr ACCESS_SEM_LAST_LOSER master).wr
      ACCESS_SEM_LAST_OWNER (s.semOwner n))

end Sys2Proof.Machine
end

