-- ==== Sys2Proof/Machine/Program.lean ====
section
/-! DEFINITION. Program sections: the PASS_PROGRAM section and its checks (R239 to R241), the FB_LIBRARY section
(R256 to R258), the loading of both, and the on-line exchange (R262 to R265). -/

namespace Sys2Proof.Machine

def E_OPCODE : Nat := 0x10
def E_OPERAND : Nat := 0x11
def E_TARGET : Nat := 0x12
def E_BARRIER : Nat := 0x13
def E_ISA : Nat := 0x14

/-- A section or staged payload in memory: the state it is read from, its address and its length. -/
structure Sec where
  s : State
  base : Nat
  len : Nat

/-- A little-endian field of a section. -/
def Sec.u (v : Sec) (off n : Nat) : Nat := v.s.ld (v.base + off) n

/-- n bytes of a section are all 0. -/
def Sec.zero (v : Sec) (off n : Nat) : Bool := (v.s.bytes (v.base + off) n).all (fun b => b == 0)

/-- A list of checks in order: the code of the first that fails. -/
def firstFail : List (Bool × Nat) → Option Nat
  | [] => none
  | (ok, c) :: r => if ok then firstFail r else some c

/-- An opcode's word has an assigned opcode, zero reserved bits and defined selections (R221 to R228, R241 step 4). -/
def opcodeOk (w : Nat) : Bool :=
  let op := w / 2 ^ 24
  let a := w % 2 ^ 24
  let inR (lo hi : Nat) : Bool := decide (lo ≤ op) && decide (op ≤ hi)
  if inR 0x01 0x0C then true
  else if op = 0x10 then decide (a ≤ 6)
  else if inR 0x11 0x16 then a == 0
  else if inR 0x20 0x34 || inR 0x38 0x3A then true
  else if op = 0x3B then decide (a < 2 ^ 16)
  else if inR 0x3C 0x3D then a == 0
  else if op = 0x3E then decide (a < 2 ^ 20)
  else if op = 0x3F then a % 2 ^ 18 == 0 && decide (a < 2 ^ 20)
  else if inR 0x40 0x5A then a == 0
  else if inR 0x60 0x62 then decide (a < 64) && decide (a / 8 ≤ 3) && decide (a % 8 ≤ 5)
  else if inR 0x63 0x64 then decide (a < 64)
  else if inR 0x70 0x73 || op = 0x75 || op = 0x76 then true
  else if op = 0x74 || inR 0x79 0x7A || inR 0x9B 0x9C then a == 0
  else if op = 0x78 then decide (a < 16)
  else if inR 0x80 0x84 || inR 0x88 0x8D || inR 0x90 0x91 then decide (a < 2 ^ 13)
  else if inR 0x98 0x99 then a % 4 == 0
  else if op = 0x9A then decide (a < 1024)
  else false

/-- The opcode is of format B or W (R222, R224). -/
def isMemOp (op : Nat) : Bool := (decide (1 ≤ op) && decide (op ≤ 0x0C)) || (decide (0x20 ≤ op) && decide (op ≤ 0x34))

/-- The opcode stores to its operand. -/
def isStoreOp (op : Nat) : Bool := (decide (9 ≤ op) && decide (op ≤ 0x0C)) || (decide (0x30 ≤ op) && decide (op ≤ 0x34))

/-- The size in bytes of a word opcode's operand (R224). -/
def wordSize (op : Nat) : Nat :=
  if op < 0x30 then
    (match op % 8 with
     | 0 => 1
     | 1 => 1
     | 2 => 2
     | 3 => 2
     | 6 => 8
     | _ => 4)
  else (match op with
     | 0x30 => 1
     | 0x31 => 2
     | 0x33 => 8
     | _ => 4)

/-- The bytes of an area that a strip's share holds, first and length (R212, R213, R239). -/
def shareOf (st : Strip) (area : Nat) : Nat × Nat :=
  match area with
  | 0 => (0, 0x400000)
  | 1 => (0, 0x200000)
  | 2 => (st.mBase, st.mLen)
  | 3 => (st.kBase, st.kLen)
  | 4 => (0, 0x10000)
  | 5 => (st.constBase, st.constLen)
  | _ => (0, 0)

/-- A record index of a timer, counter or edge instruction lies in the strip's share. -/
def recordOk (st : Strip) (op i : Nat) : Bool :=
  let inS (b c : Nat) : Bool := decide (b ≤ i) && decide (i < b + c)
  if op ≤ 0x84 then inS st.tBase st.tCount
  else if op ≤ 0x8D then inS st.nBase st.nCount
  else inS st.eBase st.eCount

/-- The operand of an instruction of a pass program is permitted (R241 step 5, R258). -/
def operandOk (st : Strip) (strip : Nat) (insts : List FbInst) (w : Nat) : Bool :=
  let op := w / 2 ^ 24
  let a := w % 2 ^ 24
  if isMemOp op then
    let area := a / 2 ^ 20
    let off := a % 2 ^ 18
    let permitted := if isStoreOp op then decide (1 ≤ area) && decide (area ≤ 4) else decide (area ≤ 5)
    let h := shareOf st area
    let within (b z : Nat) : Bool := decide (h.1 ≤ b) && decide (b + z ≤ h.1 + h.2)
    let inside :=
      if (a / 2 ^ 18) % 4 ≠ 0 then true
      else if op ≤ 0x0C then within (off / 8) 1
      else within (wordSize op * off) (wordSize op)
    permitted && inside
  else if op = 0x3E || op = 0x3F then (a / 2 ^ 18) % 4 != 0
  else if decide (0x80 ≤ op) && decide (op ≤ 0x91) then recordOk st op a
  else if op = 0x75 then
    match insts[a]? with
    | some i => decide (a < 2 ^ 14) && i.strip == strip
    | none => false
  else true

/-- A jump's target lies in code of a length (R241 step 6). -/
def targetOk (len idx w : Nat) : Bool :=
  let op := w / 2 ^ 24
  if (decide (0x70 ≤ op) && decide (op ≤ 0x73)) || op = 0x76 then
    let t : Int := (idx : Int) + 1 + toSigned 24 (w % 2 ^ 24)
    decide (0 ≤ t) && decide (t < len)
  else true

/-- A BAR names a barrier whose mask includes the strip (R241 step 7). -/
def barOk (masks : List Nat) (strip w : Nat) : Bool :=
  if w / 2 ^ 24 = 0x78 then bitOf ((masks[w % 16]?).getD 0) strip else true

/-- The instruction words of a stretch of code. -/
def Sec.words (v : Sec) (off n : Nat) : List Nat := (List.range n).map (fun i => v.u (off + 4 * i) 4)

/-- The sums of a share before each strip (R239: shares are placed in strip order). -/
def prefixSums : Nat → List Nat → List Nat
  | _, [] => []
  | acc, x :: xs => acc :: prefixSums (acc + x) xs

/-- The offset of strip s's descriptor. -/
def stripDesc (k : Nat) : Nat := 0x20 + 48 * k

/-- The strips of a section, with their shares placed. -/
def Sec.strips (v : Sec) : List Strip :=
  let n := v.u 6 1
  let col (off len : Nat) : List Nat := (List.range n).map (fun k => v.u (stripDesc k + off) len)
  let at_ (xs : List Nat) (k : Nat) : Nat := (xs[k]?).getD 0
  let code := col 4 4
  let cst := col 0x10 4
  let m := col 0x14 4
  let kk := col 0x18 4
  let t := col 0x1C 2
  let nn := col 0x1E 2
  let e := col 0x20 2
  (List.range n).map (fun k =>
    { codeBase := at_ (prefixSums 0 code) k, codeLen := at_ code k, entry := v.u (stripDesc k + 8) 4,
      constBase := at_ (prefixSums 0 cst) k, constLen := at_ cst k, mBase := at_ (prefixSums 0 m) k, mLen := at_ m k,
      kBase := at_ (prefixSums 0 kk) k, kLen := at_ kk k, tBase := at_ (prefixSums 0 t) k, tCount := at_ t k,
      nBase := at_ (prefixSums 0 nn) k, nCount := at_ nn k, eBase := at_ (prefixSums 0 e) k, eCount := at_ e k })

/-- Sum of a list. -/
def sumN (xs : List Nat) : Nat := xs.foldl (· + ·) 0

/-- Header and descriptors of a program section (R241 step 2). -/
def Sec.progHeaderOk (v : Sec) : Bool :=
  let n := v.u 6 1
  let descOk (k : Nat) : Bool :=
    let d := stripDesc k
    let inside (off len : Nat) : Bool := decide (off + len ≤ v.len)
    v.u d 4 % 4 == 0 && decide (1 ≤ v.u (d + 4) 4) && decide (v.u (d + 8) 4 < v.u (d + 4) 4) &&
      v.u (d + 0xC) 4 % 8 == 0 && v.u (d + 0x10) 4 % 64 == 0 && v.u (d + 0x14) 4 % 64 == 0 &&
      v.u (d + 0x18) 4 % 64 == 0 && v.u (d + 0x24) 4 % 8 == 0 && v.u (d + 0x28) 4 % 8 == 0 &&
      v.zero (d + 0x22) 2 && v.zero (d + 0x2C) 4 &&
      inside (v.u d 4) (4 * v.u (d + 4) 4) && inside (v.u (d + 0xC) 4) (v.u (d + 0x10) 4) &&
      inside (v.u (d + 0x24) 4) (v.u (d + 0x28) 4)
  decide (256 ≤ v.len) && v.u 0 4 == 0x57525546 && decide (1 ≤ n) && decide (n ≤ 4) && v.zero 7 1 && v.zero 0xE0 32 &&
    (List.range 16).all (fun b => decide (v.u (0x10 + b) 1 < 16)) && v.zero (stripDesc n) (48 * (4 - n)) &&
    (List.range n).all descOk

/-- The totals over all strips are within the limits of R239. -/
def totalsOk (sts : List Strip) : Bool :=
  let tot (f : Strip → Nat) : Nat := sumN (sts.map f)
  decide (tot Strip.codeLen ≤ 786432) && decide (tot Strip.constLen ≤ 0x100000) && decide (tot Strip.mLen ≤ 0x200000) &&
    decide (tot Strip.kLen ≤ 0x200000) && decide (tot Strip.tCount ≤ 4096) && decide (tot Strip.nCount ≤ 4096) &&
    decide (tot Strip.eCount ≤ 8192)

/-- The record size of an area (R230); 1 where the area is not made of records. -/
def recSize (area : Nat) : Nat := if area = 6 then 32 else if area = 7 then 16 else if area = 8 then 8 else 1

/-- Where the share of a strip begins in an area, and its length, in bytes. -/
def shareBytes (st : Strip) (area : Nat) : Nat × Nat :=
  match area with
  | 2 => (st.mBase, st.mLen)
  | 3 => (st.kBase, st.kLen)
  | 6 => (32 * st.tBase, 32 * st.tCount)
  | 7 => (16 * st.nBase, 16 * st.nCount)
  | 8 => (8 * st.eBase, 8 * st.eCount)
  | _ => (0, 0)

/-- The initial-value records of one block (R240, R241 step 8): none where a record breaks a rule. `fuel` bounds the
number of records. -/
def Sec.initRecs (v : Sec) (st : Strip) : Nat → Nat → Nat → Option (List InitRec)
  | 0, _, left => if left = 0 then some [] else none
  | fuel + 1, off, left =>
    if left = 0 then some []
    else
      let area := v.u off 1
      let o := v.u (off + 4) 4
      let n := v.u (off + 8) 4
      let pad := (8 - n % 8) % 8
      let data := v.s.bytes (v.base + off + 16) n
      let inside := decide (o + n ≤ (shareBytes st area).2)
      let aligned := o % recSize area == 0 && n % recSize area == 0
      let areaOk := area == 2 || area == 3 || area == 6 || area == 7 || area == 8
      let timerOk := area != 6 || (List.range n).all (fun i => decide (i % 32 < 4) || (data[i]?).getD 0 == 0)
      if decide (16 + n + pad ≤ left) && areaOk && v.zero (off + 1) 3 && v.zero (off + 12) 4 &&
          v.zero (off + 16 + n) pad && inside && aligned && timerOk then
        (Sec.initRecs v st fuel (off + 16 + n + pad) (left - (16 + n + pad))).map
          (fun rs => ⟨area, (shareBytes st area).1 + o, data⟩ :: rs)
      else none

/-- The initial-value records of every strip. -/
def Sec.allInits (v : Sec) (sts : List Strip) : Option (List InitRec) :=
  (sts.zipIdx.mapM (fun p =>
    let d := stripDesc p.2
    v.initRecs p.1 (v.u (d + 0x28) 4) (v.u (d + 0x24) 4) (v.u (d + 0x28) 4))).map List.flatten

/-- The initial byte at an offset of an area: the last record that covers it, else 0 (R240). -/
def initByte (rs : List InitRec) (area off : Nat) : Byte :=
  rs.foldl (fun b r =>
    if r.area = area ∧ r.off ≤ off then (r.data[off - r.off]?).getD b else b) 0

/-- A little-endian initial value of an area. -/
def initVal (rs : List InitRec) (area off n : Nat) : Nat :=
  ofLeBytes ((List.range n).map (fun i => initByte rs area (off + i)))

/-- The IDENT of each record of an area. -/
def initIdents (rs : List InitRec) (area count : Nat) : List Nat :=
  (List.range count).map (fun i => initVal rs area (recSize area * i) 4)

/-- No non-zero number occurs twice. -/
def noRepeat : List Nat → Bool
  | [] => true
  | x :: xs => (x == 0 || !xs.contains x) && noRepeat xs

/-- Check a PASS_PROGRAM section in the order of R241 against the library that will be in force with it; the program it
gives, or the code of the first failure. -/
def Sec.program (v : Sec) (blocks : List FbBlock) (insts : List FbInst) (libLen : Nat) : Except Nat Program :=
  if decide (6 ≤ v.len) && v.u 4 2 != 1 then .error E_ISA
  else if !v.progHeaderOk then .error E_RANGE
  else
    let sts := v.strips
    let masks := (List.range 16).map (fun b => v.u (0x10 + b) 1)
    let code (k : Nat) (st : Strip) : List Nat := v.words (v.u (stripDesc k) 4) st.codeLen
    let every (f : Nat → Strip → Nat → Nat → Bool) : Bool :=
      sts.zipIdx.all (fun p => (code p.2 p.1).zipIdx.all (fun w => f p.2 p.1 w.2 w.1))
    match v.allInits sts with
    | inits =>
      let rs := inits.getD []
      let tot (f : Strip → Nat) : Nat := sumN (sts.map f)
      match firstFail [
        (totalsOk sts, E_CAPACITY),
        (every (fun _ _ _ w => opcodeOk w), E_OPCODE),
        (every (fun k st _ w => operandOk st k insts w), E_OPERAND),
        (every (fun _ st i w => targetOk st.codeLen i w), E_TARGET),
        (every (fun k _ _ w => barOk masks k w) && masks.all (fun m => decide (m < 2 ^ sts.length)), E_BARRIER),
        (inits.isSome, E_RANGE),
        (noRepeat (initIdents rs 6 (tot Strip.tCount)) && noRepeat (initIdents rs 7 (tot Strip.nCount)) &&
          noRepeat (initIdents rs 8 (tot Strip.eCount)), E_CONFLICT)] with
      | some c => .error c
      | none => .ok ⟨v.u 8 8, v.u 4 2, sts, masks, rs, blocks, insts, libLen⟩

/-! The FB_LIBRARY section. -/

/-- The opcodes that block code may use (R258). -/
def blockOpcodeOk (w : Nat) : Bool :=
  let op := w / 2 ^ 24
  opcodeOk w && (decide (op ≤ 0x64) || (decide (0x70 ≤ op) && decide (op ≤ 0x74)) || op == 0x76 || op == 0x7A ||
    op == 0x9B || op == 0x9C)

/-- The operands that block code may use: memory only through area D, and never B0 as a target (R224, R258). -/
def blockOperandOk (w : Nat) : Bool :=
  let op := w / 2 ^ 24
  let a := w % 2 ^ 24
  if isMemOp op then a / 2 ^ 20 == 9 else if op = 0x3E || op = 0x3F then (a / 2 ^ 18) % 4 != 0 else true

/-- The descriptors of a library section (R256). -/
def Sec.fbBlocks (v : Sec) : List FbBlock :=
  (List.range (v.u 4 2)).map (fun k =>
    let d := v.u 0x10 4 + 32 * k
    ⟨v.u d 2, v.u (d + 2) 1, v.u (d + 4) 4, v.u (d + 8) 2, v.u (d + 0xA) 2, v.u (d + 0xC) 2, v.u (d + 0xE) 2,
      v.u (d + 0x10) 2, v.s.bytes (v.base + v.u (d + 0x14) 4) (v.u (d + 8) 2)⟩)

/-- The instance entries of a library section (R256). -/
def Sec.fbInsts (v : Sec) : List FbInst :=
  (List.range (v.u 6 2)).map (fun k =>
    let d := v.u 0x14 4 + 8 * k
    ⟨v.u d 4, v.u (d + 4) 2, v.u (d + 6) 1⟩)

/-- Header, descriptors, entries and ranges of a library section (R258 step 1). -/
def Sec.libHeaderOk (v : Sec) : Bool :=
  let nb := v.u 4 2
  let ni := v.u 6 2
  let inside (off len : Nat) : Bool := decide (off + len ≤ v.len)
  let descOk (k : Nat) : Bool :=
    let d := v.u 0x10 4 + 32 * k
    let bl := v.u (d + 8) 2
    v.u d 2 != 0 && v.zero (d + 3) 1 && decide (v.u (d + 4) 4 < v.u 0xC 4) && bl % 8 == 0 && decide (8 ≤ bl) &&
      decide (bl ≤ 4080) && v.u (d + 0xA) 2 % 8 == 0 && v.u (d + 0xC) 2 % 8 == 0 && v.u (d + 0xE) 2 % 8 == 0 &&
      v.u (d + 0x10) 2 % 8 == 0 && decide (v.u (d + 0xA) 2 + v.u (d + 0xC) 2 ≤ bl) &&
      decide (v.u (d + 0xE) 2 + v.u (d + 0x10) 2 ≤ bl) && v.zero (d + 0x12) 2 && v.u (d + 0x14) 4 % 8 == 0 &&
      inside (v.u (d + 0x14) 4) bl && v.zero (d + 0x18) 8
  let instOk (k : Nat) : Bool :=
    let d := v.u 0x14 4 + 8 * k
    v.u d 4 != 0 && decide (v.u (d + 4) 2 < nb) && decide (v.u (d + 6) 1 < 4) && v.zero (d + 7) 1
  decide (64 ≤ v.len) && v.u 0 4 == 0x4B424631 && decide (1 ≤ nb) && v.zero 0x18 40 && v.u 8 4 % 4 == 0 &&
    v.u 0x10 4 % 8 == 0 && v.u 0x14 4 % 8 == 0 && decide (1 ≤ v.u 0xC 4) && inside (v.u 8 4) (4 * v.u 0xC 4) &&
    inside (v.u 0x10 4) (32 * nb) && inside (v.u 0x14 4) (8 * ni) && (List.range nb).all descOk &&
    (List.range ni).all instOk

/-- Check an FB_LIBRARY section in the order of R258: its blocks, instances and code length, or the first failure. -/
def Sec.library (v : Sec) : Except Nat (List FbBlock × List FbInst × Nat) :=
  if !v.libHeaderOk then .error E_RANGE
  else
    let n := v.u 0xC 4
    let blocks := v.fbBlocks
    let insts := v.fbInsts
    let ws := v.words (v.u 8 4) n
    let used := sumN (insts.map (fun i => 16 + ((blocks[i.block]?).map FbBlock.bodyLen).getD 0))
    match firstFail [
      (decide (v.u 4 2 ≤ 256) && decide (v.u 6 2 ≤ 8192) && decide (n ≤ 65536) && decide (used ≤ 1441792), E_CAPACITY),
      (ws.all blockOpcodeOk, E_OPCODE),
      (ws.all blockOperandOk, E_OPERAND),
      (ws.zipIdx.all (fun p => targetOk n p.2 p.1), E_TARGET),
      (noRepeat (insts.map FbInst.ident), E_CONFLICT)] with
    | some c => .error c
    | none => .ok (blocks, insts, n)

/-! Loading. -/

/-- The code and constants of a program section written into a pair of banks (R211, R239). -/
def State.loadCode (s : State) (v : Sec) (p : Program) (bank : Nat) : State :=
  let s0 := (s.clearMem (codeBank bank) 0x300000).clearMem (constBank bank) 0x100000
  (s0.each p.strips.zipIdx (fun t q =>
    let d := stripDesc q.2
    (t.putBytes (codeBank bank + 4 * q.1.codeBase) (v.s.bytes (v.base + v.u d 4) (4 * q.1.codeLen))).putBytes
      (constBank bank + q.1.constBase) (v.s.bytes (v.base + v.u (d + 0xC) 4) q.1.constLen))).healWords
    (codeBank bank) 0x300000 |>.healWords (constBank bank) 0x100000

/-- The code, descriptors and instance table of a library section written into a pair of banks (R255). -/
def State.loadLibrary (s : State) (v : Sec) (bank : Nat) : State :=
  let s1 := (s.clearMem (libCodeBank bank) 0x40000).clearMem (descBank bank) 0x20000
  let s2 := s1.putBytes (libCodeBank bank) (v.s.bytes (v.base + v.u 8 4) (4 * v.u 0xC 4))
  let s3 := s2.putBytes (descBank bank) (v.s.bytes (v.base + v.u 0x10 4) (32 * v.u 4 2))
  ((s3.putBytes (descBank bank + 0x2000) (v.s.bytes (v.base + v.u 0x14 4) (8 * v.u 6 2))).healWords
    (libCodeBank bank) 0x40000).healWords (descBank bank) 0x20000

/-- The library in one pair of banks copied to the other (EXCH_LOAD that keeps the library in force, R261). -/
def State.keepLibrary (s : State) (src dst : Nat) : State :=
  (((s.copyMem (libCodeBank src) (libCodeBank dst) 0x40000).copyMem (descBank src) (descBank dst) 0x20000).healWords
    (libCodeBank dst) 0x40000).healWords (descBank dst) 0x20000

/-- An instance set as at sowing: body from INIT_OFF, FIRST_CALL = 1, LAST_MS = 0 (R257). -/
def State.initInstance (s : State) (p : Program) (bank inst : Nat) : State :=
  match p.insts[inst]? with
  | none => s
  | some i =>
    let a := instAddr p bank inst
    let b := p.blocks[i.block]?
    let s1 := (((s.st a 4 i.ident).st (a + 4) 2 i.block).st (a + 6) 2 1).st (a + 8) 8 0
    (s1.putBytes (a + 16) ((b.map FbBlock.init).getD [])).healWords a (16 + ((b.map FbBlock.bodyLen).getD 0))

/-- Every instance of a program set as at sowing. -/
def State.initInstances (s : State) (p : Program) (bank : Nat) : State :=
  (s.clearMem (instBank bank) 0x160000).each (List.range p.insts.length) (fun t k => t.initInstance p bank k)

/-- The base of an operand area with initial values (R211). -/
def areaBase (area : Nat) : Nat :=
  if area = 2 then areaM else if area = 3 then areaK else if area = 6 then areaT else if area = 7 then areaN else areaE

/-- The size of an operand area with initial values (R211). -/
def areaSize (area : Nat) : Nat :=
  if area = 2 ∨ area = 3 then 0x200000 else if area = 6 then 0x20000 else 0x10000

/-- An operand area set to its initial values (R240): bytes that no record covers are 0. -/
def State.initArea (s : State) (p : Program) (area : Nat) : State :=
  ((s.clearMem (areaBase area) (areaSize area)).healWords (areaBase area) (areaSize area)).each
    (p.init.filter (fun r => r.area == area)) (fun t r => t.putBytes (areaBase area + r.off) r.data)

/-- What PASS_PROG and PASS_PROG_ID show of the program in force (R244). -/
def State.showProgram (s : State) : State :=
  match s.pass.prog with
  | none => ((s.wr PASS_PROG_ISA 0).wr PASS_PROG_STRIPS 0).wr64 PASS_PROG_ID_LO PASS_PROG_ID_HI 0
  | some p => ((s.wr PASS_PROG_ISA p.isa).wr PASS_PROG_STRIPS p.strips.length).wr64 PASS_PROG_ID_LO PASS_PROG_ID_HI p.progId

/-- What the PASS_EXCH, PASS_STAGED and PASS_KEPT registers show (chapter 10, Registers). -/
def State.showExchange (s : State) : State :=
  let id (p : Option Program) : Nat := (p.map Program.progId).getD 0
  (((s.wr PASS_EXCH_STAT_STAGED (b2n s.pass.staged.isSome)).wr PASS_EXCH_STAT_REVERT_OK (b2n s.pass.kept.isSome)).wr64
    PASS_STAGED_ID_LO PASS_STAGED_ID_HI (id s.pass.staged)).wr64 PASS_KEPT_ID_LO PASS_KEPT_ID_HI (id s.pass.kept)

/-! Restarting cores (R251). -/

/-- A pass core's state cleared (R209, R210). -/
def clearedCore (gated : Bool) : PassCore := { core0 with gated := gated }

/-- PASS_CORE_RESTART (R251): a core that is not gated is cleared, its semaphores are released, its end of its channels
is reset, and it is gated unless it runs in the next pass; a gated core is left as it is. -/
def State.restartCore (s : State) (n : Fin 4) (runsNext : Bool) : State :=
  if (s.core n).gated then s
  else
    let s1 := (s.semAbandon (mPassCore n.val)).mbEndReset [mPassCore n.val]
    let s2 := (s1.setCore n (clearedCore (!runsNext))).wr (PASS_CORE_STAT_STATE n.val) coreIdle
    (s2.wr (PASS_CORE_STAT_ACTIVE n.val) 0).showCores

/-- The four cores. -/
def allCores : List (Fin 4) := [0, 1, 2, 3]

/-! The exchange (R262 to R265). -/

/-- The records of an area that carry an IDENT: identity and address. -/
def State.idents (s : State) (area count : Nat) : List (Nat × Nat) :=
  ((List.range count).map (fun i => (s.ld (areaBase area + recSize area * i) 4, areaBase area + recSize area * i))).filter
    (fun p => p.1 != 0)

/-- The number of records of an area in a program. -/
def Program.records (p : Program) (area : Nat) : Nat :=
  sumN (p.strips.map (fun st => if area = 6 then st.tCount else if area = 7 then st.nCount else st.eCount))

/-- An unmatched new record as it starts (R263), after its IDENT. -/
def newRecord (p : Program) (area i ms : Nat) : List Byte :=
  if area = 6 then leBytes 4 1 ++ leBytes 4 0 ++ leBytes 4 0 ++ leBytes 8 ms ++ leBytes 8 0
  else if area = 7 then
    leBytes 4 (initVal p.init 7 (16 * i + 4) 4) ++ leBytes 4 (initVal p.init 7 (16 * i + 8) 4) ++ leBytes 4 3
  else leBytes 4 2

/-- The records of an area carried or started by identity (R263); the count of records matched is returned too. -/
def State.carryArea (s old : State) (oldP newP : Program) (area : Nat) : Nat × State :=
  let have_ := old.idents area (oldP.records area)
  let z := recSize area
  let s0 := (s.clearMem (areaBase area) (areaSize area)).healWords (areaBase area) (areaSize area)
  (initIdents newP.init area (newP.records area)).zipIdx.foldl (fun acc q =>
    let a := areaBase area + z * q.2
    match (if q.1 = 0 then none else have_.find? (fun h => h.1 == q.1)) with
    | some h => (acc.1 + 1, acc.2.putBytes a (old.bytes h.2 z))
    | none => (acc.1, (acc.2.st a 4 q.1).putBytes (a + 4) (newRecord newP area q.2 (old.rd64 PASS_MS_LO PASS_MS_HI)))) (0, s0)

/-- The type and the body length of an instance's block. -/
def Program.kindOf (p : Program) (inst : Nat) : Nat × Nat :=
  match (p.insts[inst]?).bind (fun i => p.blocks[i.block]?) with
  | some b => (b.type, b.bodyLen)
  | none => (0, 0)

/-- The instances of the new program carried or started (R263); counts of the matched and of those whose IDENT is known
under a different TYPE or BODY_LEN. IDENT and BLOCK of a header are the new entry's (R257), FLAGS, LAST_MS and the body
are carried (DEDUCED, assumption 7). -/
def State.carryInsts (s : State) (oldP newP : Program) (oldBank newBank : Nat) : Nat × Nat × State :=
  let oldI := oldP.insts.zipIdx
  newP.insts.zipIdx.foldl (fun acc q =>
    match oldI.find? (fun o => o.1.ident == q.1.ident) with
    | none => acc
    | some o =>
      if oldP.kindOf o.2 = newP.kindOf q.2 then
        let a := instAddr newP newBank q.2
        let b := instAddr oldP oldBank o.2
        (acc.1 + 1, acc.2.1,
          (acc.2.2.putBytes (a + 6) (s.bytes (b + 6) 2)).putBytes (a + 8) (s.bytes (b + 8) (8 + (newP.kindOf q.2).2)))
      else (acc.1, acc.2.1 + 1, acc.2.2)) (0, 0, s.initInstances newP newBank)

/-- The total length of M or K over a program's strips. -/
def Program.areaTotal (p : Program) (area : Nat) : Nat :=
  sumN (p.strips.map (fun st => if area = 2 then st.mLen else st.kLen))

/-- The bytes of M or K beyond the old program's total take the new program's initial values (R264). -/
def State.growArea (s : State) (oldP newP : Program) (area : Nat) : State :=
  let lo := oldP.areaTotal area
  let hi := newP.areaTotal area
  if hi ≤ lo then s
  else
    ((s.clearMem (areaBase area + lo) (hi - lo)).healWords (areaBase area + lo) (hi - lo)).each
      (newP.init.filter (fun r => r.area == area && decide (lo < r.off + r.data.length)))
      (fun t r => t.putBytes (areaBase area + max r.off lo) (r.data.drop (lo - r.off)))

/-- The cores of a state gated as the mode and the program of the next pass require (R245, R251): powered in RUN and
HOLD where they have a strip. -/
def State.regate (s : State) : State :=
  s.each allCores (fun t n =>
    t.setCore n { t.core n with gated := t.rd PASS_MODE_STAT_MODE == 0 || (t.strip? n).isNone })

/-- The exchange of R262 to `newP`, which lies in the spare banks; the program replaced becomes the kept one (R265). -/
def State.exchange (s : State) (newP : Program) : State :=
  let oldP := s.pass.prog.getD ⟨0, 1, [], [], [], [], [], 0⟩
  let b0 := s.bank
  let b1 := 1 - b0
  let t := s.carryArea s oldP newP 6
  let n := t.2.carryArea s oldP newP 7
  let e := n.2.carryArea s oldP newP 8
  let i := e.2.carryInsts oldP newP b0 b1
  let s1 := ((i.2.2.growArea oldP newP 2).growArea oldP newP 3).wr PASS_PROG_BANK b1
  let s2 := { s1 with pass := { s1.pass with
    prog := some newP, kept := s.pass.prog, staged := none, exchanged := true } }
  let s3 := ((s2.wr PASS_EXCH_MATCH_MATCHED (t.1 + n.1 + e.1 + i.1)).wr PASS_EXCH_MATCH_KIND_DIFF
    (min i.2.1 8191)).bump PASS_EXCH_STAT_EXCHANGES 1
  let s4 := (s3.setReg PASS_EXCH_PASS (s3.reg GLOBAL_PASS_CNT_LO)).wr PASS_EXCH_STAT_PENDING 0
  let s5 := s4.each (List.range i.2.1) (fun u _ => u.recordFault 0 bPass 0 0)
  let s6 := (s5.showProgram.showExchange).event bPass 0 0
  s6.each allCores (fun u c =>
    if (u.strip? c).isNone then u.restartCore c false
    else if u.rd PASS_MODE_STAT_MODE = 0 then u
    else u.setCore c { u.core c with gated := false })

/-- A program staged in the spare banks by EXCH_LOAD (R261), replacing any staged or kept program. -/
def State.stage (s : State) (v : Sec) (lib : Option Sec) (p : Program) : State :=
  let b := 1 - s.bank
  let s1 := s.loadCode v p b
  let s2 := match lib with
    | some l => s1.loadLibrary l b
    | none => s1.keepLibrary s.bank b
  ({ s2 with pass := { s2.pass with staged := some p, kept := none } }).showExchange

/-- The program sown from an image (R56): placed in bank 0 with every area and instance at its initial values. -/
def State.sowProgram (s : State) (p : Program) : State :=
  let s1 := s.each [2, 3, 6, 7, 8] (fun t a => t.initArea p a)
  let s2 := s1.initInstances p s1.bank
  ({ s2 with pass := { s2.pass with prog := some p, staged := none, kept := none } }).showProgram.showExchange

end Sys2Proof.Machine
end

