-- ==== Sys2Proof/Machine/Atlas.lean ====
section
/-! DEFINITION. The atlas (R112 to R126, R131, R133, R134): banks, records, their checks, sowing and amendments. -/

namespace Sys2Proof.Machine

def E_DANGLING : Nat := 0x10
def E_CIRCUIT : Nat := 0x11
def E_BOUNDARY : Nat := 0x12
def E_POINT : Nat := 0x13

/-! Tables (R112): 0 node, 1 pipe, 2 pump, 3 valve, 4 plant, 5 store, 6 field, 7 fallback block. -/

/-- Bank offset, record size and capacity of a table. -/
def atlasTable (t : Nat) : Nat × Nat × Nat :=
  match t with
  | 0 => (0x10000, 32, 16384)
  | 1 => (0x100000, 64, 24576)
  | 2 => (0x300000, 128, 256)
  | 3 => (0x308000, 32, 1024)
  | 4 => (0x310000, 128, 32)
  | 5 => (0x311000, 128, 16)
  | 6 => (0x312000, 64, 256)
  | _ => (0x340000, 256, 256)

def tNode : Nat := 0
def tPipe : Nat := 1
def tPump : Nat := 2
def tValve : Nat := 3
def tPlant : Nat := 4
def tStore : Nat := 5
def tField : Nat := 6
def tFallback : Nat := 7

/-- Where a bank lies in SDRAM. -/
def bankBase (b : Nat) : Nat := sd (0x400000 * b)

/-- A bank seen in a state. -/
structure Bank where
  s : State
  base : Nat

/-- A bank of a state by its number. -/
def State.atlas (s : State) (b : Nat) : Bank := ⟨s, bankBase b⟩

/-- The bank in force. -/
def State.atlasInForce (s : State) : Bank := s.atlas (s.rd ATLAS_STAT_IN_FORCE)

/-- The address of record i of a table. -/
def Bank.addr (b : Bank) (t i : Nat) : Nat := b.base + (atlasTable t).1 + (atlasTable t).2.1 * i

/-- A little-endian field of a record. -/
def Bank.u (b : Bank) (t i off n : Nat) : Nat := b.s.ld (b.addr t i + off) n

/-- A binary32 field of a record as a rational. -/
def Bank.f (b : Bank) (t i off : Nat) : Rat := fpToRat fmt32 (b.u t i off 4)

/-- A binary64 field of a record as a rational. -/
def Bank.d (b : Bank) (t i off : Nat) : Rat := fpToRat fmt64 (b.u t i off 8)

/-- A record is in use (R117 to R123); a fallback block goes with its field. -/
def Bank.used (b : Bank) (t i : Nat) : Bool :=
  decide (i < (atlasTable t).2.2) &&
  (match t with
   | 0 => b.u t i 0 1 != 0
   | 1 => b.u t i 0 2 != 0xFFFF
   | 2 => b.u t i 0 2 != 0xFFFF
   | 3 => b.u t i 0 2 != 0xFFFF
   | 4 => b.u t i 0 1 != 0
   | 5 => b.u t i 0 1 != 0
   | 6 => b.u t i 0 1 != 0xFF
   | _ => b.u 6 i 0 1 != 0xFF)

/-- The records in use of a table, ascending. -/
def Bank.all (b : Bank) (t : Nat) : List Nat :=
  (b.s.listedRecords (b.base + (atlasTable t).1) (atlasTable t).2.1 (atlasTable t).2.2).filter (b.used t)

/-- Bit n of the FLAGS of a record whose FLAGS byte lies at an offset. -/
def Bank.flag (b : Bank) (t i off n : Nat) : Bool := bitOf (b.u t i off 1) n

/-! The gazetteer's place (R112, R127). -/

/-- The address of a gazetteer entry. -/
def gazAddr (i : Nat) : Nat := sd (0x2000000 + 256 * i)

/-- A field of a gazetteer entry. -/
def State.gz (s : State) (i off n : Nat) : Nat := s.ld (gazAddr i + off) n

/-- A gazetteer entry is in use. -/
def State.gzUsed (s : State) (i : Nat) : Bool := decide (i < 16384) && s.gz i 0 8 != 0

/-- The gazetteer entries in use, ascending. -/
def State.gzAll (s : State) : List Nat := (s.listedRecords (gazAddr 0) 256 16384).filter s.gzUsed

/-! Ranges (R116). -/

/-- A binary32 value is finite, not subnormal, and within limits taken in binary32 (assumption 10). -/
def f32In (bits : Nat) (lo hi : Rat) : Bool :=
  let r (x : Rat) : Rat := fpToRat fmt32 (fpOfRat fmt32 x)
  fpFinite fmt32 bits && !fpSubnormal fmt32 bits && decide (r lo ≤ fpToRat fmt32 bits) &&
    decide (fpToRat fmt32 bits ≤ r hi)

/-- A binary32 value is finite and not subnormal. -/
def f32Ok (bits : Nat) : Bool := fpFinite fmt32 bits && !fpSubnormal fmt32 bits

/-- A binary64 value is finite and not subnormal. -/
def f64Ok (bits : Nat) : Bool := fpFinite fmt64 bits && !fpSubnormal fmt64 bits

/-- A binary32 field within limits. -/
def Bank.fin (b : Bank) (t i off : Nat) (lo hi : Rat) : Bool := f32In (b.u t i off 4) lo hi

/-- Bytes of a record are 0. -/
def Bank.zero (b : Bank) (t i off n : Nat) : Bool := (b.s.bytes (b.addr t i + off) n).all (fun x => x == 0)

/-- A command kind and reference (R119). -/
def cmdOk (kind ref : Nat) : Bool :=
  match kind with
  | 0 => decide (ref < 0x800)
  | 1 => decide (ref < 16)
  | 2 => decide (ref < 32)
  | 3 => ref == 0xFFFF
  | _ => false

/-- A measurement point index lies in the point table, or is none (R134). -/
def pointOk (s : State) (x : Nat) : Bool := x == 0xFFFF || decide (x < s.points.length)

/-- A reference to element i of a table: nothing where it is in use; E_RANGE beyond the capacity, E_CONFLICT where the
element was in use before the change, E_DANGLING otherwise (R134). -/
def Bank.refCodes (b : Bank) (old : Option Bank) (t i : Nat) : List Nat :=
  if (atlasTable t).2.2 ≤ i then [E_RANGE]
  else if b.used t i then []
  else if (old.map (fun o => o.used t i)).getD false then [E_CONFLICT]
  else [E_DANGLING]

/-- The checks of a node (R117, R134). -/
def Bank.nodeCodes (b : Bank) (old : Option Bank) (i : Nat) : List Nat :=
  let ty := b.u 0 i 0 1
  let att := b.u 0 i 6 2
  broken [
    (decide (ty ≤ 5) && decide (b.u 0 i 1 1 ≤ 3) && b.zero 0 i 3 1 && b.zero 0 i 0x1C 4 &&
      (if ty = 2 then decide (b.u 0 i 4 2 < 16384) else b.u 0 i 4 2 == 0xFFFF) &&
      (if ty = 3 then decide (att < 32) else if ty = 4 then decide (att < 16) else att == 0xFFFF) &&
      b.fin 0 i 8 (-500) 5000 && b.fin 0 i 0xC (-100) 4000 && b.fin 0 i 0x10 (-100) 4000 &&
      decide (b.f 0 i 0xC ≤ b.f 0 i 0x10) && b.fin 0 i 0x14 0 180, E_RANGE),
    (pointOk b.s (b.u 0 i 0x18 2) && pointOk b.s (b.u 0 i 0x1A 2), E_POINT)] ++
  b.refCodes old tField (b.u 0 i 2 1) ++
  (if ty = 3 then b.refCodes old tPlant att else []) ++ (if ty = 4 then b.refCodes old tStore att else []) ++
  -- an ATTACH and a plant or store node name each other
  broken [
    (ty != 3 || !b.used tPlant att || b.u tPlant att 2 2 == i || b.u tPlant att 4 2 == i, E_CONFLICT),
    (ty != 4 || !b.used tStore att || b.u tStore att 2 2 == i || b.u tStore att 4 2 == i, E_CONFLICT)]

/-- The fields of a pipe fit its nodes (R125). -/
def Bank.pipePlaced (b : Bank) (i : Nat) : Bool :=
  let fa := b.u 0 (b.u 1 i 0 2) 2 1
  let fb := b.u 0 (b.u 1 i 2 2) 2 1
  let f := b.u 1 i 6 1
  let g := b.u 1 i 7 1
  if fa = fb then !b.flag 1 i 5 1 && f == fa
  else b.flag 1 i 5 1 && ((f == fa && g == fb) || (f == fb && g == fa))

/-- The checks of a pipe (R118, R125, R134). -/
def Bank.pipeCodes (b : Bank) (old : Option Bank) (i : Nat) : List Nat :=
  let a := b.u 1 i 0 2
  let z := b.u 1 i 2 2
  let both := b.used 0 a && b.used 0 z
  broken [
    (a != z && decide (b.u 1 i 4 1 ≤ 3) && decide (b.u 1 i 5 1 < 4) && (!b.flag 1 i 5 1 || b.u 1 i 6 1 != b.u 1 i 7 1) &&
      b.fin 1 i 8 1 10000 && b.fin 1 i 0xC (1 / 100) 2 && b.fin 1 i 0x10 (1 / 1000) 10 && b.fin 1 i 0x14 0 10 &&
      f32Ok (b.u 1 i 0x18 4) && (!both || (decide (b.f 0 a 8 ≤ b.f 1 i 0x18) && decide (b.f 0 z 8 ≤ b.f 1 i 0x18))) &&
      b.fin 1 i 0x1C (-20) 40 && b.fin 1 i 0x20 (-5000) 5000 && b.fin 1 i 0x24 (-5000) 5000 &&
      decide (b.f 1 i 0x20 ≤ b.f 1 i 0x24) && b.fin 1 i 0x28 (1 / 10) 10 && b.fin 1 i 0x2C 0 180 &&
      decide (8 ≤ b.u 1 i 0x30 2) && decide (b.u 1 i 0x30 2 ≤ 4096) && b.zero 1 i 0x32 2 && b.zero 1 i 0x38 8, E_RANGE),
    (!both || (b.u 0 a 1 1 == b.u 1 i 4 1 && b.u 0 z 1 1 == b.u 1 i 4 1), E_CIRCUIT),
    (!both || b.pipePlaced i, E_BOUNDARY)] ++
  b.refCodes old tNode a ++ b.refCodes old tNode z

/-- The checks of a pump (R119, R134). -/
def Bank.pumpCodes (b : Bank) (old : Option Bank) (i : Nat) : List Nat :=
  let p := b.u 2 i 0 2
  broken [
    (decide (b.u 2 i 2 1 < 8) && (decide (b.u 2 i 3 1 < 64) || b.u 2 i 3 1 == 0xFF) &&
      cmdOk (b.u 2 i 4 1) (b.u 2 i 6 2) && (decide (b.u 2 i 5 1 < 4) || b.u 2 i 5 1 == 0xFF) &&
      (List.range 6).all (fun k => f64Ok (b.u 2 i (8 + 8 * k) 8)) && b.fin 2 i 0x38 0 (6 / 5) &&
      b.fin 2 i 0x3C 0 (6 / 5) && decide (b.f 2 i 0x38 ≤ b.f 2 i 0x3C) &&
      (b.flag 2 i 2 1 || b.u 2 i 0x38 4 == b.u 2 i 0x3C 4) && b.fin 2 i 0x40 (1 / 1000) 10 && b.zero 2 i 0x46 58,
      E_RANGE),
    (pointOk b.s (b.u 2 i 0x44 2), E_POINT),
    (!b.used 1 p || !b.flag 1 p 5 1, E_BOUNDARY)] ++
  b.refCodes old tPipe p

/-- The checks of a valve (R120, R134). -/
def Bank.valveCodes (b : Bank) (old : Option Bank) (i : Nat) : List Nat :=
  broken [
    (decide (1 ≤ b.u 3 i 2 1) && decide (b.u 3 i 2 1 ≤ 4) && decide (b.u 3 i 3 1 ≤ 2) && b.fin 3 i 4 (1 / 10) 20000 &&
      b.fin 3 i 8 10 200 && b.fin 3 i 0xC 0 1 && b.fin 3 i 0x10 0 1 && decide (b.f 3 i 0xC ≤ b.f 3 i 0x10) &&
      b.fin 3 i 0x14 1 600 && cmdOk (b.u 3 i 0x18 1) (b.u 3 i 0x1A 2) && decide (b.u 3 i 0x19 1 < 2) && b.zero 3 i 0x1E 2,
      E_RANGE),
    (pointOk b.s (b.u 3 i 0x1C 2), E_POINT)] ++
  b.refCodes old tPipe (b.u 3 i 0 2)

/-- A plant or store node: of the type given, attached to it. -/
def Bank.nodeNames (b : Bank) (ty i n : Nat) : Bool := !b.used 0 n || (b.u 0 n 0 1 == ty && b.u 0 n 6 2 == i)

/-- The efficiency of a plant lies in 0.05 to 10 over its supply range (R121): at both ends of the range, with the
return taken at 0 °C and at the supply temperature (assumption 13). -/
def Bank.etaOk (b : Bank) (i : Nat) : Bool :=
  let e (ts tr : Rat) : Rat := b.d 4 i 0x38 + b.d 4 i 0x40 * ts + b.d 4 i 0x48 * tr
  let ok (x : Rat) : Bool := decide (mkRat 1 20 ≤ x) && decide (x ≤ 10)
  let lo := b.f 4 i 0x14
  let hi := b.f 4 i 0x18
  ok (e lo 0) && ok (e lo lo) && ok (e hi 0) && ok (e hi hi)

/-- The checks of a plant (R121, R125, R134). -/
def Bank.plantCodes (b : Bank) (old : Option Bank) (i : Nat) : List Nat :=
  let n := b.u 4 i 2 2
  let m := b.u 4 i 4 2
  broken [
    (decide (b.u 4 i 0 1 ≤ 7) && decide (b.u 4 i 1 1 < 8) && (decide (b.u 4 i 6 1 < 16) || b.u 4 i 6 1 == 0xFF) &&
      (decide (b.u 4 i 7 1 < 4) || b.u 4 i 7 1 == 0xFF) && b.fin 4 i 8 0 2000000000 && b.fin 4 i 0xC 0 2000000000 &&
      decide (b.f 4 i 8 ≤ b.f 4 i 0xC) && f32Ok (b.u 4 i 0x10 4) && decide (0 < b.f 4 i 0x10) &&
      b.fin 4 i 0x14 (-10) 180 && b.fin 4 i 0x18 (-10) 180 && decide (b.f 4 i 0x14 ≤ b.f 4 i 0x18) &&
      b.fin 4 i 0x1C 0 86400 && (List.range 6).all (fun k => f64Ok (b.u 4 i (0x20 + 8 * k) 8)) && b.etaOk i &&
      cmdOk (b.u 4 i 0x50 1) (b.u 4 i 0x52 2) && b.zero 4 i 0x51 1 && b.zero 4 i 0x54 44, E_RANGE),
    (b.nodeNames 3 i n && b.nodeNames 3 i m, E_CONFLICT),
    (!(b.used 0 n && b.used 0 m) || b.u 0 n 2 1 == b.u 0 m 2 1, E_BOUNDARY)] ++
  b.refCodes old tNode n ++ b.refCodes old tNode m

/-- The checks of a store (R122, R125, R134). -/
def Bank.storeCodes (b : Bank) (old : Option Bank) (i : Nat) : List Nat :=
  let n := b.u 5 i 2 2
  let m := b.u 5 i 4 2
  let layers := b.u 5 i 1 1
  broken [
    (decide (b.u 5 i 0 1 ≤ 2) && decide (1 ≤ layers) && decide (layers ≤ 16) && b.zero 5 i 6 2 && b.fin 5 i 8 1 100000 &&
      b.fin 5 i 0xC 1 100 && b.fin 5 i 0x10 0 1000000 && b.fin 5 i 0x14 (-40) 50 && b.fin 5 i 0x18 0 180 &&
      b.fin 5 i 0x1C 0 180 && decide (b.f 5 i 0x18 ≤ b.f 5 i 0x1C) && f32Ok (b.u 5 i 0x20 4) &&
      decide (0 < b.f 5 i 0x20) && f32Ok (b.u 5 i 0x24 4) && decide (0 < b.f 5 i 0x24) && b.fin 5 i 0x28 0 1 &&
      b.zero 5 i 0x2C 4 && (List.range (min layers 16)).all (fun k => f32Ok (b.u 5 i (0x30 + 4 * k) 4)), E_RANGE),
    ((List.range 8).all (fun k => pointOk b.s (b.u 5 i (0x70 + 2 * k) 2)), E_POINT),
    (b.nodeNames 4 i n && b.nodeNames 4 i m, E_CONFLICT),
    (!(b.used 0 n && b.used 0 m) || b.u 0 n 2 1 == b.u 0 m 2 1, E_BOUNDARY)] ++
  b.refCodes old tNode n ++ b.refCodes old tNode m

/-- The nodes of a field. -/
def Bank.nodesOf (b : Bank) (f : Nat) : List Nat := (b.all tNode).filter (fun n => b.u 0 n 2 1 == f)

/-- The interior pipes of a field. -/
def Bank.interior (b : Bank) (f : Nat) : List Nat :=
  (b.all tPipe).filter (fun p => !b.flag 1 p 5 1 && b.u 1 p 6 1 == f)

/-- The boundary pipes of a field. -/
def Bank.boundary (b : Bank) (f : Nat) : List Nat :=
  (b.all tPipe).filter (fun p => b.flag 1 p 5 1 && (b.u 1 p 6 1 == f || b.u 1 p 7 1 == f))

/-- The checks of a field (R123, R134). -/
def Bank.fieldCodes (b : Bank) (i : Nat) : List Nat :=
  broken [
    (decide (b.u 6 i 0 1 ≤ 7) && decide (b.u 6 i 1 1 < 8) && decide (1 ≤ b.u 6 i 0x10 1) && decide (b.u 6 i 0x10 1 ≤ 64) &&
      b.zero 6 i 0x12 2 && b.fin 6 i 0x14 (1 / 1000) 1000 && b.zero 6 i 0x18 40, E_RANGE),
    (!b.flag 6 i 1 0 || !(b.nodesOf i).isEmpty, E_CONFLICT)]

/-- The field that an element belongs to (R125). -/
def Bank.fieldOf (b : Bank) (t i : Nat) : Nat :=
  match t with
  | 0 => b.u 0 i 2 1
  | 1 => b.u 1 i 6 1
  | 2 => b.u 1 (b.u 2 i 0 2) 6 1
  | 3 => b.u 1 (b.u 3 i 0 2) 6 1
  | _ => b.u 0 (b.u t i 2 2) 2 1

/-- The table that a fallback KIND 1 to 5 names. -/
def kindTable (k : Nat) : Nat := if k = 1 then tPump else if k = 2 then tValve else if k = 5 then tStore else tPlant

/-- A fallback value lies inside its element's limits (R124). A substation has none in its record; the order of its supply
temperature is held to 0 to 180 °C, as the other supply temperatures are (DESIGN CHOICE, assumption 88). -/
def Bank.limitsOk (b : Bank) (k i v : Nat) : Bool :=
  let x := fpToRat fmt32 v
  let in_ (lo hi : Rat) : Bool := decide (lo ≤ x) && decide (x ≤ hi)
  f32Ok v &&
  (match k with
   | 1 => in_ (b.f 2 i 0x38) (b.f 2 i 0x3C)
   | 2 => in_ (b.f 3 i 0xC) (b.f 3 i 0x10)
   | 3 => in_ (b.f 4 i 8) (b.f 4 i 0xC)
   | 4 => in_ (b.f 4 i 0x14) (b.f 4 i 0x18)
   | 5 => in_ (-(b.f 5 i 0x24)) (b.f 5 i 0x20)
   | _ => in_ 0 180)

/-- The checks of fallback entry e of field i but for KIND 6, whose entry the gazetteer holds (R124). -/
def Bank.fallbackCodes (b : Bank) (old : Option Bank) (i e : Nat) : List Nat :=
  let k := b.u 7 i (8 * e) 1
  let x := b.u 7 i (8 * e + 2) 2
  let v := b.u 7 i (8 * e + 4) 4
  if k = 0 then []
  else
    broken [(decide (k ≤ 6) && b.zero 7 i (8 * e + 1) 1 && (k != 6 || (decide (x < 16384) && b.limitsOk 6 x v)), E_RANGE)] ++
    (if k ≤ 5 then
      b.refCodes old (kindTable k) x ++
      (if b.used (kindTable k) x then
        broken [(b.fieldOf (kindTable k) x == i && b.limitsOk k x v, E_RANGE)] else [])
     else [])

/-- Bytes that a furrow takes (R143). -/
def furrowBytes (cap : Nat) : Nat := (32 + 16 * cap + 31) / 32 * 32

/-- The checks over a whole bank, without the gazetteer (R134). -/
def Bank.codes (b : Bank) (old : Option Bank) : List Nat :=
  let fields := b.all tField
  let pumps := b.all tPump
  let valves := b.all tValve
  let onPipe (t : Nat) (xs : List Nat) (p : Nat) : Nat := (xs.filter (fun x => b.u t x 0 2 == p)).length
  (b.all tNode).flatMap (b.nodeCodes old) ++ (b.all tPipe).flatMap (b.pipeCodes old) ++
  pumps.flatMap (b.pumpCodes old) ++ valves.flatMap (b.valveCodes old) ++ (b.all tPlant).flatMap (b.plantCodes old) ++
  (b.all tStore).flatMap (b.storeCodes old) ++ fields.flatMap b.fieldCodes ++
  fields.flatMap (fun f => (List.range 32).flatMap (b.fallbackCodes old f)) ++
  broken [
    ((List.range 8).all (fun r => decide ((fields.filter (fun f => b.u 6 f 0 1 == r)).length ≤ 32)), E_CAPACITY),
    (decide (sumN ((b.all tPipe).map (fun p => furrowBytes (b.u 1 p 0x30 2))) ≤ 0x1400000), E_CAPACITY),
    (pumps.all (fun x => decide (onPipe tPump pumps (b.u 2 x 0 2) ≤ 1)) &&
      valves.all (fun x => decide (onPipe tValve valves (b.u 3 x 0 2) ≤ 2)), E_CONFLICT)]

/-- The checks between a bank and the gazetteer of a state (R134): the GAZ of a substation node and the NODE of its entry
name each other, and no entry is named twice; an entry that a node or a fallback block names is not deleted. -/
def Bank.gazCodes (b : Bank) (s : State) (old : Option State) : List Nat :=
  let stations := (b.all tNode).filter (fun n => b.u 0 n 0 1 == 2)
  let was (g : Nat) : Bool := (old.map (fun o => o.gzUsed g)).getD false
  let naming := stations.map (fun n => b.u 0 n 4 2)
  broken [
    (stations.all (fun n => s.gzUsed (b.u 0 n 4 2) && s.gz (b.u 0 n 4 2) 0x18 2 == n), E_CONFLICT),
    (noRepeat (naming.map (· + 1)), E_CONFLICT),
    (s.gzAll.all (fun g =>
      let n := s.gz g 0x18 2
      s.gz g 0x1A 1 != 0 || (b.used 0 n && b.u 0 n 0 1 == 2 && b.u 0 n 4 2 == g)), E_CONFLICT)] ++
  (b.all tField).flatMap (fun f => (List.range 32).flatMap (fun e =>
    let g := b.u 7 f (8 * e + 2) 2
    if b.u 7 f (8 * e) 1 = 6 then
      (if s.gzUsed g && s.gz g 0x1A 1 == 0 && b.u 0 (s.gz g 0x18 2) 2 1 == f then []
       else if was g && !s.gzUsed g then [E_CONFLICT] else [E_RANGE])
    else []))

/-! Writing records. -/

/-- A record written to a bank; a record that is not in use is cleared (R133): its other bytes are neither checked nor
stored (DESIGN CHOICE, assumption 87). -/
def State.putRec (s : State) (bank t i : Nat) (rec : List Byte) : State :=
  let size := (atlasTable t).2.1
  let a := (s.atlas bank).addr t i
  let s1 := (s.clearMem a size).putBytes a rec
  if t = tFallback || (s1.atlas bank).used t i then s1 else s.clearMem a size

/-- A bank emptied: every record unused. -/
def State.clearBank (s : State) (bank : Nat) : State := s.clearMem (bankBase bank) 0x400000

/-- A bank copied into another. -/
def State.copyBank (s : State) (src dst : Nat) : State := s.copyMem (bankBase src) (bankBase dst) 0x400000

/-- Counts and list places of one field, its lists at the offsets given (R112, R123). -/
def State.putMembers (s : State) (bank f nodeOff pipeOff : Nat) (ns ins bds : List Nat) : State :=
  let b := s.atlas bank
  let a := b.addr tField f
  let s1 := (((((s.st (a + 2) 2 ns.length).st (a + 4) 2 ins.length).st (a + 6) 2 bds.length).st (a + 8) 4 nodeOff).st
    (a + 0xC) 4 pipeOff)
  (s1.putBytes (b.base + nodeOff) (ns.map (leBytes 2)).flatten).putBytes (b.base + pipeOff)
    ((ins ++ bds).map (leBytes 2)).flatten

/-- The fields that the steward writes into a bank (R112, R118, R123, R143): node lists of the fields in order, then
pipe lists, and the furrow places in ascending pipe index (assumption 12). What the bank header holds is not stated: it is
left as it stands (DESIGN CHOICE, assumption 85). -/
def State.finishBank (s : State) (bank : Nat) : State :=
  let b := s.atlas bank
  let fields := b.all tField
  let nodeLists := fields.map b.nodesOf
  let pipeLists := fields.map (fun f => (b.interior f, b.boundary f))
  let nodeOffs := prefixSums 0x320000 (nodeLists.map (fun l => 2 * l.length))
  let pipeStart := 0x320000 + sumN (nodeLists.map (fun l => 2 * l.length))
  let pipeOffs := prefixSums pipeStart (pipeLists.map (fun l => 2 * (l.1.length + l.2.length)))
  let s1 := s.each fields.zipIdx (fun t q =>
    let k := q.2
    let pl := (pipeLists[k]?).getD ([], [])
    t.putMembers bank q.1 ((nodeOffs[k]?).getD 0) ((pipeOffs[k]?).getD 0) ((nodeLists[k]?).getD []) pl.1 pl.2)
  let pipes := b.all tPipe
  let bases := prefixSums 0 (pipes.map (fun p => furrowBytes (b.u 1 p 0x30 2)))
  s1.each (pipes.zip bases) (fun t q => t.st (b.addr tPipe q.1 + 0x34) 4 q.2)

/-- What ATLAS_STAT and ATLAS_REGION_r show of the bank in force. -/
def State.showAtlas (s : State) : State :=
  let b := s.atlasInForce
  let fields := b.all tField
  (s.wr ATLAS_STAT_FIELDS fields.length).each (List.range 8) (fun t r =>
    let fs := fields.filter (fun f => b.u 6 f 0 1 == r)
    (t.wr (ATLAS_REGION_NODES r) (sumN (fs.map (fun f => (b.nodesOf f).length)))).wr (ATLAS_REGION_FIELDS r) fs.length)

/-! The ATLAS section (R131). -/

/-- Counts of the tables in the header of a section. -/
def Sec.atlasCount (v : Sec) (t : Nat) : Nat :=
  match t with
  | 0 => v.u 0 2
  | 1 => v.u 2 2
  | 2 => v.u 4 2
  | 3 => v.u 6 2
  | 4 => v.u 8 1
  | 5 => v.u 9 1
  | _ => v.u 0xA 2

/-- The order and offsets of the tables of a section. -/
def Sec.atlasOffs (v : Sec) : List Nat :=
  prefixSums 64 ((List.range 8).map (fun t => (atlasTable t).2.1 * v.atlasCount t))

/-- Header and length of a section (R131). -/
def Sec.atlasHeaderOk (v : Sec) : Bool :=
  let n (t lo : Nat) : Bool := decide (lo ≤ v.atlasCount t) && decide (v.atlasCount t ≤ (atlasTable t).2.2)
  decide (64 ≤ v.len) && n 0 1 && n 1 1 && n 2 0 && n 3 0 && n 4 1 && n 5 0 && n 6 1 && v.zero 0xC 52 &&
    decide (v.len = 64 + sumN ((List.range 8).map (fun t => (atlasTable t).2.1 * v.atlasCount t)))

/-- The tables of a section written into a bank. -/
def State.fillBank (s : State) (v : Sec) (bank : Nat) : State :=
  let offs := v.atlasOffs
  let s1 := (s.clearBank bank).each (List.range 8) (fun t tb =>
    t.each (List.range (v.atlasCount tb)) (fun u i =>
      u.putRec bank tb i (v.s.bytes (v.base + (offs[tb]?).getD 0 + (atlasTable tb).2.1 * i) (atlasTable tb).2.1)))
  s1.finishBank bank

/-! Amendments (R133, R134). -/

/-- The spare bank, in which candidates are built (R114). -/
def State.spareBank (s : State) : Nat := s.requests.spare

/-- The spare after the candidate in the bank `new` has come into force in place of `old` (R114): the bank left behind, or the
third where that one is pinned. -/
def State.nextSpare (s : State) (old new : Nat) : Nat :=
  if s.rd ATLAS_STAT_PINNED = old then 3 - old - new else old

/-- Table, new value and index of a word of ATLAS_SERVICE. -/
def serviceWord (w : Word) : Nat × Nat × Nat := (bitsOf w.toNat 31 30, bitsOf w.toNat 29 29, bitsOf w.toNat 15 0)

/-- The table and the offset of the FLAGS byte that ATLAS_SERVICE names. -/
def serviceTable (k : Nat) : Nat × Nat :=
  if k = 0 then (tPipe, 5) else if k = 1 then (tPump, 2) else if k = 2 then (tValve, 0x19) else (tPlant, 1)

/-- Inline word n of a request, counted from 1 (R108). -/
def inlW (ws : List Word) (n : Nat) : Nat := ((ws[n - 1]?).map BitVec.toNat).getD 0

/-- The form of an atlas request (R133): codes that its words and length alone give. -/
def atlasForm (op : Nat) (inl : List Word) (len : Nat) : List Nat :=
  let t := inlW inl 1
  let tb := atlasTable t
  let rangeOk := decide (t ≤ 7) && decide (1 ≤ inlW inl 3) && decide (inlW inl 2 + inlW inl 3 ≤ tb.2.2)
  match op with
  | 0x01 => broken [(rangeOk && decide (len = inlW inl 3 * tb.2.1), E_RANGE)]
  | 0x02 => broken [(rangeOk, E_RANGE)]
  | 0x03 => inl.flatMap (fun w => broken [
      (decide ((serviceWord w).2.2 < (atlasTable (serviceTable (serviceWord w).1).1).2.2), E_RANGE)])
  | _ => []

/-- An atlas request applied to a bank of a state; `pay` is its staged payload. -/
def State.atlasRaw (s : State) (bank op : Nat) (inl : List Word) (pay : List Byte) : State :=
  let t := inlW inl 1
  let size := (atlasTable t).2.1
  match op with
  | 0x01 => (s.each (List.range (inlW inl 3)) (fun u k =>
      u.putRec bank t (inlW inl 2 + k) ((pay.drop (size * k)).take size))).finishBank bank
  | 0x02 => (s.each (List.range (inlW inl 3)) (fun u k =>
      u.clearMem ((u.atlas bank).addr t (inlW inl 2 + k)) size)).finishBank bank
  | 0x03 => s.each inl (fun u w =>
      let (k, v, i) := serviceWord w
      let a := (u.atlas bank).addr (serviceTable k).1 i + (serviceTable k).2
      if (u.atlas bank).used (serviceTable k).1 i then u.putBit a 0 (v == 1) else u)
  | _ => s.fillBank ⟨({ s with mem := [] }).putBytes 0 pay, 0, pay.length⟩ bank

/-- The checks of an atlas request that its own words, its payload and the elements it names give (R133, R134): `cand` holds
the candidate as the bank numbered `bank`. -/
def atlasOwn (cand : State) (bank op : Nat) (inl : List Word) (pay : List Byte) : List Nat :=
  atlasForm op inl pay.length ++
    (if op = 0x04 then
      broken [(Sec.atlasHeaderOk ⟨({ cand with mem := [] }).putBytes 0 pay, 0, pay.length⟩, E_RANGE)]
    else if op = 0x03 then inl.flatMap (fun w =>
      (cand.atlas bank).refCodes none (serviceTable (serviceWord w).1).1 (serviceWord w).2.2)
    else [])

end Sys2Proof.Machine
end

