-- ==== Sys2Proof/Machine/Trans.lean ====
section
/-! DEFINITION. The exponential and the natural logarithm of rationals, to 256 fractional bits, and their binary64
results: far closer than half a unit of the last place, so that rounding them gives the correctly rounded value of the
formulas that use them (assumption 9). -/

namespace Sys2Proof.Machine

/-- The scale of the fixed-point numbers. -/
def fixOne : Nat := 2 ^ 256

/-- Terms of the exponential series from the term t of index k on. -/
def expTerms : Nat → Nat → Nat → Nat → Nat
  | 0, _, _, _ => 0
  | n + 1, k, t, x => t + expTerms n (k + 1) (t * x / fixOne / (k + 1)) x

/-- Terms of the inverse hyperbolic tangent from y^(2k+1) on, y² given. -/
def atanhTerms : Nat → Nat → Nat → Nat → Nat
  | 0, _, _, _ => 0
  | n + 1, k, p, y2 => p / (2 * k + 1) + atanhTerms n (k + 1) (p * y2 / fixOne) y2

/-- The natural logarithm of 2. -/
def ln2Fix : Nat := 2 * atanhTerms 100 0 (fixOne / 3) (fixOne / 9)

/-- 2 to an integer power. -/
def ratPow2 (q : Int) : Rat := if 0 ≤ q then ((2 ^ q.toNat : Nat) : Rat) else mkRat 1 (2 ^ (-q).toNat)

/-- The exponential of a rational; arguments beyond ±1,000 are taken as ±1,000, past the range of binary64. -/
def ratExp (x : Rat) : Rat :=
  let y : Rat := if x < -1000 then -1000 else if 1000 < x then 1000 else x
  let f : Int := (y.num * (fixOne : Int)) / (y.den : Int)
  ratPow2 (f / (ln2Fix : Int)) * mkRat (expTerms 90 0 fixOne (f % (ln2Fix : Int)).toNat : Nat) fixOne

/-- The natural logarithm of a positive rational; 0 otherwise. -/
def ratLn (x : Rat) : Rat :=
  if x ≤ 0 then 0
  else
    let q : Int := (bitLen x.num.natAbs : Int) - (bitLen x.den : Int)
    -- m = x / 2^q lies between 1/2 and 2
    let m : Rat := x * ratPow2 (-q)
    let y : Rat := (m - 1) / (m + 1)
    let yf : Nat := (y.num.natAbs * fixOne) / y.den
    let s : Nat := 2 * atanhTerms 100 0 yf (yf * yf / fixOne)
    let sm : Int := if y < 0 then -(s : Int) else s
    mkRat (sm + q * (ln2Fix : Int)) fixOne

/-- ln in binary64. -/
def fpLn (a : Nat) : Nat :=
  match fpDecode fmt64 a with
  | .nan => fpQuiet fmt64 a
  | .inf true => fpDefaultNan fmt64
  | .inf false => a
  | .fin neg m _ =>
    if m = 0 then fpInfBits fmt64 true
    else if neg then fpDefaultNan fmt64
    else fpOfRat fmt64 (ratLn (fpToRat fmt64 a))

end Sys2Proof.Machine
end

