-- ==== Sys2Proof/Machine/Gleaner.lean ====
section
/-! DEFINITION. The Gleaner: histogram definitions and slices (R400 to R408), the freeze (R407) and the error log (R409
to R411). -/

namespace Sys2Proof.Machine

/-! Definitions (R401, R402). -/

/-- The address of a definition record. -/
def defAddr (d : Nat) : Nat := sd 0x2600000 + 32 * d

/-- A definition is in use. -/
def State.defUsed (s : State) (d : Nat) : Bool := decide (d < 1024) && s.ld (defAddr d) 1 % 2 == 1

/-- The definitions in use, ascending. -/
def State.usedDefs (s : State) : List Nat := (List.range 1024).filter s.defUsed

/-- LOG, LO and HI of a definition. -/
def State.defShape (s : State) (d : Nat) : Nat × Nat × Nat :=
  (s.ld (defAddr d) 1 / 2 % 2, s.ld (defAddr d + 8) 8, s.ld (defAddr d + 16) 8)

/-- A definition record obeys R401; without USED its other fields are held to the same rules. -/
def Sec.histDefOk (v : Sec) (off : Nat) : Bool :=
  let fl := v.u off 1
  let lo := v.u (off + 8) 8
  let hi := v.u (off + 16) 8
  decide (fl < 4) && v.zero (off + 1) 3 && v.zero (off + 24) 8 && fpFinite fmt64 lo && fpFinite fmt64 hi &&
    fpLt fmt64 lo hi && (decide (fl / 2 = 0) || fpLt fmt64 0 lo)

/-! Slices (R405). -/

/-- An empty slice. -/
def emptySlice (start flags : Nat) : HSlice :=
  { bins := List.replicate 32 0, under := 0, above := 0, nan := 0, min := BitVec.ofNat 64 (fpInfBits fmt64 false),
    max := BitVec.ofNat 64 (fpInfBits fmt64 true), minTime := 0, maxTime := 0, start := start, flags := flags }

/-- The bytes of a slice. -/
def HSlice.encode (h : HSlice) : List Byte :=
  (h.bins.map (leBytes 4)).flatten ++ leBytes 4 h.under ++ leBytes 4 h.above ++ leBytes 4 h.nan ++ leBytes 4 0 ++
    leBytes 8 h.min.toNat ++ leBytes 8 h.max.toNat ++ leBytes 8 h.minTime ++ leBytes 8 h.maxTime ++ leBytes 8 h.start ++
    leBytes 4 h.flags ++ leBytes 4 0

/-- The slice at an address. -/
def State.slice (s : State) (a : Nat) : HSlice :=
  { bins := (List.range 32).map (fun i => s.ld (a + 4 * i) 4), under := s.ld (a + 0x80) 4, above := s.ld (a + 0x84) 4,
    nan := s.ld (a + 0x88) 4, min := BitVec.ofNat 64 (s.ld (a + 0x90) 8), max := BitVec.ofNat 64 (s.ld (a + 0x98) 8),
    minTime := s.ld (a + 0xA0) 8, maxTime := s.ld (a + 0xA8) 8, start := s.ld (a + 0xB0) 8, flags := s.ld (a + 0xB8) 4 }

/-- The address of slice k of a definition: 60 minute, 24 hour and 30 day slices, then HOUR, DAY and MONTH. -/
def sliceAddr (d k : Nat) : Nat := histBase + 0x5800 * d + 192 * k

/-- Calendar time units in one minute. -/
def minuteUnits : Nat := 60 * 32768

/-- FLAGS of a slice. -/
def fTimeStep : Nat := 1
def fHeld : Nat := 2
def fPartial : Nat := 4
def fCarry : Nat := 8

/-- The bin of a value that lies in range (R403), in binary64 arithmetic. -/
def histBin (log : Bool) (lo hi v : Nat) : Nat :=
  let k32 := fpOfInt fmt64 32
  let q := if log then
      (fpDiv fmt64 (fpMul fmt64 k32 (fpLn (fpDiv fmt64 v lo).1)).1 (fpLn (fpDiv fmt64 hi lo).1)).1
    else (fpDiv fmt64 (fpMul fmt64 k32 (fpSub fmt64 v lo).1).1 (fpSub fmt64 hi lo).1).1
  min (fpToRat fmt64 q).floor.toNat 31

/-- A value entered into a slice (R403). -/
def HSlice.enter (h : HSlice) (log : Bool) (lo hi v t : Nat) : HSlice :=
  if fpIsNan fmt64 v then { h with nan := satAdd 32 h.nan 1 }
  else
    let h1 :=
      if fpLt fmt64 v lo || (log && fpLe fmt64 v 0) then { h with under := satAdd 32 h.under 1 }
      else if fpLe fmt64 hi v then { h with above := satAdd 32 h.above 1 }
      else
        let b := histBin log lo hi v
        { h with bins := h.bins.set b (satAdd 32 ((h.bins[b]?).getD 0) 1) }
    let h2 := if fpLt fmt64 v h1.min.toNat then { h1 with min := BitVec.ofNat 64 v, minTime := t } else h1
    if fpLt fmt64 h2.max.toNat v then { h2 with max := BitVec.ofNat 64 v, maxTime := t } else h2

/-- Two slices composed (R406): counts summed, extremes with their times, the earliest START, FLAGS joined. -/
def HSlice.join (a b : HSlice) : HSlice :=
  { bins := (a.bins.zip b.bins).map (fun p => satAdd 32 p.1 p.2), under := satAdd 32 a.under b.under,
    above := satAdd 32 a.above b.above, nan := satAdd 32 a.nan b.nan,
    min := if fpLt fmt64 b.min.toNat a.min.toNat then b.min else a.min,
    minTime := if fpLt fmt64 b.min.toNat a.min.toNat then b.minTime else a.minTime,
    max := if fpLt fmt64 a.max.toNat b.max.toNat then b.max else a.max,
    maxTime := if fpLt fmt64 a.max.toNat b.max.toNat then b.maxTime else a.maxTime,
    start := Nat.min a.start b.start, flags := a.flags ||| b.flags }

/-- Slices composed in the order given; `start` serves where there is none. -/
def composeSlices (start : Nat) : List HSlice → HSlice
  | [] => emptySlice start 0
  | h :: hs => hs.foldl HSlice.join h

/-- The slices of a ring that lie in the window of `len` units that ends at `bound`, oldest first (R405, R406). -/
def State.ring (s : State) (d first count unit len bound : Nat) : List HSlice :=
  (List.range count).filterMap (fun i =>
    let h := s.slice (sliceAddr d (first + (bound / unit + i) % count))
    if bound ≤ h.start + len ∧ h.start < bound then some h else none)

/-- The carried window of a definition that still takes part at a composing boundary (R408). -/
def State.carriedAt (s : State) (d w len bound : Nat) : List HSlice :=
  match s.gleaner.carried.lookup (3 * d + w) with
  | some h => if bound ≤ h.start + len then [h] else []
  | none => []

/-- The roll of one definition for an ended minute (R406). -/
def State.rollDef (s : State) (d minute : Nat) (h : HSlice) : State :=
  let bound := (minute + 1) * minuteUnits
  let hourU := 60 * minuteUnits
  let dayU := 24 * hourU
  let put (t : State) (k : Nat) (x : HSlice) : State := t.putWhole (sliceAddr d k) x.encode
  let s1 := put s (minute % 60) h
  let mins := s1.ring d 0 60 minuteUnits hourU bound
  let s2 := put s1 114 (composeSlices h.start (s1.carriedAt d 0 hourU bound ++ mins))
  if (minute + 1) % 60 ≠ 0 then s2
  else
    let s3 := put s2 (60 + minute / 60 % 24) (composeSlices h.start mins)
    let hours := s3.ring d 60 24 hourU dayU bound
    let s4 := put s3 115 (composeSlices h.start (s3.carriedAt d 1 dayU bound ++ hours))
    if (minute + 1) % 1440 ≠ 0 then s4
    else
      let s5 := put s4 (84 + minute / 1440 % 30) (composeSlices h.start hours)
      put s5 116 (composeSlices h.start (s5.carriedAt d 2 (30 * dayU) bound ++ s5.ring d 84 30 dayU (30 * dayU) bound))

/-- The roll of an ended minute for every definition in use. -/
def State.rollMinute (s : State) (minute flags : Nat) (slices : List (Nat × HSlice)) : State :=
  s.each s.usedDefs (fun t d =>
    let h := (slices.lookup d).getD (emptySlice (minute * minuteUnits) 0)
    t.rollDef d minute { h with flags := h.flags ||| flags })

/-- Skipped minutes are written empty with TIME_STEP (R406): those from `lo` up to `hi`, none of it older than the
longest ring. -/
def State.rollSkipped (s : State) (lo hi : Nat) : State :=
  let a := max lo (hi - 44640)
  s.each (List.range (hi - a)) (fun t i => t.rollMinute (a + i) fTimeStep [])

/-- The flags of the live minute slice. -/
def Gleaner.liveFlags (g : Gleaner) : Nat := b2n g.liveStep * fTimeStep + b2n g.livePartial * fPartial

/-- MINUTE_ROLL (R406, R407): at a UTC minute boundary the ended minute is written and the windows composed; while the
Gleaner is frozen it moves to the holding bank instead. -/
def execMinuteRoll (s : State) : Out :=
  let g := s.gleaner
  let cur := s.seconds / 60
  let fresh : Gleaner := { g with live := [], liveMinute := cur, liveStep := false, livePartial := false }
  .next (if cur ≤ g.liveMinute then s
    else if s.rd GL_STAT_FROZEN = 1 then
      (if g.heldMinute.isSome then s
       else { s with gleaner := { fresh with
          held := s.usedDefs.map (fun d =>
            let h := (g.live.lookup d).getD (emptySlice (g.liveMinute * minuteUnits) 0)
            (d, { h with flags := h.flags ||| g.liveFlags ||| fHeld })),
          heldMinute := some g.liveMinute } })
    else
      let s1 := (s.rollMinute g.liveMinute g.liveFlags g.live).rollSkipped (g.liveMinute + 1) cur
      { s1 with gleaner := fresh })

/-! Values (R403, R404). -/

/-- A value offered to the Gleaner: it enters the FIFO, or is dropped and counted where 256 wait (R404). -/
def State.histValue (s : State) (d v t : Nat) : State :=
  if 256 ≤ s.gleaner.fifo.length then s.bump GL_CNT_HDROP 1
  else { s with gleaner := { s.gleaner with fifo := s.gleaner.fifo ++ [(d, BitVec.ofNat 64 v, t)] } }

/-- The live slice of a definition with a value entered (R403). -/
def State.histEnter (s : State) (d v t : Nat) : State :=
  if !s.defUsed d then s.bump GL_CNT_UNDEF 1
  else
    let g := s.gleaner
    let (log, lo, hi) := s.defShape d
    let h := (g.live.lookup d).getD (emptySlice (g.liveMinute * minuteUnits) 0)
    { s with gleaner := { g with live := (d, h.enter (log == 1) lo hi v t) :: g.live.filter (fun e => e.1 != d) } }

/-- The histogram engine takes one value from the FIFO (R404). -/
def State.histTake (s : State) : State :=
  match s.gleaner.fifo with
  | [] => s
  | (d, v, t) :: r => ({ s with gleaner := { s.gleaner with fifo := r } }).histEnter d v.toNat t

/-- One cycle of the SYS clock at the calendar and the Gleaner: calendar time counts while the always-on domain is supplied, and the
histogram engine takes a value every 2 cycles (R32, R404). -/
def State.tickCycle (s : State) : State :=
  let s1 : State := { s with now := s.now + 1, cal := if s.boot.aon then s.cal + 1 else s.cal }
  if s1.now % 2 = 0 then s1.histTake else s1

/-! Definitions changed at a headland (R402, R408). -/

/-- All slices of a definition cleared. -/
def State.clearSlices (s : State) (d : Nat) : State :=
  let g := s.gleaner
  let keep (e : Nat × HSlice) : Bool := e.1 != d
  { (s.clearMem (sliceAddr d 0) (117 * 192)) with
    gleaner := { g with
      live := g.live.filter keep, held := g.held.filter keep, carried := g.carried.filter (fun e => e.1 / 3 != d) } }

/-- A definition replaced by a record of 32 bytes: its slices are cleared where LO, HI or LOG changes. -/
def State.putDef (s : State) (d : Nat) (rec : List Byte) : State :=
  let s1 := s.putWhole (defAddr d) rec
  if s1.defShape d = s.defShape d then s1 else s1.clearSlices d

/-- A definition made unused, and its slices cleared. -/
def State.dropDef (s : State) (d : Nat) : State := (s.clearMem (defAddr d) 32).clearSlices d

/-- A definition changed: replaced by a record, or made unused. -/
def State.changeDef (s : State) (d : Nat) (r : Option (List Byte)) : State :=
  match r with
  | some bs => s.putDef d bs
  | none => s.dropDef d

/-- A definition changed by an amendment: FREEZE stops the writes to the Gleaner's areas, so that the change waits for its end
(R407; DEDUCED, assumption 104). -/
def State.amendDef (s : State) (d : Nat) (r : Option (List Byte)) : State :=
  if s.rd GL_STAT_FROZEN = 1 then { s with gleaner := { s.gleaner with heldDefs := s.gleaner.heldDefs ++ [(d, r)] } }
  else s.changeDef d r

/-- The checks of a GLEANER_DEFS section (R402): none where it passes. -/
def Sec.gleanerDefs (v : Sec) : Option Nat :=
  let n := v.u 0 2
  let rec_ (k : Nat) : Nat := 16 + 40 * k
  firstFail [
    (decide (16 ≤ v.len) && decide (1 ≤ n) && decide (n ≤ 1024) && v.zero 2 14 && decide (v.len = 16 + 40 * n) &&
      (List.range n).all (fun k => decide (v.u (rec_ k) 2 < 1024) && v.zero (rec_ k + 2) 6 && v.histDefOk (rec_ k + 8)),
      E_RANGE),
    (noRepeat ((List.range n).map (fun k => v.u (rec_ k) 2 + 1)), E_CONFLICT)]

/-- The definitions sown (R402): those not listed are unused. -/
def State.sowDefs (s : State) (v : Option Sec) : State :=
  let s0 := s.clearMem (defAddr 0) 0x8000
  match v with
  | none => s0
  | some v => s0.each (List.range (v.u 0 2)) (fun t k =>
      t.putWhole (defAddr (v.u (16 + 40 * k) 2)) (v.s.bytes (v.base + 24 + 40 * k) 32))

/-! The freeze (R407). -/

/-- FREEZE comes into force. -/
def State.freeze (s : State) : State :=
  let s1 := (s.wr GL_CTL_FREEZE 1).wr GL_STAT_FROZEN 1
  { s1 with gleaner := { s1.gleaner with freezeSince := some s1.now } }

/-- FREEZE ends: the held roll completes and the error queue may drain; the last record written takes the repeats that
waited, and the changes of definitions that waited are made. -/
def State.unfreeze (s : State) : State :=
  let s1 := (s.wr GL_CTL_FREEZE 0).wr GL_STAT_FROZEN 0
  let g := s1.gleaner
  let s2 := match g.heldMinute with
    | some m => (s1.rollMinute m 0 g.held).rollSkipped (m + 1) g.liveMinute
    | none => s1
  let s3 := match g.lastWritten with
    | some w => s2.putWhole (logSlot (s2.rd GL_LOG_WR_INDEX + 4095)) w.encode
    | none => s2
  let s4 : State := { s3 with gleaner := { s3.gleaner with held := [], heldMinute := none, freezeSince := none, heldDefs := [] } }
  s4.each g.heldDefs (fun t x => t.changeDef x.1 x.2)

/-- FREEZE_EXPIRY (R407): FREEZE_MAX seconds have passed since FREEZE was accepted; hardware clears it and records F0. -/
def execFreezeExpiry (s : State) : Out :=
  .next (match s.gleaner.freezeSince with
    | some t =>
      if t + s.rd GL_CTL_FREEZE_MAX * cycPerS ≤ s.now then
        (s.unfreeze.wr GL_STAT_FREEZE_EXPIRED 1).recordFault 0 bGleaner 0 0
      else s
    | none => s)

/-! The error log (R409 to R411). -/

/-- LEVEL of the log: records written and not yet read (R411). -/
def State.logLevel (s : State) : Nat := (s.rd GL_LOG_WR_INDEX + 2 ^ 32 - s.rd GL_LOG_RD_INDEX) % 2 ^ 32

/-- LOG_RECORD_DRAIN (R410, R411): the oldest report leaves the queue as a record; nothing drains while the Gleaner is
frozen or the queue is empty. -/
def execLogRecordDrain (s : State) : Out :=
  .next (match s.gleaner.errQueue with
    | [] => s
    | r :: rs =>
      if s.rd GL_STAT_FROZEN = 1 then s
      else
        let level := s.logLevel
        let n := s.rd GL_LOG_WR_INDEX
        let s1 := (s.putWhole (logSlot n) r.encode).wr GL_LOG_WR_INDEX (n + 1)
        let s2 := { s1 with gleaner := { s1.gleaner with errQueue := rs, lastWritten := some r } }
        if level = 4096 then (s2.bumpWrap GL_LOG_RD_INDEX 1).bump GL_LOG_STAT_OVERWRITTEN 1
        else if level + 1 = 3072 then s2.raiseVec false 7
        else s2)

/-! Restart (R408). -/

/-- What a restart of a kind (0 cold, 1 warm, 2 full retention) keeps of the Gleaner, given the state before the restart
as the record holds it: cold clears log and slices, warm keeps the log and carries the windows of used definitions, full
retention keeps everything. The first live slice is PARTIAL. -/
def State.gleanerRestart (s : State) (kind : Nat) : State :=
  let minute := s.seconds / 60
  let fresh (t : State) (c : List (Nat × HSlice)) : State :=
    { t with gleaner := { t.gleaner with
        live := [], held := [], heldMinute := none, liveMinute := minute, liveStep := false, livePartial := true,
        carried := c, freezeSince := none, fifo := [], heldDefs := [] } }
  if kind = 0 then
    let s1 := (s.clearMem histBase 0x1600000).clearMem (sd 0x2610000) 0x20000
    let s2 := { s1 with gleaner := { s1.gleaner with lastWritten := none } }
    fresh (((s2.wr GL_LOG_WR_INDEX 0).wr GL_LOG_RD_INDEX 0)) []
  else if kind = 1 then
    let mark (h : HSlice) : HSlice := { h with flags := h.flags ||| fCarry }
    let wins := s.usedDefs.flatMap (fun d =>
      (List.range 3).filterMap (fun w =>
        let h := s.slice (sliceAddr d (114 + w))
        if h = emptySlice 0 0 then none else some (3 * d + w, mark h)))
    let s1 := s.clearMem histBase 0x1600000
    let s2 := s1.each wins (fun t e => t.putWhole (sliceAddr (e.1 / 3) (114 + e.1 % 3)) e.2.encode)
    fresh s2 wins
  else fresh s s.gleaner.carried

end Sys2Proof.Machine
end

