-- ==== Sys2Proof/Machine/Water.lean ====
section
/-! DEFINITION. Properties of water: the IAPWS-IF97 region 1 basic equation and saturation equation, the IAPWS 2008
viscosity (R144, R338). The spec names these formulations; their coefficients are those of the published releases
(PRESUMED, assumption 15). -/

namespace Sys2Proof.Machine

/-- m × 10^e. -/
def dec (m e : Int) : Rat := if 0 ≤ e then ((m * 10 ^ e.toNat : Int) : Rat) else mkRat m (10 ^ (-e).toNat)

/-- An integer power of a rational. -/
def ratPow (x : Rat) (k : Int) : Rat := if 0 ≤ k then x ^ k.toNat else 1 / x ^ (-k).toNat

/-- The square root of a non-negative rational, to 200 fractional bits. -/
def ratSqrt (x : Rat) : Rat := if x ≤ 0 then 0 else mkRat (isqrt (x.num.natAbs * 2 ^ 400 / x.den) : Nat) (2 ^ 200)

/-- I, J and n (mantissa and exponent) of the 34 terms of the region 1 basic equation. -/
def if97Terms : List (Nat × Int × Int × Int) :=
  [(0, -2, 14632971213167, -14), (0, -1, -84548187169114, -14), (0, 0, -3756360367204, -12), (0, 1, 33855169168385, -13)] ++
  [(0, 2, -95791963387872, -14), (0, 3, 15772038513228, -14), (0, 4, -16616417199501, -15), (0, 5, 81214629983568, -17)] ++
  [(1, -9, 28319080123804, -17), (1, -7, -60706301565874, -17), (1, -1, -18990068218419, -15), (1, 0, -32529748770505, -15)] ++
  [(1, 1, -21841717175414, -15), (1, 3, -5283835796993, -17), (2, -3, -47184321073267, -17), (2, 0, -30001780793026, -17)] ++
  [(2, 1, 47661393906987, -18), (2, 3, -44141845330846, -19), (2, 17, -72694996297594, -29), (3, -4, -31679644845054, -18)] ++
  [(3, 0, -28270797985312, -19), (3, 6, -85205128120103, -23), (4, -5, -22425281908, -16), (4, -2, -65171222895601, -20)] ++
  [(4, 10, -14341729937924, -26), (5, -8, -40516996860117, -20), (8, -11, -12734301741641, -22), (8, -6, -17424871230634, -23)] ++
  [(21, -29, -68762131295531, -32), (23, -31, 14478307828521, -33), (29, -38, 26335781662795, -36), (30, -39, -11947622640071, -36)] ++
  [(31, -40, 18228094581404, -37), (32, -41, -93537087292458, -39)]

/-- The derivatives of the dimensionless Gibbs energy with respect to π, to τ, and to τ twice. -/
def if97Gamma (pi tau : Rat) : Rat × Rat × Rat :=
  let a := mkRat 71 10 - pi
  let b := tau - mkRat 1222 1000
  if97Terms.foldl (fun acc t =>
    let n := dec t.2.2.1 t.2.2.2
    let j := t.2.1
    let pa := a ^ t.1
    (acc.1 - (if t.1 = 0 then 0 else n * t.1 * a ^ (t.1 - 1) * ratPow b j),
     acc.2.1 + n * pa * j * ratPow b (j - 1), acc.2.2 + n * pa * j * (j - 1) * ratPow b (j - 2))) (0, 0, 0)

/-- The specific gas constant of water in kJ/(kg K). -/
def if97R : Rat := mkRat 461526 1000000

/-- Density in kg/m³ at a pressure in kPa absolute and a temperature in °C. -/
def waterRho (p t : Rat) : Rat :=
  let tk := t + mkRat 27315 100
  let pi := p / 16530
  p / (pi * (if97Gamma pi (1386 / tk)).1 * if97R * tk)

/-- Specific enthalpy in kJ/kg. -/
def waterH (p t : Rat) : Rat :=
  let tk := t + mkRat 27315 100
  let tau := 1386 / tk
  if97R * tk * tau * (if97Gamma (p / 16530) tau).2.1

/-- Isobaric heat capacity in J/(kg K). -/
def waterCp (p t : Rat) : Rat :=
  let tk := t + mkRat 27315 100
  let tau := 1386 / tk
  (-1000) * if97R * tau * tau * (if97Gamma (p / 16530) tau).2.2

/-- Saturation pressure in kPa at a temperature in °C (IAPWS-IF97 equation 30). -/
def waterPsat (t : Rat) : Rat :=
  let tk := t + mkRat 27315 100
  let th := tk + dec (-23855557567849) (-14) / (tk - dec 65017534844798 (-11))
  let a := th * th + dec 11670521452767 (-10) * th + dec (-72421316703206) (-8)
  let b := dec (-17073846940092) (-12) * th * th + dec 1202082470247 (-8) * th + dec (-32325550322333) (-7)
  let c := dec 1491510861353 (-11) * th * th + dec (-48232657361591) (-10) * th + dec 40511340542057 (-8)
  let q := 2 * c / (-b + ratSqrt (b * b - 4 * a * c))
  1000 * (q * q * q * q)

/-- i, j and H of the terms of the IAPWS 2008 viscosity that depend on density. -/
def viscTerms : List (Nat × Nat × Int × Int) :=
  [(0, 0, 520094, -6), (1, 0, 850895, -7), (2, 0, -108374, -5), (3, 0, -289555, -6)] ++
  [(0, 1, 222531, -6), (1, 1, 999115, -6), (2, 1, 188797, -5), (3, 1, 126613, -5)] ++
  [(5, 1, 120573, -6), (0, 2, -281378, -6), (1, 2, -906851, -6), (2, 2, -772479, -6)] ++
  [(3, 2, -489837, -6), (4, 2, -25704, -5), (0, 3, 161913, -6), (1, 3, 257399, -6)] ++
  [(0, 4, -325372, -7), (3, 4, 698452, -7), (4, 5, 872102, -8), (3, 6, -435673, -8)] ++
  [(5, 6, -593264, -9)]

/-- Dynamic viscosity in Pa s at a temperature in °C and a density in kg/m³. -/
def waterMuAt (t rho : Rat) : Rat :=
  let tb := (t + mkRat 27315 100) / mkRat 647096 1000
  let r := rho / 322
  let mu0 := 100 * ratSqrt tb /
    (dec 167752 (-5) + dec 220462 (-5) / tb + dec 6366564 (-7) / (tb * tb) - dec 241605 (-6) / (tb * tb * tb))
  let s := viscTerms.foldl (fun acc x => acc + (1 / tb - 1) ^ x.1 * dec x.2.2.1 x.2.2.2 * (r - 1) ^ x.2.1) 0
  mu0 * ratExp (r * s) / 1000000

/-! The table of R144: 1 K steps from 0 to 180 °C at 1,000 kPa, interpolated linearly, clamped outside. -/

/-- Linear interpolation of a function on whole degrees. -/
def onGrid (f : Rat → Rat) (t : Rat) : Rat :=
  let x : Rat := if t < 0 then 0 else if 180 < t then 180 else t
  let i : Int := x.floor
  if 180 ≤ i then f 180 else f i + (x - i) * (f (i + 1) - f i)

/-- ρ(T) of R144. -/
def rhoT (t : Rat) : Rat := onGrid (waterRho 1000) t

/-- c_p(T) of R144. -/
def cpT (t : Rat) : Rat := onGrid (waterCp 1000) t

/-- μ(T) of R144. -/
def muT (t : Rat) : Rat := onGrid (fun x => waterMuAt x (waterRho 1000 x)) t

end Sys2Proof.Machine
end

