-- ==== Sys2Proof/Machine/Metering.lean ====
section
/-! DEFINITION. Energy and quantity metering (R327 to R349): channels, RTDs, pulse inputs, calibration, feeders, heat and
cooling meters, the 96-bit registers, the power-fail freeze and the metering block of the input image. -/

namespace Sys2Proof.Machine

/-- E_ASSIGN of the METER block (R350). -/
def E_ASSIGN : Nat := 0x10
/-- The fault code E_CAL (R333). -/
def E_CAL : Nat := 0x11
/-- The fault code E_STEPBACK (R345). -/
def E_STEPBACK : Nat := 0x12

/-- A rational as binary64 bits. -/
def f64 (x : Rat) : Nat := fpOfRat fmt64 x

/-- A rational as binary32 bits. -/
def f32 (x : Rat) : Nat := fpOfRat fmt32 x

/-- Binary64 bits as a rational. -/
def r64 (b : Nat) : Rat := fpToRat fmt64 b

/-- Binary32 bits as a rational. -/
def r32 (b : Nat) : Rat := fpToRat fmt32 b

/-- The absolute value of a rational. -/
def rabs (x : Rat) : Rat := if x < 0 then -x else x

/-- The sum of rationals. -/
def rsum (xs : List Rat) : Rat := xs.foldl (· + ·) 0

/-- The state with the metering front end replaced. -/
def State.setMeter (s : State) (m : Metering) : State := { s with meter := m }

def State.adcCh (s : State) (c : Nat) : AdcChan := (s.meter.adc[c]?).getD ⟨adcCal0, [], 4, 4, false⟩
def State.rtdCh (s : State) (c : Nat) : RtdChan := (s.meter.rtd[c]?).getD ⟨0, 0, 0⟩
def State.pulseIn (s : State) (c : Nat) : PulseIn := (s.meter.pulse[c]?).getD ⟨false, 0, false, 0, 0, 0, 0, 0⟩
def State.feeder (s : State) (n : Nat) : Feeder := (s.meter.feeders[n]?).getD ⟨[], false, 0, [], [], 0, 0, [], 0⟩
def State.heatMeter (s : State) (n : Nat) : HeatMeter :=
  (s.meter.meters[n]?).getD ⟨0, 0, 0, 0, 0, 0, false, 0, 0, none, 0⟩

def State.setAdc (s : State) (c : Nat) (x : AdcChan) : State := s.setMeter { s.meter with adc := s.meter.adc.set c x }
def State.setRtd (s : State) (c : Nat) (x : RtdChan) : State := s.setMeter { s.meter with rtd := s.meter.rtd.set c x }
def State.setPulse (s : State) (c : Nat) (x : PulseIn) : State :=
  s.setMeter { s.meter with pulse := s.meter.pulse.set c x }
def State.setFeeder (s : State) (n : Nat) (x : Feeder) : State :=
  s.setMeter { s.meter with feeders := s.meter.feeders.set n x }
def State.setHeatMeter (s : State) (n : Nat) (x : HeatMeter) : State :=
  s.setMeter { s.meter with meters := s.meter.meters.set n x }

/-- The newest sample of an ADC channel. -/
def State.adcValue (s : State) (c : Nat) : Rat := r64 ((s.adcCh c).hist.headD 0)

/-! Registers of 96 bits (R342). -/

/-- The value of the register whose LO word lies at an offset. -/
def State.energy (s : State) (lo : Nat) : Nat := s.rd64 lo (lo + 4) + 2 ^ 64 * (s.reg (lo + 8)).toNat

/-- Its three words and SAT set. -/
def State.putEnergy (s : State) (lo v : Nat) (sat : Bool) : State :=
  let s1 := (s.wr64 lo (lo + 4) v).setReg (lo + 8) (BitVec.ofNat 32 (v / 2 ^ 64))
  if sat then (s1.wr ⟨lo + 12, 0, 0⟩ 1).wr MT_STAT_SAT_ANY 1 else s1

/-- A contribution in the register's unit, kept in 2⁻³² of it (to nearest); a register that would pass 2⁹⁶ − 1 stays
there and sets SAT. -/
def State.addEnergy (s : State) (lo : Nat) (amount : Rat) : State :=
  let old := s.energy lo * 2 ^ 32 + smapGet (fun _ => 0) s.meter.frac lo
  let new := old + (amount * 2 ^ 32 + 1 / 2).floor.toNat
  if 2 ^ 128 ≤ new then s.putEnergy lo (2 ^ 96 - 1) true
  else
    let s1 := s.putEnergy lo (new / 2 ^ 32) false
    s1.setMeter { s1.meter with frac := smapSet (fun _ => 0) s1.meter.frac lo (new % 2 ^ 32) }

/-! ADC channels (R327, R329). -/

/-- The full scale of a low-gain or single modulator, and of a high-gain modulator, in V. -/
def fullScale : Rat := 1
def highScale : Rat := mkRat 625 10000

/-- The coefficients of the chain that carries a channel: its own, or the spare one from the handover to the end of its
calibration step (R332). -/
def State.adcCal (s : State) (c : Nat) : AdcCal :=
  if s.rd MT_STAT_CAL_CH = c ∧ 4 ≤ s.meter.calPhase then s.meter.spare else (s.adcCh c).cal

/-- One sample of one channel. -/
def State.adcSample (s : State) (c : Nat) (x : AdcSample) : State :=
  let a := s.adcCh c
  let k := s.adcCal c
  let vLow := r64 x.low.toNat * k.lowGain + k.lowOfs
  let vHigh := r64 x.high.toNat * k.highGain + k.highOfs
  let sinceHigh := if x.highOver then 0 else min 4 (a.sinceHigh + 1)
  let sinceLow := if x.lowOver then 0 else min 4 (a.sinceLow + 1)
  let neg := if x.lowOver then decide (r64 x.low.toNat < 0) else a.lowNeg
  let fault := decide (sinceLow ≤ 3)
  let high := decide (c < 16) && s.rd (MT_ADC_CFG_HG_EN c) == 1 && decide (3 < sinceHigh) &&
    decide (rabs vHigh ≤ mkRat (s.rd (MT_ADC_CFG_HG_LIMIT c)) 256 * highScale)
  let volts := if fault then (if neg then -fullScale else fullScale) else if high then vHigh else vLow
  let v := f64 (volts * r32 (s.reg (MT_ADC_SCALE c)).toNat + r32 (s.reg (MT_ADC_OFS c)).toNat)
  let s1 := s.setAdc c { a with hist := (v :: a.hist).take 255, sinceHigh := sinceHigh, sinceLow := sinceLow, lowNeg := neg }
  let s2 := (s1.wr (MT_ADC_STAT_FAULT c) (b2n fault)).wr (MT_ADC_STAT_HG_IN_USE c) (b2n high)
  if x.lowOver then s2.bump (MT_ADC_STAT_OVERLOADS c) 1 else s2

/-- The rms of the last 160 samples of a list. -/
def rms160 (hist : List Nat) : Rat :=
  let xs := (hist.take 160).map (fun b => r64 b)
  if xs.isEmpty then 0 else ratSqrt (rsum (xs.map (fun x => x * x)) / (xs.length : Nat))

/-! Pulse inputs (R331). -/

/-- MET cycles in a second. -/
def metHz : Nat := 24576000

/-- The time of an event in MET cycles. -/
def State.metNow (s : State) : Nat := s.now * metHz / cycPerS

/-- The highest edge rate that an input accepts: 100 kHz, or one edge in two stable levels (R331). -/
def State.pulseLimit (s : State) (c : Nat) : Rat :=
  let d := s.rd (MT_PLS_CFG_DEB c)
  if d = 0 then 100000 else mkRat 10000 (2 * d)

/-- The frequency update at a sample. -/
def State.pulseSample (s : State) (c : Nat) : State :=
  let p := s.pulseIn c
  let now := s.metNow
  let f := r64 p.freq
  let f1 : Rat × Nat :=
    if 0 < p.edges then
      (if p.lastEdge = p.used then (f, p.used) else (mkRat (p.edges * metHz) (p.lastEdge - p.used), p.lastEdge))
    else if now = p.used then (f, p.used)
    else (min f (mkRat metHz (now - p.used)), p.used)
  let quiet := decide (p.lastEdge + 2 * metHz ≤ now) || decide (p.started < 2)
  s.setPulse c { p with edges := 0, used := f1.2, freq := f64 (if quiet then 0 else f1.1) }

/-! Heat and cooling meters (R337 to R340). -/

/-- The flow channel of a meter is at fault (R340). -/
def State.flowFault (s : State) (n : Nat) : Bool :=
  let ch := s.rd (MT_HM_SRC_FLOW_CH n)
  if s.rd (MT_HM_SRC_FLOW_KIND n) = 0 then s.rd (MT_ADC_STAT_FAULT ch) == 1
  else decide (s.pulseLimit ch ≤ r64 (s.pulseIn ch).freq)

/-- The sign of a pulse flow: 1 of DIR_CH is reverse. -/
def State.pulseSign (s : State) (n : Nat) : Rat :=
  if s.rd (MT_HM_SRC_DIR_EN n) = 1 && (s.pulseIn (s.rd (MT_HM_SRC_DIR_CH n))).level then -1 else 1

/-- The signed mass flow of a meter in kg/s. -/
def State.meterFlow (s : State) (n : Nat) : Rat :=
  let ch := s.rd (MT_HM_SRC_FLOW_CH n)
  let rho := r64 (s.heatMeter n).rho
  if s.rd (MT_HM_SRC_FLOW_KIND n) = 0 then s.adcValue ch * rho / 3600
  else s.pulseSign n * r64 (s.pulseIn ch).freq * r32 (s.reg (MT_HM_K n)).toNat * rho / 1000000

/-- LO of register k of a meter, in the order of R339: heat forward and reverse, cooling forward and reverse, volume
forward and reverse. -/
def heatLo (n k : Nat) : Nat := MT_HE_LO n k

/-- A portion of water metered (R339): its signed flow, and its mass in kg. -/
def State.meterPortion (s : State) (n : Nat) (q mass : Rat) : State :=
  let h := s.heatMeter n
  let s0 := s.setHeatMeter n { h with below := decide (rabs q < mkRat (s.rd (MT_HM_CUT_LF_CUT n)) 1000) }
  if rabs q < mkRat (s.rd (MT_HM_CUT_LF_CUT n)) 1000 then s0
  else
    let d := if 0 < q then 0 else 1
    let s1 :=
      if d ≠ s0.rd (MT_HM_STAT_DIR n) then
        let s2 := ((s0.bump (MT_HE_REV_COUNT n) 1).wr (MT_HM_STAT_DIR n) d).setHeatMeter n
          { s0.heatMeter n with runFrom := s0.cal }
        if s0.rd (MT_HM_REV_REV_HIST n) = 0x3FF then s2
        else s2.histValue (s0.rd (MT_HM_REV_REV_HIST n)) (f64 (mkRat (s0.cal - h.runFrom : Nat) cycPerS)) s0.time
      else s0
    let s3 := s1.addEnergy (heatLo n (4 + d)) (mass / r64 h.rho * 1000000)
    let dT := r64 h.tSup - r64 h.tRet
    let dtMin := mkRat (s.rd (MT_HM_CUT_DT_MIN n)) 100
    let mode := s.rd (MT_HM_SRC_MODE n)
    -- kJ/kg to mWh: 1 mWh is 3.6 J
    let e := mass * (r64 h.hSup - r64 h.hRet) * 1000 / (mkRat 36 10)
    if s.rd (MT_HM_STAT_T_FAULT n) = 1 then s3
    else if dtMin < dT ∧ mode ≠ 1 then s3.addEnergy (heatLo n d) e
    else if dT < -dtMin ∧ mode ≠ 0 then s3.addEnergy (heatLo n (2 + d)) (-e)
    else s3

/-- T_FAULT stands while either RTD of a meter is OPEN or SHORT, with F1 on entry (R340). -/
def State.meterFault (s : State) (n : Nat) : State :=
  let bad (c : Nat) : Bool := s.rd (MT_RTD_STAT_OPEN c) == 1 || s.rd (MT_RTD_STAT_SHORT c) == 1
  let t := bad (s.rd (MT_HM_SRC_SUP_RTD n)) || bad (s.rd (MT_HM_SRC_RET_RTD n))
  let s1 := s.wr (MT_HM_STAT_T_FAULT n) (b2n t)
  if t && s.rd (MT_HM_STAT_T_FAULT n) == 0 then s1.recordFault 1 bMeter 0 n else s1

/-- The faults and times of a meter at a sample (R340). -/
def State.meterStatus (s : State) (n : Nat) : State :=
  let s2 := (s.meterFault n).wr (MT_HM_STAT_FLOW_FAULT n) (b2n (s.flowFault n))
  let h := s2.heatMeter n
  if s2.rd (MT_HM_STAT_T_FAULT n) = 1 then
    (if 7999 ≤ h.unmetered then (s2.bump (MT_HM_STAT_UNMETERED_S n) 1).setHeatMeter n { h with unmetered := 0 }
     else s2.setHeatMeter n { h with unmetered := h.unmetered + 1 })
  else s2

/-- One sample of a meter. -/
def State.meterSample (s : State) (n : Nat) : State :=
  if s.rd (MT_HM_SRC_EN n) = 0 then s
  else
    let s1 := s.meterStatus n
    let q := s1.meterFlow n
    let s2 := s1.setHeatMeter n { s1.heatMeter n with flow := f64 q, time := s.time }
    if s.rd (MT_HM_SRC_FLOW_KIND n) = 0 then s2.meterPortion n q (rabs q / 8000)
    else s2.setHeatMeter n { s2.heatMeter n with below := decide (rabs q < mkRat (s.rd (MT_HM_CUT_LF_CUT n)) 1000) }

/-- One pulse of the flow channel of a meter (R337, R339). -/
def State.meterPulse (s : State) (n : Nat) : State :=
  let q := s.meterFlow n
  s.meterPortion n q (r32 (s.reg (MT_HM_K n)).toNat * r64 (s.heatMeter n).rho / 1000000)

/-- A temperature and the pressure brought into the supported range (R338). -/
def clampState (p t : Rat) : Rat × Rat :=
  let tt : Rat := if t < 0 then 0 else if 180 < t then 180 else t
  let pp : Rat := if p < 200 then 200 else if 2500 < p then 2500 else p
  (if pp < waterPsat tt + 50 then waterPsat tt + 50 else pp, tt)

/-- Properties of a meter at an RTD conversion (R338): outside the range they are those of the nearest point inside it,
RANGE is set while that lasts, F1 is recorded on entry and an event with the duration in seconds at its end. -/
def State.meterProps (s : State) (n : Nat) : State :=
  let h := s.heatMeter n
  let tS := (s.rtdCh (s.rd (MT_HM_SRC_SUP_RTD n))).temp
  let tR := (s.rtdCh (s.rd (MT_HM_SRC_RET_RTD n))).temp
  let p := r32 (s.reg (MT_HM_P n)).toNat
  let cS := clampState p (r64 tS)
  let cR := clampState p (r64 tR)
  let out := decide (cS ≠ (p, r64 tS)) || decide (cR ≠ (p, r64 tR))
  let cF := if s.rd (MT_HM_SRC_FLOW_POS n) = 1 then cS else cR
  let h1 := { h with
    rho := f64 (waterRho cF.1 cF.2), hSup := f64 (waterH cS.1 cS.2), hRet := f64 (waterH cR.1 cR.2), tSup := tS, tRet := tR }
  let s1 := (s.setHeatMeter n h1).wr (MT_HM_STAT_RANGE n) (b2n out)
  match h.rangeFrom, out with
  | none, true => (s1.recordFault 1 bMeter 0 n).setHeatMeter n { h1 with rangeFrom := some s.cal }
  | some t, false => (s1.event bMeter 0 ((s.cal - t) / cycPerS)).setHeatMeter n { h1 with rangeFrom := none }
  | _, _ => s1

/-! RTD channels (R330). -/

/-- R0 of a sensor type. -/
def rtdR0 (ty : Nat) : Rat := if ty = 1 then 100 else if ty = 2 then 500 else 1000

/-- The resistance ratio of EN 60751 at a temperature. -/
def ptRatio (t : Rat) : Rat :=
  let a := dec 39083 (-7)
  let b := dec (-5775) (-10)
  let c := dec (-4183) (-15)
  1 + a * t + b * t * t + (if t < 0 then c * (t - 100) * t * t * t else 0)

/-- The temperature at which the ratio is reached, by halving an interval. -/
def ptBisect : Nat → Rat → Rat → Rat → Rat
  | 0, lo, _, _ => lo
  | k + 1, lo, hi, r =>
    let m := (lo + hi) / 2
    if ptRatio m ≤ r then ptBisect k m hi r else ptBisect k lo m r

/-- The temperature of a resistance ratio, by the inverse Callendar–Van Dusen equation. -/
def ptInverse (r : Rat) : Rat := ptBisect 80 (-250) 1000 r

/-- One conversion of one channel: a value, or OPEN or SHORT with the previous value kept as invalid. -/
def State.rtdConvert (s : State) (c : Nat) (ohms : Nat) : State :=
  let ty := s.rd (MT_RTD_CFG_TYPE c)
  if ty = 0 then (s.wr (MT_RTD_STAT_OPEN c) 0).wr (MT_RTD_STAT_SHORT c) 0
  else
    let r := r64 ohms / rtdR0 ty
    let open_ := decide (fpDecode fmt64 ohms = .inf false) || decide (4 < r)
    let short := !open_ && decide (r < mkRat 4 10)
    let x := s.rtdCh c
    let x1 := { x with ohms := ohms, at_ := s.now, temp := if open_ || short then x.temp else f64 (ptInverse r) }
    ((s.setRtd c x1).wr (MT_RTD_STAT_OPEN c) (b2n open_)).wr (MT_RTD_STAT_SHORT c) (b2n short)

/-- An offset is MT_RTD_CFG, whose TYPE lands at the start of a conversion. -/
def isRtdCfg (off : Nat) : Bool := decide (MT_RTD_CFG 0 ≤ off) && decide (off < MT_RTD_CFG 16) && off % 8 == 0

/-- RTD_CONVERSION (R330, R338, R340): all channels have converted, concurrently, and every meter takes its properties and
faults. A new TYPE takes effect at the conversion that starts then (R350). -/
def execRtdConversion (ohms : List (BitVec 64)) (s : State) : Out :=
  .next (
    if s.rd MT_STAT_FROZEN = 1 then s
    else
      let s1 := s.each (List.range 16) (fun t c => t.rtdConvert c ((ohms[c]?).getD 0).toNat)
      (s1.each (List.range 16) (fun t n =>
        if t.rd (MT_HM_SRC_EN n) = 1 then (t.meterProps n).meterFault n else t)).landArmed isRtdCfg)

/-! Feeders (R334, R335). -/

/-- The voltage shifted by 90°: an antisymmetric filter of 255 taps, whose centre lies 127 samples back. -/
def shifted (hist : List Nat) : Rat :=
  let x (k : Nat) : Rat := r64 ((hist[k]?).getD 0)
  rsum ((List.range 127).map (fun k => r64 (Config.hilbertTap (k + 1)).toNat * (x (128 + k) - x (126 - k))))

/-- One sample of a feeder's elements: v × i in W, and v90 × i in var with the current of the sample at the filter's centre,
which compensates its delay (R335; DEDUCED, assumption 101). -/
def State.fdrSample (s : State) (n : Nat) : FdrSample :=
  let vch := [s.rd (MT_FDR_VCH_V1 n), s.rd (MT_FDR_VCH_V2 n), s.rd (MT_FDR_VCH_V3 n)]
  let ich := [s.rd (MT_FDR_ICH_I1 n), s.rd (MT_FDR_ICH_I2 n), s.rd (MT_FDR_ICH_I3 n)]
  let v (k : Nat) : Nat := (s.adcCh (vch.getD k 0)).hist.headD 0
  let i (k : Nat) : Nat := (s.adcCh (ich.getD k 0)).hist.headD 0
  let w (k : Nat) : Rat := shifted (s.adcCh (vch.getD k 0)).hist
  let late (k : Nat) : Nat := ((s.adcCh (ich.getD k 0)).hist[127]?).getD 0
  let three := s.rd (MT_FDR_VCH_WIRING n) = 1
  let pairs : List (Nat × Nat) := if three then [(0, 0), (1, 2)] else [(0, 0), (1, 1), (2, 2)]
  let used := pairs.flatMap (fun x => [vch.getD x.1 0, ich.getD x.2 0])
  { v := [v 0, v 1, v 2], i := [i 0, i 1, i 2],
    p := pairs.map (fun x => r64 (v x.1) * r64 (i x.2)), q := pairs.map (fun x => w x.1 * r64 (late x.2)),
    fault := used.any (fun c => s.rd (MT_ADC_STAT_FAULT c) == 1) }

/-- The rms of component k over the samples of a block. -/
def blockRms (b : List FdrSample) (f : FdrSample → List Nat) (k : Nat) : Nat :=
  f32 (ratSqrt (rsum (b.map (fun x => r64 ((f x).getD k 0) * r64 ((f x).getD k 0))) / (max 1 b.length : Nat)))

/-- A block of a feeder classified (R335): `b` holds its samples. -/
def State.fdrBlock (s : State) (n : Nat) (b : List FdrSample) (noSync : Bool) : State :=
  let t : Rat := mkRat b.length 8000
  let pSum := rsum (b.map (fun x => rsum x.p)) / 8000
  let qSum := rsum (b.map (fun x => rsum x.q)) / 8000
  let start := r32 (s.reg (MT_FDR_START n)).toNat
  let clip := b.any (fun x => x.fault)
  let lo (k : Nat) : Nat := MT_FE_LO n k
  let mwh (e : Rat) : Rat := rabs e / mkRat 36 10
  let s1 :=
    if b.isEmpty || (decide (rabs pSum / t < start) && decide (rabs qSum / t < start)) then s
    else
      let quad := if 0 ≤ pSum then (if 0 ≤ qSum then 0 else 3) else (if 0 ≤ qSum then 1 else 2)
      ((s.addEnergy (lo (if 0 ≤ pSum then 0 else 1)) (mwh pSum)).addEnergy (lo (2 + quad)) (mwh qSum)).wr
        (MT_FDR_STAT_QUADRANT n) quad
  let f := s1.feeder n
  let phase (k : Nat) : Nat := f32 (rsum (b.map (fun x => x.p.getD k 0)) / (max 1 b.length : Nat))
  let s2 := s1.setFeeder n { f with
    hz := if noSync then s1.freshVal.toNat % 2 ^ 32 else f32 (mkRat 8000 (max 1 b.length)),
    vrms := (List.range 3).map (blockRms b (fun x => x.v)), irms := (List.range 3).map (blockRms b (fun x => x.i)),
    p := f32 (pSum / (if t = 0 then 1 else t)), q := f32 (qSum / (if t = 0 then 1 else t)),
    phase := (List.range 3).map phase, time := s.time }
  let s3 := if noSync then s2.drawn else s2
  let s4 := (s3.wr (MT_FDR_STAT_CLIP n) (b2n clip)).wr (MT_FDR_STAT_NO_SYNC n) (b2n noSync)
  if clip then s4.recordFault 1 bMeter 0 n else s4

/-- One sample of a feeder: a block ends at a rising zero crossing of V1, with hysteresis of 2 % of the nominal input
(10 mV), when it has 100 samples or more; with no crossing after 200 it ends at 160 (R335). -/
def State.feederSample (s : State) (n : Nat) : State :=
  if s.rd (MT_FDR_VCH_EN n) = 0 then s
  else
    let f := s.feeder n
    let c := s.rd (MT_FDR_VCH_V1 n)
    let volts := (s.adcValue c - r32 (s.reg (MT_ADC_OFS c)).toNat) / r32 (s.reg (MT_ADC_SCALE c)).toNat
    let crossing := f.below && decide (0 ≤ volts)
    let below := if volts ≤ mkRat (-1) 100 then true else if crossing then false else f.below
    let block := s.fdrSample n :: f.block
    let s1 := s.setFeeder n { f with block := block, below := below }
    if crossing && decide (100 ≤ block.length) then
      (s1.setFeeder n { s1.feeder n with block := [] }).fdrBlock n block false
    else if 200 ≤ block.length then
      (s1.setFeeder n { s1.feeder n with block := block.take (block.length - 160) }).fdrBlock n
        (block.drop (block.length - 160)) true
    else s1

/-! Calibration, and the power-fail freeze. -/

/-- The outage of every meter that runs, since the last sample saved, is recorded at the first sample after RESTORE (R346): its
number in CODE, plant meters from 16, and the interval in units of 2⁻¹⁵ s (DESIGN CHOICE, assumption 102). -/
def State.recordOutage (s : State) : State :=
  match s.meter.outageFrom with
  | none => s
  | some t =>
    let on := ((List.range 4).filter (fun n => s.rd (MT_FDR_VCH_EN n) == 1)) ++
      ((List.range 16).filter (fun n => s.rd (MT_HM_SRC_EN n) == 1)).map (fun n => 16 + n)
    let s1 := s.each on (fun u n => u.event bMeter n (s.time - t))
    s1.setMeter { s1.meter with outageFrom := none }

/-- The enabled ADC channel that the rotation visits after channel c (R332). -/
def State.calNext (s : State) (c : Nat) : Option Nat :=
  let on := (List.range 32).filter (fun x => s.rd (MT_ADC_CFG_EN x) == 1)
  match on.find? (fun x => decide (c < x)) with
  | some x => some x
  | none => on.head?

/-- The calibration step in progress ends. -/
def State.calIdle (s : State) : State :=
  let s1 := (s.wr MT_STAT_CAL_BUSY 0).wr MT_STAT_CAL_CH 0x3F
  s1.setMeter { s1.meter with calPhase := 0 }

/-- A step goes on to what it waits for next. -/
def State.calNextPhase (s : State) (k : Nat) : State := s.setMeter { s.meter with calPhase := k, calFrom := s.now }

/-- A step fails (R333): the channel keeps its own samples and its coefficients. -/
def State.calFails (s : State) : State :=
  let c := s.rd MT_STAT_CAL_CH
  ((s.calIdle.wr (MT_ADC_STAT_CAL_FAIL c) 1).bump MT_CNT_CALFAIL_COUNT 1).recordFault 1 bMeter E_CAL c

/-- Gain and offset of a modulator from its readings: the gain from ±0.75 of full scale, the offset from zero (DESIGN CHOICE,
assumption 103). -/
def calCoef (r : CalReading) (full : Rat) : Rat × Rat :=
  let span := r64 r.plus.toNat - r64 r.minus.toNat
  let gain := if span = 0 then 0 else mkRat 3 2 * full / span
  (gain, -(gain * r64 r.zero.toNat))

/-- The coefficients of a chain from its readings. -/
def calOf (low high : CalReading) : AdcCal :=
  let l := calCoef low fullScale
  let h := calCoef high highScale
  ⟨l.1, l.2, h.1, h.2⟩

/-- Gain or offset differs too much from the old one (R333). -/
def coefFar (old new oldOfs newOfs full : Rat) : Bool :=
  decide (mkRat 5 10000 * rabs old < rabs (new - old)) || decide (mkRat 5 10000 * full < rabs (newOfs - oldOfs))

/-- New coefficients of a channel that fail its step. -/
def calBad (c : Nat) (a b : AdcCal) : Bool :=
  coefFar a.lowGain b.lowGain a.lowOfs b.lowOfs fullScale ||
    (decide (c < 16) && coefFar a.highGain b.highGain a.highOfs b.highOfs highScale)

/-- CALIBRATION_STEP (R332, R333): a step begins when CAL_S has passed since the last one began, and goes on as its
measurements of 2 s and comparisons of 1 s end; the channel is carried by the spare chain from the first comparison that
passes to the second. -/
def execCalibrationStep (how : CalStep) (s : State) : Out :=
  let c := s.rd MT_STAT_CAL_CH
  let m := s.meter
  .next (
    match how with
    | .begins =>
      if s.rd MT_CTL_CAL_EN = 1 && s.rd MT_STAT_CAL_BUSY == 0 && m.running && s.rd MT_STAT_FROZEN == 0 &&
          decide (m.calAt + s.rd MT_CTL_CAL_S * cycPerS ≤ s.now) then
        (match s.calNext m.calLast with
         | some x =>
           (((s.wr MT_STAT_CAL_BUSY 1).wr MT_STAT_CAL_CH x).setMeter { m with calLast := x, calAt := s.now }).calNextPhase 1
         | none => s)
      else s
    | .measured low high =>
      if decide (s.now < m.calFrom + 2 * cycPerS) then s
      else if m.calPhase = 1 then (s.setMeter { m with spare := calOf low high }).calNextPhase 2
      else if m.calPhase = 4 then
        (if calBad c (s.adcCh c).cal (calOf low high) then s.calFails
         else (s.setMeter { m with calNew := calOf low high }).calNextPhase 5)
      else s
    | .compared d =>
      if decide (s.now < m.calFrom + cycPerS) || !(m.calPhase == 2 || m.calPhase == 5) then s
      else if mkRat 5 100000 < rabs (r64 d.toNat) then s.calFails
      else if m.calPhase = 2 then s.calNextPhase 4
      else (s.setAdc c { s.adcCh c with cal := m.calNew }).calIdle)

/-- Metering is frozen (R346): every feeder block ends as it stands, and FROZEN is set. -/
def State.freezeMetering (s : State) : State :=
  let s1 := s.each (List.range 4) (fun t n =>
    let f := t.feeder n
    if f.block.isEmpty then t else (t.setFeeder n { f with block := [] }).fdrBlock n f.block false)
  (s1.setMeter { s1.meter with closing := false }).wr MT_STAT_FROZEN 1

/-- A confirmed PWR_WARN (R333, R346): a calibration step is abandoned, and the sample in progress becomes the last one; without
a sample in progress metering is frozen at once. -/
def State.closeMetering (s : State) : State :=
  let s1 := s.calIdle
  if s1.meter.running then s1.setMeter { s1.meter with closing := true } else s1.freezeMetering

/-- The registers of 96 bits, by their LO words (R346). -/
def energyRegs : List Nat :=
  (List.range 4).flatMap (fun n => (List.range 6).map (fun k => MT_FE_LO n k)) ++
    (List.range 16).flatMap (fun n => (List.range 6).map (fun k => heatLo n k))

/-- The metering registers of a retained record (R346). -/
def meterKept : List Nat :=
  energyRegs.flatMap (fun lo => [lo, lo + 4, lo + 8, lo + 12]) ++ (List.range 16).flatMap (fun n => [MT_HE_REV n, MT_HM_STAT n])

/-- The save record takes the metering registers as the last sample left them. -/
def State.saveMeters (s : State) : State :=
  let put (r : Retained) : Retained := { r with
    regs := r.regs.map (fun x => if meterKept.contains x.1 then (x.1, s.reg x.1) else x), frac := s.meter.frac, meterTime := s.cal }
  { s with boot := { s.boot with saving := s.boot.saving.map put } }

/-! The input image block (R349). -/

/-- The twelve bytes of a register of 96 bits. -/
def State.energyBytes (s : State) (lo : Nat) : List Byte := leBytes 12 (s.energy lo)

/-- The bytes of the records, from the header on. -/
def State.adcRecord (s : State) (c : Nat) : List Byte :=
  let st := s.rd (MT_ADC_CFG_EN c) + 2 * s.rd (MT_ADC_STAT_HG_IN_USE c) + 4 * s.rd (MT_ADC_STAT_FAULT c)
  leBytes 4 (f32 (s.adcValue c)) ++ leBytes 4 (f32 (rms160 (s.adcCh c).hist)) ++ leBytes 4 st ++ leBytes 4 0

/-- Milliseconds since the channel's last conversion. R349 states no value for a channel that has never converted, and
that one is free. -/
def State.rtdAge (s : State) (c : Nat) : Nat :=
  let x := s.rtdCh c
  if x.at_ = 0 then (Config.rtdAge c s.now).toNat else (s.now - x.at_) / cycPerMs

def State.rtdRecord (s : State) (c : Nat) : List Byte :=
  let x := s.rtdCh c
  let st := s.rd (MT_RTD_STAT_OPEN c) + 2 * s.rd (MT_RTD_STAT_SHORT c) + 4 * b2n (s.rd (MT_RTD_CFG_TYPE c) != 0)
  leBytes 4 (f32 (r64 x.temp)) ++ leBytes 4 (f64to32 x.ohms).1 ++ leBytes 4 st ++ leBytes 4 (s.rtdAge c)

def State.pulseRecord (s : State) (c : Nat) : List Byte :=
  let p := s.pulseIn c
  leBytes 4 (f32 (r64 p.freq)) ++ leBytes 4 (s.reg (MT_PLS_CNT c)).toNat ++
    leBytes 4 (b2n p.level + 2 * s.rd (MT_PLS_CFG_EN c)) ++ leBytes 4 0

def State.feederRecord (s : State) (n : Nat) : List Byte :=
  let f := s.feeder n
  let st := s.rd (MT_FDR_VCH_EN n) + 2 * s.rd (MT_FDR_STAT_NO_SYNC n) + 4 * s.rd (MT_FDR_STAT_CLIP n) +
    16 * s.rd (MT_FDR_STAT_QUADRANT n)
  let three (xs : List Nat) : List Byte := (List.range 3).flatMap (fun k => leBytes 4 (xs.getD k 0))
  leBytes 4 st ++ leBytes 4 f.hz ++ three f.vrms ++ three f.irms ++ leBytes 4 f.p ++ leBytes 4 f.q ++ three f.phase ++
    leBytes 12 0 ++ (List.range 6).flatMap (fun k => s.energyBytes (MT_FE_LO n k)) ++ leBytes 8 f.time ++ leBytes 112 0

/-- Thermal power in W that a meter shows. -/
def State.meterPower (s : State) (n : Nat) : Rat :=
  let h := s.heatMeter n
  r64 h.flow * (r64 h.hSup - r64 h.hRet) * 1000

def State.meterRecord (s : State) (n : Nat) : List Byte :=
  let h := s.heatMeter n
  let st := s.rd (MT_HM_SRC_EN n) + 2 * s.rd (MT_HM_STAT_RANGE n) + 4 * s.rd (MT_HM_STAT_T_FAULT n) +
    8 * s.rd (MT_HM_STAT_FLOW_FAULT n) + 16 * s.rd (MT_HM_STAT_DIR n) + 32 * b2n h.below
  leBytes 4 st ++ leBytes 4 (f32 (r64 h.flow)) ++ leBytes 4 (f32 (r64 h.tSup)) ++ leBytes 4 (f32 (r64 h.tRet)) ++
    leBytes 4 (f32 (s.meterPower n)) ++ leBytes 4 (s.reg (MT_HE_REV n)).toNat ++
    (List.range 6).flatMap (fun k => s.energyBytes (heatLo n k)) ++ leBytes 8 h.time ++ leBytes 24 0

/-- The records of the metering block, from its start. -/
def State.meterBlock (s : State) : List Byte :=
  let flags := s.rd MT_STAT_FROZEN + 2 * s.rd MT_STAT_CAL_BUSY + 4 * s.rd MT_STAT_SAT_ANY
  leBytes 8 s.meter.samples ++ leBytes 4 flags ++ leBytes 52 0 ++ (List.range 32).flatMap s.adcRecord ++
    (List.range 16).flatMap s.rtdRecord ++ (List.range 32).flatMap s.pulseRecord ++ leBytes 192 0 ++
    (List.range 4).flatMap s.feederRecord ++ (List.range 16).flatMap s.meterRecord

/-- The metering block in the image at `base`: as it was after the last sample (R349), and before the first as it stands. -/
def State.meterFreeze (s : State) (base : Nat) : State :=
  (s.clearMem (base + 0x1000) 0x4000).putBytes (base + 0x1000) (if s.meter.shown.isEmpty then s.meterBlock else s.meter.shown)

/-! The sample and the pulse. -/

/-- METER_SAMPLE (R327 to R340, R269, R346, R350): the sample in progress of every running channel, pulse input, feeder and
meter completes at its 125 µs boundary; pending values come into force for the next. After a confirmed PWR_WARN it is the
last, and the save record takes the registers. -/
def execMeterSample (adc : List AdcSample) (s : State) : Out :=
  .next (
    if !s.meter.running || s.rd MT_STAT_FROZEN == 1 then s
    else
      let s1 := (s.recordOutage).each ((List.range 32).zip adc) (fun t x =>
        if t.rd (MT_ADC_CFG_EN x.1) = 1 then t.adcSample x.1 x.2 else t)
      let s2 := s1.each (List.range 32) (fun t c => if t.rd (MT_PLS_CFG_EN c) = 1 then t.pulseSample c else t)
      let s3 := s2.each (List.range 4) State.feederSample
      let s4 := s3.each (List.range 16) State.meterSample
      let s5 := s4.setMeter { s4.meter with samples := s4.meter.samples + 1, lastAt := s4.cal }
      if s5.meter.closing then s5.freezeMetering.saveMeters
      else (s5.setMeter { s5.meter with shown := s5.meterBlock }).landArmed (fun off => !isRtdCfg off))

/-- How long a level must last to count (R331). -/
def State.stableCycles (s : State) (c : Nat) : Nat :=
  let d := s.rd (MT_PLS_CFG_DEB c)
  if d = 0 then 4 * cycPerUs else d * 100 * cycPerUs

/-- The level of an input counts: an edge of the counted sense is counted, timestamped, and metered by the meters that the
input feeds. -/
def State.pulseCounts (s : State) (c : Nat) : State :=
  let p := s.pulseIn c
  let s1 := s.setPulse c { p with level := p.raw }
  if s.rd MT_STAT_FROZEN = 1 || s.rd (MT_PLS_CFG_EN c) == 0 || p.raw != (s.rd (MT_PLS_CFG_EDGE c) == 0) then s1
  else
    let s2 := (s1.setPulse c { p with
      level := p.raw, edges := p.edges + 1, lastEdge := s.metNow, started := min 2 (p.started + 1) }).bumpWrap
      (MT_PLS_CNT_COUNT c) 1
    s2.each (List.range 16) (fun t n =>
      if t.rd (MT_HM_SRC_EN n) = 1 && t.rd (MT_HM_SRC_FLOW_KIND n) == 1 && t.rd (MT_HM_SRC_FLOW_CH n) == c then
        t.meterPulse n
      else t)

/-- A level that has been stable for long enough counts. -/
def State.pulseSettle (s : State) (c : Nat) : State :=
  let p := s.pulseIn c
  if p.raw != p.level && decide (p.since + s.stableCycles c ≤ s.now) then s.pulseCounts c else s

/-- PULSE_EDGE (R331, R337): the level at an input changes; it counts once it has been stable (pulseTick). -/
def execPulseEdge (input : Fin 32) (level : Bool) (s : State) : Out :=
  let c := input.val
  let s1 := s.pulseSettle c
  let p := s1.pulseIn c
  .next (if p.raw = level then s1 else s1.setPulse c { p with raw := level, since := s1.now })

/-- Debouncing by time (R331). -/
def State.pulseTick (s : State) : State := s.each (List.range 32) State.pulseSettle

/-! Tariffs (R347, R348). -/

/-- The address of the schedule: COUNT in its 16-byte header, then the breakpoints. -/
def tariffBase : Nat := sd 0x2580000

/-- Breakpoints of 16 bytes are well formed: TIME strictly rising, PRICE finite within ±10⁶. -/
def Sec.breaksOk (v : Sec) (off count : Nat) : Bool :=
  (List.range count).all (fun k =>
    let p := v.u (off + 16 * k + 8) 8
    f64Like p && (k = 0 || decide (v.u (off + 16 * (k - 1)) 8 < v.u (off + 16 * k) 8)))
where
  /-- A finite binary64 value within ±10⁶. -/
  f64Like (b : Nat) : Bool := fpFinite fmt64 b && decide (rabs (r64 b) ≤ 1000000)

/-- A TARIFFS section is well formed (R347). -/
def Sec.tariffsOk (v : Sec) : Bool :=
  let n := v.u 0 2
  decide (16 ≤ v.len) && decide (1 ≤ n) && decide (n ≤ 1024) && v.zero 2 14 && decide (v.len = 16 + 16 * n) &&
    v.breaksOk 16 n

/-- A schedule of breakpoints put in force. -/
def State.putTariffs (s : State) (count : Nat) (breaks : List Byte) : State :=
  ((s.clearMem tariffBase (16 + 16 * 1024)).st tariffBase 2 count).putBytes (tariffBase + 16) breaks

/-- The price at a calendar time, as binary64 bits (R347). -/
def State.priceAt (s : State) (t : Nat) : Nat :=
  let n := s.ld tariffBase 2
  let brk (k : Nat) : Nat := s.ld (tariffBase + 16 + 16 * k) 8
  let at_ (k : Nat) : Nat := s.ld (tariffBase + 16 + 16 * k + 8) 8
  if n = 0 then 0
  else at_ (((List.range n).filter (fun k => decide (brk k ≤ t))).getLastD 0)

end Sys2Proof.Machine
end

