-- ==== Sys2Proof/Machine/Survey.lean ====
section
/-! DEFINITION. The surveyors' standing work (R136 to R150): measurement points, furrows, their placement and seeding,
and the furrow advance. -/

namespace Sys2Proof.Machine

/-- π to 50 decimal places. -/
def ratPi : Rat := dec 314159265358979323846264338327950288419716939937510 (-50)

/-- The state with the surveyors' state replaced. -/
def State.setSurvey (s : State) (v : Survey) : State := { s with survey := v }

/-! Measurement points (R139 to R141). -/

/-- A value of the image at `base`: raw value and validity of a point source (R140). -/
def State.pointRaw (s : State) (base source : Nat) : Rat × Bool :=
  let i := source % 4096
  match source / 4096 with
  | 0 =>
    let a := base + 0x1040 + 16 * i
    (r32 (s.ld a 4), !bitOf (s.ld (a + 8) 4) 2)
  | 1 =>
    let a := base + 0x1240 + 16 * i
    (r32 (s.ld a 4), !(bitOf (s.ld (a + 8) 4) 0 || bitOf (s.ld (a + 8) 4) 1))
  | 2 =>
    let f := r32 (s.ld (base + 0x1340 + 16 * i) 4)
    (f, decide (f < s.pulseLimit i))
  | 3 =>
    let a := base + 0x6000 + 80 * i
    (((s.ldS (a + 0x10) 4 : Int) : Rat), decide (s.ld (a + 4) 4 < 10) && !bitOf (s.ld a 4) 3)
  | 4 =>
    let a := base + 0x1A00 + 128 * (i / 16)
    let q := i % 16
    let off := if q = 0 then 4 else if q = 1 then 8 else if q = 2 then 0xC else 0x10
    (r32 (s.ld (a + off) 4), !(bitOf (s.ld a 4) 2 || bitOf (s.ld a 4) 3))
  | _ => (((s.ldS (base + 0x1F0000 + 4 * i) 4 : Int) : Rat), true)

/-- The value of a point of the table: raw × SCALE + OFFSET (R139). -/
def State.pointValue (s : State) (base i : Nat) : Option (Rat × Bool) :=
  (s.points[i]?).map (fun p =>
    let r := s.pointRaw base p.source
    (r.1 * r32 p.scale + r32 p.offset, r.2))

/-- An input of a gazetteer entry in the image (R216): value, presence bit, substitution. -/
def State.stationInput (s : State) (base g i : Nat) : Int × Bool × Bool :=
  let a := base + 0x30000 + 64 * g
  (s.ldS (a + 4 * i) 4, bitOf (s.ld (a + 0x24) 4) 0, bitOf (s.ld (a + 0x24) 4) (8 + i))

/-- The code of an implicit point (R141). -/
def implicitCode (g i : Nat) : Nat := 0x10000 + 4 * g + i

/-- The snapshot entry of a point: of the table, or implicit. -/
def State.snapOf (s : State) (base code : Nat) : SnapPoint :=
  if code < 0x10000 then
    match s.pointValue base code with
    | some (v, ok) => ⟨code, f64 v, ok, false⟩
    | none => ⟨code, 0, false, false⟩
  else
    let g := (code - 0x10000) / 4
    let (v, present, sub) := s.stationInput base g ((code - 0x10000) % 4)
    ⟨code, f64 (mkRat v 1000), present || sub, sub⟩

/-- A point is quarantined (R161): from the launch after the campaign that found it. -/
def State.quarantined (s : State) (code : Nat) : Bool :=
  s.survey.quar.any (fun q => q.1 == code && decide (q.2.2.1 ≤ s.camp.launched))

/-- The pumps, valves, plants or stores of a field. -/
def Bank.ofField (b : Bank) (t f : Nat) : List Nat := (b.all t).filter (fun i => b.fieldOf t i == f)

/-- The substation nodes of a field. -/
def Bank.stations (b : Bank) (f : Nat) : List Nat := (b.nodesOf f).filter (fun n => b.u 0 n 0 1 == 2)

/-- The codes of the points that a field uses: those its records name, and its implicit points. -/
def Bank.fieldPoints (b : Bank) (f : Nat) : List Nat :=
  let named := (b.nodesOf f).flatMap (fun n => [b.u 0 n 0x18 2, b.u 0 n 0x1A 2]) ++
    (b.ofField tPump f).map (fun i => b.u 2 i 0x44 2) ++ (b.ofField tValve f).map (fun i => b.u 3 i 0x1C 2) ++
    (b.ofField tStore f).flatMap (fun i => (List.range 8).map (fun k => b.u 5 i (0x70 + 2 * k) 2))
  named.filter (fun c => c != 0xFFFF) ++
    (b.stations f).flatMap (fun n => (List.range 3).map (implicitCode (b.u 0 n 4 2)))

/-! Furrows (R143 to R145). -/

/-- The furrow area (R112). -/
def furrowArea : Nat := sd 0xC00000

/-- The address of a pipe's furrow. -/
def Bank.furrowAddr (b : Bank) (p : Nat) : Nat := furrowArea + b.u 1 p 0x34 4

/-- The furrow at an address. -/
def State.furrow (s : State) (a : Nat) : Furrow :=
  let cap := s.ld (a + 4) 2
  let fl := s.ld (a + 6) 1
  let pa (k : Nat) : Nat := a + 32 + 16 * ((s.ld a 2 + k) % cap)
  { head := s.ld a 2, cap := cap, stalled := bitOf fl 0, dir := bitOf fl 1, forced := bitOf fl 2,
    reversals := s.ld (a + 7) 1, massTotal := s.ld (a + 8) 4, outFrom := s.ld (a + 0xC) 4, outTo := s.ld (a + 0x10) 4,
    qAdv := s.ld (a + 0x14) 4, delay := s.ld (a + 0x18) 4, advMs := s.ld (a + 0x1C) 4,
    parcels := (List.range (s.ld (a + 2) 2)).map (fun k => ⟨s.ld (pa k) 4, s.ld (pa k + 4) 4, s.ld (pa k + 8) 8⟩) }

/-- FLAGS of a furrow. -/
def Furrow.flags (f : Furrow) : Nat := b2n f.stalled + 2 * b2n f.dir + 4 * b2n f.forced

/-- A furrow written at an address. -/
def State.putFurrow (s : State) (a : Nat) (f : Furrow) : State :=
  let s1 := s.putWhole a (leBytes 2 f.head ++ leBytes 2 f.parcels.length ++ leBytes 2 f.cap ++ leBytes 1 f.flags ++
    leBytes 1 f.reversals ++ leBytes 4 f.massTotal ++ leBytes 4 f.outFrom ++ leBytes 4 f.outTo ++ leBytes 4 f.qAdv ++
    leBytes 4 f.delay ++ leBytes 4 f.advMs)
  s1.each f.parcels.zipIdx (fun t x =>
    t.putWhole (a + 32 + 16 * ((f.head + x.2) % f.cap)) (leBytes 4 x.1.mass ++ leBytes 4 x.1.temp ++ leBytes 8 x.1.entry))

/-- A of R144: the cross-section of a pipe. -/
def Bank.section_ (b : Bank) (p : Nat) : Rat := ratPi * b.f 1 p 0xC * b.f 1 p 0xC / 4

/-- κ of R144 at a temperature. -/
def Bank.kappa (b : Bank) (p : Nat) (temp : Rat) : Rat := b.f 1 p 0x14 / (rhoT temp * b.section_ p * cpT temp)

/-- The temperature of a parcel of a pipe at a time (R144). -/
def Bank.parcelTemp (b : Bank) (p : Nat) (x : Parcel) (time : Nat) : Rat :=
  let g := b.f 1 p 0x1C
  let t := r32 x.temp
  let dt : Rat := mkRat ((time : Int) - x.entry) 32768
  g + (t - g) * ratExp (-(b.kappa p t) * dt)

/-- A mass-weighted mean; 0 of nothing. -/
def weightedMean (xs : List (Rat × Rat)) : Rat :=
  let m := rsum (xs.map (fun x => x.1))
  if m = 0 then 0 else rsum (xs.map (fun x => x.1 * x.2)) / m

/-- The mean temperature of a furrow at a time (R115). -/
def Bank.furrowMean (b : Bank) (p : Nat) (f : Furrow) (time : Nat) : Rat :=
  weightedMean (f.parcels.map (fun x => (r32 x.mass, b.parcelTemp p x time)))

/-- 10⁹ s as binary32 bits: DELAY of a stalled furrow. -/
def stalledDelay : Nat := f32 1000000000

/-- A furrow seeded at a temperature (R145). -/
def Bank.seeded (b : Bank) (p temp time ms : Nat) : Furrow :=
  let m := f32 (rhoT (r32 temp) * b.section_ p * b.f 1 p 8)
  { head := 0, cap := b.u 1 p 0x30 2, stalled := true, dir := false, forced := false, reversals := 0, massTotal := m,
    outFrom := temp, outTo := temp, qAdv := 0, delay := stalledDelay, advMs := ms % 2 ^ 32,
    parcels := [⟨m, temp, time⟩] }

/-- Every pipe in use of a bank seeded at its T_INIT (R143, R145). -/
def State.seedFurrows (s : State) (bank : Nat) : State :=
  let b := s.atlas bank
  (s.clearMem furrowArea 0x1400000).each (b.all tPipe) (fun t p =>
    t.putFurrow (b.furrowAddr p) (b.seeded p (b.u 1 p 0x2C 4) s.time (s.rd64 PASS_MS_LO PASS_MS_HI)))

/-- A pipe keeps its furrow from one bank to another (R115). -/
def keepsFurrow (old new : Bank) (p : Nat) : Bool :=
  old.used tPipe p && [0, 2].all (fun o => old.u 1 p o 2 == new.u 1 p o 2) &&
    [8, 0xC].all (fun o => old.u 1 p o 4 == new.u 1 p o 4) && old.u 1 p 0x30 2 == new.u 1 p 0x30 2

/-- The surveyor that advances a pipe of a bank (R136). -/
def Bank.pipeRegion (b : Bank) (p : Nat) : Option Nat :=
  if b.used tPipe p && b.used tField (b.u 1 p 6 1) then some (b.u 6 (b.u 1 p 6 1) 0 1) else none

/-- The region of the advance in progress that works on a pipe. -/
def State.advancing (s : State) (p : Nat) : Option Nat :=
  (s.survey.advances.find? (fun a => (s.atlas a.bank).pipeRegion p == some a.region)).map Advance.region

/-- The advance in progress of a region. -/
def State.advanceOf (s : State) (r : Nat) : Option Advance := s.survey.advances.find? (fun a => a.region == r)

/-- The furrow of a pipe waits for an advance (R149). -/
def State.isLate (s : State) (p : Nat) : Bool := s.survey.late.any (fun x => x.pipe == p)

/-- The furrow of a pipe: as it waits to be seeded again, else where the bank in force places it. -/
def State.pipeFurrow (s : State) (p : Nat) : Furrow :=
  match (s.survey.late.find? (fun x => x.pipe == p)).bind LateSeed.water with
  | some f => f
  | none => s.furrow (s.atlasInForce.furrowAddr p)

/-- The furrow of a pipe replaced, wherever it is held. -/
def State.setPipeFurrow (s : State) (p : Nat) (f : Furrow) : State :=
  if s.survey.late.any (fun x => x.pipe == p && x.water.isSome) then
    s.setSurvey { s.survey with late := s.survey.late.map (fun x => if x.pipe = p then { x with water := some f } else x) }
  else s.putFurrow (s.atlasInForce.furrowAddr p) f

/-- The pipes whose furrows a change of bank leaves to an advance in progress (R149): those that it works on and that R115
seeds again or that are deleted, and those created in its region. -/
def State.lateFor (s : State) (o n : Bank) : List LateSeed :=
  (List.range 24576).filterMap (fun p =>
    if s.isLate p then none
    else if o.used tPipe p then
      (if keepsFurrow o n p && n.used tPipe p then none
       else (s.advancing p).map (fun r => ⟨r, p, some (s.furrow (o.furrowAddr p)), false, s.time⟩))
    else (n.pipeRegion p).bind (fun r => (s.advanceOf r).map (fun _ => ⟨r, p, none, true, s.time⟩)))

/-- The furrows placed for a new bank (R143), with those of R115 seeded again, now or once an advance in progress has
completed (R149). -/
def State.replaceFurrows (s : State) (oldBank newBank : Nat) : State :=
  let o := s.atlas oldBank
  let n := s.atlas newBank
  let ms := s.rd64 PASS_MS_LO PASS_MS_HI
  let late := s.survey.late.map (fun x => if o.used tPipe x.pipe then x else { x with fresh := true }) ++ s.lateFor o n
  let s1 := s.setSurvey { s.survey with late := late }
  (s1.clearMem furrowArea 0x1400000).each ((n.all tPipe).filter (fun p => !s1.isLate p)) (fun t p =>
    let f := s.furrow (o.furrowAddr p)
    t.putFurrow (n.furrowAddr p)
      (if keepsFurrow o n p then f
       else if o.used tPipe p then n.seeded p (f32 (o.furrowMean p f s.time)) s.time ms
       else n.seeded p (n.u 1 p 0x2C 4) s.time ms))

/-- A furrow that waited is seeded again (R115, R149), at the mean of its water at the headland by the parameters of the
bank `b` of the advance; that of a pipe deleted since is dropped. -/
def State.seedLate (s : State) (b : Bank) (x : LateSeed) : State :=
  let n := s.atlasInForce
  let ms := s.rd64 PASS_MS_LO PASS_MS_HI
  if !n.used tPipe x.pipe then s
  else
    s.putFurrow (n.furrowAddr x.pipe) (match x.water, x.fresh with
      | some f, false => n.seeded x.pipe (f32 (b.furrowMean x.pipe f x.time)) s.time ms
      | _, _ => n.seeded x.pipe (n.u 1 x.pipe 0x2C 4) s.time ms)

/-- The furrows that wait for the advance of a region are seeded again. -/
def State.reseed (s : State) (r : Nat) : State :=
  let b := ((s.advanceOf r).map (fun a => s.atlas a.bank)).getD s.atlasInForce
  let xs := s.survey.late.filter (fun x => x.region == r)
  let s1 := s.setSurvey { s.survey with late := s.survey.late.filter (fun x => x.region != r) }
  s1.each xs (fun t x => t.seedLate b x)

/-! The furrow summary (R150, R217). -/

/-- The record of a pipe; all 0 where it is not in use. -/
def State.summaryRecord (s : State) (b : Bank) (p : Nat) : List Byte :=
  if !b.used tPipe p then List.replicate 16 0
  else
    let f := s.pipeFurrow p
    leBytes 4 f.outFrom ++ leBytes 4 f.outTo ++ leBytes 4 f.delay ++
      leBytes 4 (f.flags + 8 * b2n (b.flag 1 p 5 0) + 256 * f.reversals)

/-- The summary written into the image at `base`. -/
def State.summaryFreeze (s : State) (base : Nat) : State :=
  let b := s.atlasInForce
  (s.clearMem (base + 0x130000) 0x60000).each (b.all tPipe) (fun t p =>
    t.putBytes (base + 0x130000 + 16 * p) (s.summaryRecord b p))

/-! The flow basis (R146). -/

/-- The substation flow of a field in the image at `base`, in g/s. -/
def State.fieldDraw (s : State) (b : Bank) (base f : Nat) : Int :=
  (b.stations f).foldl (fun acc n => acc + (s.stationInput base (b.u 0 n 4 2) 2).1) 0

/-- s_f of R146. -/
def State.flowScale (s : State) (b : Bank) (base f : Nat) : Rat :=
  match s.survey.dEst.lookup f with
  | none => 1
  | some e =>
    if e < 100 then 1
    else
      let x : Rat := mkRat (s.fieldDraw b base f) e.toNat
      min 2 (max (mkRat 1 2) x)

/-- q_adv of a pipe (R146). -/
def State.flowBasis (s : State) (b : Bank) (base p : Nat) : Rat :=
  let f := b.u 1 p 6 1
  if !b.flag 1 p 5 0 || !b.flag 6 f 1 1 then 0
  else s.flowScale b base f * r64 ((s.survey.qhat.lookup p).getD 0)

/-! The advance (R147, R148). -/

/-- Water taken from an end of a furrow, whose parcels stand outlet first: what is removed, and what stays. -/
def takeWater : List Parcel → Rat → List (Rat × Parcel) × List Parcel
  | [], _ => ([], [])
  | x :: xs, m =>
    if m ≤ 0 then ([], x :: xs)
    else if r32 x.mass ≤ m then
      let r := takeWater xs (m - r32 x.mass)
      ((r32 x.mass, x) :: r.1, r.2)
    else ([(m, x)], { x with mass := f32 (r32 x.mass - m) } :: xs)

/-- What sweep 1 moved in a pipe: flow, mass, and the temperature of the water that left. -/
structure Moved where
  pipe : Nat
  q : Rat
  mass : Rat
  out : Rat
deriving DecidableEq, Repr

/-- Sweep 1 for one pipe: its furrow afterwards, and what moved. -/
def State.outflow (s : State) (b : Bank) (a : Advance) (p : Nat) : Furrow × Moved :=
  let f := s.pipeFurrow p
  let dt : Rat := mkRat (((a.ms : Int) - f.advMs) % 2 ^ 32) 1000
  let q := s.flowBasis b a.base p
  let f1 := { f with qAdv := f32 q, advMs := a.ms % 2 ^ 32 }
  if rabs q < mkRat (s.rd (SV_CFG1_Q_CUT a.region)) 1000 then
    ({ f1 with stalled := true, delay := stalledDelay }, ⟨p, q, 0, 0⟩)
  else
    let m := min (rabs q * dt) (r32 f.massTotal)
    let back := decide (q < 0)
    let taken :=
      if r32 f.massTotal ≤ m then (f.parcels.map (fun x => (r32 x.mass, x)), [])
      else takeWater (if back then f.parcels else f.parcels.reverse) m
    let left := if back then taken.2 else taken.2.reverse
    let tOut := weightedMean (taken.1.map (fun x => (x.1, b.parcelTemp p x.2 a.time)))
    let f2 := { f1 with
      parcels := left,
      head := if back then (f.head + (f.parcels.length - left.length)) % f.cap else f.head,
      outTo := if back || taken.1.isEmpty then f.outTo else f32 tOut,
      outFrom := if back && !taken.1.isEmpty then f32 tOut else f.outFrom,
      reversals := if !f.stalled && back != f.dir then min 255 (f.reversals + 1) else f.reversals,
      dir := back, stalled := false, delay := f32 (r32 f.massTotal / rabs q) }
    (f2, ⟨p, q, m, tOut⟩)

/-- The node at the outlet end, and at the inlet end, of a pipe with a flow. -/
def Bank.outletNode (b : Bank) (p : Nat) (q : Rat) : Nat := if q < 0 then b.u 1 p 0 2 else b.u 1 p 2 2
def Bank.inletNode (b : Bank) (p : Nat) (q : Rat) : Nat := if q < 0 then b.u 1 p 2 2 else b.u 1 p 0 2

/-- CIRCUIT of the return partner's side (R153). -/
def returnCircuit (c : Nat) : Nat := if c = 0 then 1 else 3

/-- Node n is the return partner of the substation node before it (R153). -/
def Bank.isPartner (b : Bank) (n : Nat) : Bool :=
  decide (0 < n) && b.used 0 n && b.used 0 (n - 1) && b.u 0 (n - 1) 0 1 == 2 && b.u 0 n 0 1 == 1 &&
    b.u 0 n 2 1 == b.u 0 (n - 1) 2 1 && (b.u 0 (n - 1) 1 1 == 0 || b.u 0 (n - 1) 1 1 == 2) &&
    b.u 0 n 1 1 == returnCircuit (b.u 0 (n - 1) 1 1)

/-- A point's value where it is valid and not quarantined. -/
def State.goodPoint (s : State) (base code : Nat) : Option Rat :=
  if code = 0xFFFF || s.quarantined code then none
  else
    match s.pointValue base code with
    | some (v, true) => some v
    | _ => none

/-- The supply temperature of a plant that R147 gives its SUPPLY node. -/
def State.plantSupply (s : State) (b : Bank) (base i : Nat) : Rat :=
  let m := b.u 4 i 6 1
  if m < 16 then r32 (s.ld (base + 0x1A00 + 128 * m + 8) 4) else r32 (s.ld (base + 0x190000 + 0x6240 + 16 * i) 4)

/-- The temperature of a store's top or bottom layer (R147): its point, else the last estimate of its node. MEAS_LAYER has
eight points, so with more than eight layers the eighth point stands for the bottom (DESIGN CHOICE, assumption 91). -/
def State.storeTemp (s : State) (b : Bank) (base i n : Nat) (top : Bool) : Option Rat :=
  let k := if top then 0 else min 8 (b.u 5 i 1 1) - 1
  match s.goodPoint base (b.u 5 i (0x70 + 2 * k) 2) with
  | some v => some v
  | none =>
    (s.survey.ests.findSome? (fun e => if e.field == b.u 0 n 2 1 then e.temp.lookup n else none)).map r64

/-- T_node (R147) of a node, from the water that an advance delivers. -/
def State.nodeTemp (s : State) (b : Bank) (base : Nat) (moved : List Moved) (n : Nat) : Rat :=
  match s.goodPoint base (b.u 0 n 0x1A 2) with
  | some v => v
  | none =>
    let att := b.u 0 n 6 2
    let store := if b.u 0 n 0 1 = 4 then s.storeTemp b base att n (b.u 5 att 2 2 == n) else none
    if b.isPartner n then mkRat (s.stationInput base (b.u 0 (n - 1) 4 2) 1).1 1000
    else if b.u 0 n 0 1 = 3 ∧ b.u 4 att 2 2 = n then s.plantSupply b base att
    else
      match store with
      | some v => v
      | none =>
        let ins := moved.filter (fun m => decide (0 < m.mass) && b.outletNode m.pipe m.q == n)
        if ins.isEmpty then
          (match s.survey.tnode.lookup n with
           | some t => r64 t
           | none => b.f 0 n 0x14)
        else weightedMean (ins.map (fun m => (m.mass, m.out)))

/-- Sweep 2 for one pipe: water enters at the inlet end, merging under R148; whether the merge was forced. -/
def Bank.inflow (b : Bank) (p : Nat) (f : Furrow) (back : Bool) (m tIn tol : Rat) (time : Nat) : Furrow × Bool :=
  let fresh : Parcel := ⟨f32 m, f32 tIn, time⟩
  let inlet := if back then f.parcels.getLast? else f.parcels.head?
  let add : Furrow :=
    if back then { f with parcels := f.parcels ++ [fresh] }
    else { f with parcels := fresh :: f.parcels, head := (f.head + f.cap - 1) % f.cap }
  match inlet with
  | none => (add, false)
  | some x =>
    let tP := b.parcelTemp p x time
    let near := decide (rabs (tIn - tP) ≤ tol)
    if near || f.parcels.length = f.cap then
      let y : Parcel :=
        ⟨f32 (r32 x.mass + m), f32 ((r32 x.mass * tP + m * tIn) / (r32 x.mass + m)), time⟩
      let ps := if back then f.parcels.dropLast ++ [y] else y :: f.parcels.drop 1
      ({ f with parcels := ps, forced := f.forced || !near }, !near)
    else (add, false)

/-- The pipes that a region's surveyor works on (R136). -/
def Bank.regionPipes (b : Bank) (r : Nat) : List Nat :=
  (b.all tPipe).filter (fun p => b.used tField (b.u 1 p 6 1) && b.u 6 (b.u 1 p 6 1) 0 1 == r)

/-- One advance, both sweeps (R148), and the re-seeding that waited for it (R149). A node on pipes of two regions has its
T_node computed by each of their advances, and the later one stands (DESIGN CHOICE, assumption 92). -/
def State.runAdvance (s : State) (a : Advance) : State :=
  let b := s.atlas a.bank
  let pipes := b.regionPipes a.region
  let live := pipes.filter (fun p => b.flag 1 p 5 0)
  let outs := live.map (s.outflow b a)
  let s1 := s.each outs (fun t x => t.setPipeFurrow x.2.pipe x.1)
  let s2 := s1.each (pipes.filter (fun p => !b.flag 1 p 5 0)) (fun t p =>
    t.setPipeFurrow p { t.pipeFurrow p with advMs := a.ms % 2 ^ 32 })
  let moved := outs.map (fun x => x.2)
  let nodes := (b.all tNode).filter (fun n =>
    (b.used tField (b.u 0 n 2 1) && b.u 6 (b.u 0 n 2 1) 0 1 == a.region) ||
      pipes.any (fun p => b.u 1 p 0 2 == n || b.u 1 p 2 2 == n))
  let temps := nodes.map (fun n => (n, s.nodeTemp b a.base moved n))
  let s3 := s2.setSurvey { s2.survey with
    tnode := temps.map (fun x => (x.1, f64 x.2)) ++ s2.survey.tnode.filter (fun x => !nodes.contains x.1),
    tLaunch :=
      if s2.camp.inFlight.any (fun c => c.launchPass % 2 ^ 32 == a.pass) then
        temps.map (fun x => (x.1, f64 x.2)) ++ s2.survey.tLaunch.filter (fun x => !nodes.contains x.1)
      else s2.survey.tLaunch }
  let tol := mkRat (s.rd (SV_CFG0_MERGE_TOL a.region)) 100
  let s4 := s3.each (moved.filter (fun m => decide (0 < m.mass))) (fun t m =>
    let r := b.inflow m.pipe (t.pipeFurrow m.pipe) (decide (m.q < 0)) m.mass
      ((temps.lookup (b.inletNode m.pipe m.q)).getD 0) tol a.time
    let u := t.setPipeFurrow m.pipe r.1
    if r.2 then u.bump (SV_CNT_MERGE_COUNT a.region) 1 else u)
  let us := min 65535 ((s.now - a.began) / cycPerUs)
  let s5 := (((s4.wr (SV_STAT_ADV_BUSY a.region) 0).setReg (SV_ADV_PASS a.region) (BitVec.ofNat 32 a.pass)).wr
    (SV_ADV_TIME_LAST_US a.region) us).raise (SV_ADV_TIME_MAX_US a.region) us
  let s6 := s5.each pipes (fun t p => t.putBytes (t.inBaseNext + 0x130000 + 16 * p) (t.summaryRecord t.atlasInForce p))
  let s7 := s6.reseed a.region
  s7.setSurvey { s7.survey with advances := s7.survey.advances.filter (fun x => x.region != a.region) }

/-- Furrow advance falls due at a freeze edge (R148, R149): a region whose advance is still running skips this one. -/
def State.advancesDue (s : State) : State :=
  s.each (List.range 8) (fun t r =>
    if t.rd (SV_CTL_ADV_EN r) = 0 then t
    else if t.survey.advances.any (fun a => a.region == r) then
      let n := (t.survey.skips.lookup r).getD 0 + 1
      let t1 := ((t.bump (SV_CNT_SKIP_COUNT r) 1).recordFault 0 bSurveyor 0 0).setSurvey { t.survey with
        skips := (r, n) :: t.survey.skips.filter (fun x => x.1 != r) }
      if n = 8 then t1.recordFault 1 bSurveyor 0 0 else t1
    else
      (t.wr (SV_STAT_ADV_BUSY r) 1).setSurvey { t.survey with
        skips := t.survey.skips.filter (fun x => x.1 != r),
        advances := t.survey.advances ++ [⟨r, t.rd ATLAS_STAT_IN_FORCE, t.time, t.rd64 PASS_MS_LO PASS_MS_HI,
          (t.reg GLOBAL_PASS_CNT_LO).toNat, t.inBase, t.now⟩] })

/-- A region's surveyor is being restarted (R138). -/
def State.svRestarting (s : State) (r : Nat) : Bool := s.survey.restarting.any (fun x => x.1 == r)

/-- FURROW_ADVANCE_COMPLETE (R148): the region's advance finishes; a snapshot still due comes first (R136). -/
def execFurrowAdvanceComplete (region : Fin 8) (s : State) : Out :=
  let r := region.val
  .next (
    if s.svRestarting r || s.survey.snapDue.contains r then s
    else
      match s.survey.advances.find? (fun a => a.region == r) with
      | some a => s.runAdvance a
      | none => s)

end Sys2Proof.Machine
end

