-- ==== Sys2Proof/Machine/Slice.lean ====
section
/-! DEFINITION. The problem slice of a Tiller lane (R166 to R172): header, directory, rows, layout and the checks that a
lane makes on GO. -/

namespace Sys2Proof.Machine

/-! Codes (R172). -/

def E_HEADER : Nat := 0x10
def E_SHAPE : Nat := 0x11
def E_LAYOUT : Nat := 0x12
def E_MASK : Nat := 0x13
def E_VALUE : Nat := 0x14

/-- Bytes of a slice. -/
def sliceLen : Nat := 393216

/-- Where a lane's slice begins (R35). -/
def sliceBase (n : Nat) : Nat := aWork + 0x400000 * (n / 8) + 0x60000 * (n % 8)

/-- A lane's slice seen in a state. -/
def State.slice_ (s : State) (n : Nat) : Sec := ⟨s, sliceBase n, sliceLen⟩

/-! The problem (R167 to R171). -/

def Sec.stages (v : Sec) : Nat := v.u 5 1

/-- A field of the directory entry of stage j. -/
def Sec.dir (v : Sec) (j off n : Nat) : Nat := v.u (0x100 + 32 * j + off) n

def Sec.nVar (v : Sec) (j : Nat) : Nat := v.dir j 0 1
def Sec.nEq (v : Sec) (j : Nat) : Nat := v.dir j 1 1
def Sec.nIneq (v : Sec) (j : Nat) : Nat := v.dir j 2 1
def Sec.nMeas (v : Sec) (j : Nat) : Nat := v.dir j 4 2

/-- The bits set in a word. -/
def popcount32 (w : Nat) : Nat := ((List.range 32).filter (bitOf w)).length

/-- A row of a stage: its offset, whether it is a measurement row, its MASK. -/
structure SliceRow where
  off : Nat
  meas : Bool
  mask : Nat
deriving DecidableEq, Repr

/-- Bytes of a row (R169). -/
def SliceRow.len (r : SliceRow) : Nat := (if r.meas then 24 else 16) + 8 * popcount32 r.mask

/-- Rows laid out one after another from an offset. -/
def Sec.rowsFrom (v : Sec) (meas : Bool) : Nat → Nat → List SliceRow
  | 0, _ => []
  | k + 1, off =>
    let r : SliceRow := ⟨off, meas, v.u off 4⟩
    r :: Sec.rowsFrom v meas k (off + r.len)

/-- Bytes of the vectors at the start of a stage's data: LO, HI, g and H. -/
def Sec.vecLen (v : Sec) (j : Nat) : Nat :=
  let n := v.nVar j
  8 * (3 * n + if v.dir j 3 1 = 0 then n else n * (n + 1) / 2)

/-- The rows of the stage whose data begins at an offset. -/
def Sec.rowsAt (v : Sec) (j start : Nat) : List SliceRow :=
  let plain := v.rowsFrom false (v.nEq j + v.nIneq j) (start + v.vecLen j)
  plain ++ v.rowsFrom true (v.nMeas j) (start + v.vecLen j + sumN (plain.map SliceRow.len))

/-- The rows of stage j, at the place its directory entry gives. -/
def Sec.rows (v : Sec) (j : Nat) : List SliceRow := v.rowsAt j (v.dir j 8 4)

/-- Bytes of the data of stage j. -/
def Sec.dataLen (v : Sec) (j start : Nat) : Nat := v.vecLen j + sumN ((v.rowsAt j start).map SliceRow.len)

/-- Bytes of the result block of stage j (R170). -/
def Sec.resLen (v : Sec) (j : Nat) : Nat :=
  8 * (2 * v.nVar j + v.nEq j + v.nIneq j) + (4 * v.nMeas j + 7) / 8 * 8

/-- A length rounded up to a multiple of 64. -/
def up64 (n : Nat) : Nat := (n + 63) / 64 * 64

/-- Offset and length of the data of each stage from j on, laid out without gaps (R171). -/
def Sec.dataPlan (v : Sec) : Nat → Nat → Nat → List (Nat × Nat)
  | 0, _, _ => []
  | k + 1, j, off => (off, v.dataLen j off) :: Sec.dataPlan v k (j + 1) (off + v.dataLen j off)

/-- The layout of R171: data of each stage, RES_OFF, RES_LEN, WORK_OFF. -/
def Sec.plan (v : Sec) : List (Nat × Nat) × Nat × Nat × Nat :=
  let data := v.dataPlan v.stages 0 (up64 (0x100 + 32 * v.stages))
  let dataEnd := up64 (0x100 + 32 * v.stages) + sumN (data.map (fun d => d.2))
  let res := up64 dataEnd
  let resLen := sumN ((List.range v.stages).map v.resLen)
  (data, res, resLen, up64 (res + resLen))

/-- K_j of R171: the variables of stage j in a row that also touches the stage before. -/
def Sec.coupledVars (v : Sec) (j : Nat) : Nat :=
  popcount32 ((v.rows j).foldl (fun acc r => if r.mask / 65536 = 0 then acc else acc ||| r.mask % 65536) 0)

/-- W_j of R171. -/
def Sec.workLen (v : Sec) (j : Nat) : Nat :=
  let n := v.nVar j
  8 * (7 * n + 3 * v.nEq j + 5 * v.nIneq j + n * (n + 1) / 2 + v.coupledVars j * (if j = 0 then 0 else v.nVar (j - 1)))

/-- The problem fits the slice (R171). -/
def Sec.fits (v : Sec) : Bool :=
  decide (v.u 0x34 4 + 4096 + sumN ((List.range v.stages).map v.workLen) ≤ sliceLen)

/-! The checks of R172: code and slice offset of the first failure. -/

/-- The first failing check of a list of (holds, offset). -/
def firstAt (code : Nat) (cs : List (Bool × Nat)) : Option (Nat × Nat) :=
  (cs.find? (fun c => !c.1)).map (fun c => (code, c.2))

/-- The first answer among several. -/
def firstSome {α : Type} : List (Option α) → Option α
  | [] => none
  | some a :: _ => some a
  | none :: r => firstSome r

/-- Limits taken in binary64 (assumption 10). -/
def f64In (bits : Nat) (lo hi : Rat) : Bool :=
  fpFinite fmt64 bits && decide (r64 (f64 lo) ≤ r64 bits) && decide (r64 bits ≤ r64 (f64 hi))

/-- Powers of ten that the tolerances are bounded by. -/
def tenTo (e : Nat) : Rat := mkRat 1 (10 ^ e)

/-- Step 1. -/
def Sec.checkHeader (v : Sec) : Option (Nat × Nat) :=
  firstAt E_HEADER ([(v.u 0 4 == 0x54494C4C, 0), (decide (v.u 4 1 ≤ 1), 4),
    (decide (1 ≤ v.stages) && decide (v.stages ≤ 64), 5), (decide (v.u 6 2 < 8), 6), (decide (v.u 0xD 1 ≤ 40), 0xD),
    (v.u 0xE 1 == 0 || (decide (20 ≤ v.u 0xE 1) && decide (v.u 0xE 1 ≤ 60)), 0xE), (v.u 0xF 1 == 0, 0xF)] ++
    (List.range 72).map (fun k => (v.u (0x38 + k) 1 == 0, 0x38 + k)))

/-- Step 2. -/
def Sec.checkShape (v : Sec) : Option (Nat × Nat) :=
  firstAt E_SHAPE ((List.range v.stages).flatMap (fun j =>
    let o := 0x100 + 32 * j
    [(decide (1 ≤ v.nVar j) && decide (v.nVar j ≤ 16), o), (decide (v.nEq j ≤ 16), o + 1),
     (decide (v.nIneq j ≤ 32), o + 2), (decide (v.dir j 3 1 ≤ 1), o + 3),
     (decide (v.nMeas j ≤ 256) && (v.u 4 1 == 1 || v.nMeas j == 0), o + 4)]))

/-- Step 3. -/
def Sec.checkLayout (v : Sec) : Option (Nat × Nat) :=
  let (data, res, resLen, work) := v.plan
  let ress := prefixSums res ((List.range v.stages).map v.resLen)
  firstAt E_LAYOUT ([(v.u 0x28 4 == sumN (data.map (fun d => d.2)), 0x28), (v.u 0x2C 4 == res, 0x2C),
    (v.u 0x30 4 == resLen, 0x30), (v.u 0x34 4 == work, 0x34)] ++
    (List.range v.stages).flatMap (fun j =>
      let o := 0x100 + 32 * j
      [(v.dir j 8 4 == ((data[j]?).getD (0, 0)).1, o + 8), (v.dir j 0xC 4 == ((data[j]?).getD (0, 0)).2, o + 0xC),
       (v.dir j 0x10 4 == (ress[j]?).getD 0, o + 0x10)]))

/-- Step 5. -/
def Sec.checkMasks (v : Sec) : Option (Nat × Nat) :=
  firstAt E_MASK ((List.range v.stages).flatMap (fun j =>
    (v.rows j).map (fun r =>
      let before := if j = 0 then 0 else v.nVar (j - 1)
      (r.mask != 0 && decide (r.mask % 65536 < 2 ^ v.nVar j) && decide (r.mask / 65536 < 2 ^ before), r.off))))

/-- The tolerances of the header within R167. -/
def Sec.checkTols (v : Sec) : List (Bool × Nat) :=
  let tol (off : Nat) : Rat := if v.u off 8 = 0 then tenTo 8 else r64 (v.u off 8)
  [(v.u 0x10 8 == 0 || f64In (v.u 0x10 8) (tenTo 14) (tenTo 3), 0x10),
   (v.u 0x18 8 == 0 || f64In (v.u 0x18 8) (tenTo 14) (tenTo 3), 0x18),
   (v.u 0x20 8 == 0 || (f64In (v.u 0x20 8) (tenTo 14) (tenTo 2) && decide (max (tol 0x10) (tol 0x18) ≤ r64 (v.u 0x20 8))), 0x20)]

/-- Finite words from an offset. -/
def Sec.finiteWords (v : Sec) (off n : Nat) : List (Bool × Nat) :=
  (List.range n).map (fun k => (fpFinite fmt64 (v.u (off + 8 * k) 8), off + 8 * k))

/-- Bounds of a stage: no NaN, LO ≠ +∞, HI ≠ −∞, LO ≤ HI. -/
def Sec.checkBounds (v : Sec) (start n : Nat) : List (Bool × Nat) :=
  (List.range n).map (fun k => (v.u (start + 8 * k) 8 != fpInfBits fmt64 false && !fpIsNan fmt64 (v.u (start + 8 * k) 8),
    start + 8 * k)) ++
  (List.range n).map (fun k =>
    let hi := v.u (start + 8 * (n + k)) 8
    (hi != fpInfBits fmt64 true && !fpIsNan fmt64 hi && fpLe fmt64 (v.u (start + 8 * k) 8) hi, start + 8 * (n + k)))

/-- Values of a row: GROUP, RHS, WEIGHT, coefficients. -/
def Sec.checkRow (v : Sec) (r : SliceRow) : List (Bool × Nat) :=
  let w := if r.meas then 1 else 0
  (v.u (r.off + 4) 1 != 0xFF, r.off + 4) :: v.finiteWords (r.off + 8) (1 + w + popcount32 r.mask) ++
    (if r.meas then [(decide (0 < r64 (v.u (r.off + 0x10) 8)), r.off + 0x10)] else [])

/-- Step 6: the header, the data, and the part of the result area that is a warm start. -/
def Sec.checkValues (v : Sec) : Option (Nat × Nat) :=
  firstAt E_VALUE (v.checkTols ++
    (List.range v.stages).flatMap (fun j =>
      let d := v.dir j 8 4
      let n := v.nVar j
      v.checkBounds d n ++ v.finiteWords (d + 16 * n) ((v.vecLen j - 16 * n) / 8) ++ (v.rows j).flatMap v.checkRow) ++
    (List.range v.stages).flatMap (fun j =>
      let n := v.nVar j
      v.finiteWords (v.dir j 0x10 4) (if bitOf (v.u 6 2) 0 then 2 * n + v.nEq j + v.nIneq j else n)))

/-- The checks of R172 in their order. -/
def Sec.laneCheck (v : Sec) : Option (Nat × Nat) :=
  match v.checkHeader with
  | some e => some e
  | none =>
    match v.checkShape with
    | some e => some e
    | none =>
      match v.checkLayout with
      | some e => some e
      | none =>
        if !v.fits then some (E_CAPACITY, 0x34)
        else firstSome [v.checkMasks, v.checkValues]

end Sys2Proof.Machine
end

