-- ==== Sys2Proof/Machine/Solve.lean ====
section
/-! DEFINITION. The interior-point method of a lane in binary64 (R163, R166, R173 to R181): the problem read from a slice,
residuals and tests, the reduced matrix and its block factors, the two solves of an update, and the update itself. Sums run
in ascending order and are accumulated by the fused multiply-add of R163 (assumption 29). -/

namespace Sys2Proof.Machine

/-! Binary64 arithmetic of a lane (R163). -/

def dAdd (a b : Nat) : Nat := (fpAdd fmt64 a b).1
def dSub (a b : Nat) : Nat := (fpSub fmt64 a b).1
def dMul (a b : Nat) : Nat := (fpMul fmt64 a b).1
def dDiv (a b : Nat) : Nat := (fpDiv fmt64 a b).1
def dSqrt (a : Nat) : Nat := (fpSqrt fmt64 a).1
def dNeg (a : Nat) : Nat := fpNeg fmt64 a
def dAbs (a : Nat) : Nat := fpAbs fmt64 a

/-- a × b + c with one rounding. -/
def dFma (a b c : Nat) : Nat :=
  match fpDecode fmt64 a, fpDecode fmt64 b, fpDecode fmt64 c with
  | .fin n1 m1 e1, .fin n2 m2 e2, .fin n3 m3 e3 =>
    let e := min (e1 + e2) e3
    let t : Int := signedMag (n1 != n2) (m1 * m2 * 2 ^ (e1 + e2 - e).toNat) + signedMag n3 (m3 * 2 ^ (e3 - e).toNat)
    if t = 0 then (fpRound fmt64 ((n1 != n2) && n3) 0 e).1 else (fpRound fmt64 (decide (t < 0)) t.natAbs e).1
  | _, _, _ => dAdd (dMul a b) c

/-- The larger and the smaller of two values. -/
def dMax (a b : Nat) : Nat := if fpLt fmt64 a b then b else a
def dMin (a b : Nat) : Nat := if fpLt fmt64 b a then b else a

/-- The numbers 1, 1/2 and 2^e of the method. -/
def dOne : Nat := 0x3FF0000000000000
def dHalf : Nat := 0x3FE0000000000000
def dPow2 (e : Int) : Nat := f64 (ratPow2 e)

/-- The largest absolute value among values. -/
def dNorm (xs : List Nat) : Nat := xs.foldl (fun m v => dMax m (dAbs v)) 0

/-- Every value is finite (R179). -/
def allFinite (xs : List Nat) : Bool := xs.all (fpFinite fmt64)

/-! Vectors and blocks by stage. -/

/-- Entry i of a vector, entry i of stage j of a vector by stage, and entry (a, b) of a matrix; 0 where there is none. -/
def at1 (v : List Nat) (i : Nat) : Nat := (v[i]?).getD 0
def at2 (v : List (List Nat)) (j i : Nat) : Nat := at1 ((v[j]?).getD []) i
def atM (m : List (List Nat)) (a b : Nat) : Nat := at2 m a b

/-- The n values that a function gives. -/
def tab (n : Nat) (f : Nat → Nat) : List Nat := (List.range n).map f

/-- A block tridiagonal symmetric matrix: its diagonal blocks and its coupling blocks (j, j − 1). -/
structure Blocks where
  diag : List (List (List Nat))
  coup : List (List (List Nat))
deriving DecidableEq, Repr

/-- The diagonal block and the coupling block of stage j. -/
def Blocks.d (b : Blocks) (j : Nat) : List (List Nat) := (b.diag[j]?).getD []
def Blocks.c (b : Blocks) (j : Nat) : List (List Nat) := (b.coup[j]?).getD []

/-- Every element is finite. -/
def Blocks.finite (b : Blocks) : Bool := (b.diag ++ b.coup).all (fun m => m.all allFinite)

/-! The problem (R166). -/

/-- A row of a stage: its group, its MASK, its right-hand side, its weight, and its coefficient at each bit of MASK. -/
structure ProbRow where
  group : Nat
  mask : Nat
  rhs : Nat
  weight : Nat
  coefs : List (Nat × Nat)
deriving DecidableEq, Repr

/-- The coefficient at a bit of MASK. -/
def ProbRow.coef (r : ProbRow) (k : Nat) : Nat := (r.coefs.lookup k).getD 0

/-- A stage: variables, bounds, g, the full matrix H, and the rows. -/
structure ProbStage where
  n : Nat
  lo : List Nat
  hi : List Nat
  g : List Nat
  h : List (List Nat)
  eqs : List ProbRow
  ineqs : List ProbRow
  meas : List ProbRow
deriving DecidableEq, Repr

/-- A stage of a problem; one without variables where there is none. -/
def stageOf (p : List ProbStage) (j : Nat) : ProbStage := (p[j]?).getD ⟨0, [], [], [], [], [], [], []⟩

/-- A row read from a slice (R169). -/
def Sec.probRow (v : Sec) (r : SliceRow) : ProbRow :=
  let bits := (List.range 32).filter (bitOf r.mask)
  let a := r.off + if r.meas then 0x18 else 0x10
  { group := v.u (r.off + 4) 1, mask := r.mask, rhs := v.u (r.off + 8) 8,
    weight := if r.meas then v.u (r.off + 0x10) 8 else dOne, coefs := bits.zipIdx.map (fun b => (b.1, v.u (a + 8 * b.2) 8)) }

/-- A stage read from a slice (R168, R169). -/
def Sec.probStage (v : Sec) (j : Nat) : ProbStage :=
  let n := v.nVar j
  let a := v.dir j 8 4
  let rows := (v.rows j).map v.probRow
  let w (k : Nat) : Nat := v.u (a + 8 * k) 8
  { n := n, lo := tab n w, hi := tab n (fun i => w (n + i)), g := tab n (fun i => w (2 * n + i)),
    h := (List.range n).map (fun i => tab n (fun k =>
      if v.dir j 3 1 = 0 then (if i = k then w (3 * n + i) else 0)
      else w (3 * n + max i k * (max i k + 1) / 2 + min i k))),
    eqs := rows.take (v.nEq j), ineqs := (rows.drop (v.nEq j)).take (v.nIneq j), meas := rows.drop (v.nEq j + v.nIneq j) }

/-- The problem of a slice. -/
def Sec.problem (v : Sec) : List ProbStage := (List.range v.stages).map v.probStage

/-- A value for each variable of each stage, and for each row of a kind. -/
def perVar (p : List ProbStage) (f : Nat → Nat → Nat) : List (List Nat) := p.zipIdx.map (fun q => tab q.1.n (f q.2))
def perRow (p : List ProbStage) (kind : ProbStage → List ProbRow) (f : Nat → Nat → ProbRow → Nat) : List (List Nat) :=
  p.zipIdx.map (fun q => (kind q.1).zipIdx.map (fun r => f q.2 r.2 r.1))

/-- aᵀ x of a row of stage j. -/
def rowDot (x : List (List Nat)) (j : Nat) (r : ProbRow) : Nat :=
  r.coefs.foldl (fun acc c => dFma c.2 (if c.1 < 16 then at2 x j c.1 else if j = 0 then 0 else at2 x (j - 1) (c.1 - 16)) acc) 0

/-- acc plus entry (j, i) of Aᵀ y over the rows of a kind. -/
def colDot (p : List ProbStage) (kind : ProbStage → List ProbRow) (y : List (List Nat)) (j i acc : Nat) : Nat :=
  let add (stage bit acc : Nat) : Nat := (kind (stageOf p stage)).zipIdx.foldl (fun a r =>
    if bitOf r.1.mask bit then dFma (r.1.coef bit) (at2 y stage r.2) a else a) acc
  add (j + 1) (16 + i) (add j i acc)

/-- A matrix plus Σ w a aᵀ over the rows of a kind with the weights given. -/
def addRows (p : List ProbStage) (b : Blocks) (kind : ProbStage → List ProbRow) (w : List (List Nat)) : Blocks :=
  let add (stage bit1 bit2 acc : Nat) : Nat := (kind (stageOf p stage)).zipIdx.foldl (fun a r =>
    if bitOf r.1.mask bit1 && bitOf r.1.mask bit2 then
      dFma (dMul (at2 w stage r.2) (r.1.coef bit1)) (r.1.coef bit2) a else a) acc
  { diag := p.zipIdx.map (fun q => (List.range q.1.n).map (fun i => tab q.1.n (fun k =>
      add (q.2 + 1) (16 + i) (16 + k) (add q.2 i k (atM (b.d q.2) i k))))),
    coup := p.zipIdx.map (fun q => (List.range q.1.n).map (fun i =>
      tab (if q.2 = 0 then 0 else (stageOf p (q.2 - 1)).n) (fun k => add q.2 i (16 + k) (atM (b.c q.2) i k)))) }

/-- Entry (j, i) of M x for a block tridiagonal M. -/
def blockDot (p : List ProbStage) (b : Blocks) (x : List (List Nat)) (j i : Nat) : Nat :=
  let own := (List.range (stageOf p j).n).foldl (fun a k => dFma (atM (b.d j) i k) (at2 x j k) a) 0
  let up := if j = 0 then own
    else (List.range (stageOf p (j - 1)).n).foldl (fun a k => dFma (atM (b.c j) i k) (at2 x (j - 1) k) a) own
  (List.range (stageOf p (j + 1)).n).foldl (fun a k => dFma (atM (b.c (j + 1)) k i) (at2 x (j + 1) k) a) up

/-- H with the measurement rows, formed once at the start of the solve (R173). -/
def bigH (p : List ProbStage) : Blocks :=
  addRows p ⟨p.map (fun q => q.h), []⟩ ProbStage.meas (perRow p ProbStage.meas (fun _ _ r => r.weight))

/-- g with the measurement rows. -/
def bigG (p : List ProbStage) : List (List Nat) :=
  let wz := perRow p ProbStage.meas (fun _ _ r => dNeg (dMul r.weight r.rhs))
  perVar p (fun j i => colDot p ProbStage.meas wz j i (at1 (stageOf p j).g i))

/-- A variable with LO = HI is fixed at that value. -/
def fixedVar (p : List ProbStage) (j i : Nat) : Bool :=
  let lo := at1 (stageOf p j).lo i
  let hi := at1 (stageOf p j).hi i
  fpLe fmt64 lo hi && fpLe fmt64 hi lo

/-- A variable that takes part has a finite lower bound, a finite upper bound. -/
def hasLo (p : List ProbStage) (j i : Nat) : Bool := fpFinite fmt64 (at1 (stageOf p j).lo i) && !fixedVar p j i
def hasHi (p : List ProbStage) (j i : Nat) : Bool := fpFinite fmt64 (at1 (stageOf p j).hi i) && !fixedVar p j i

/-- x − LO and HI − x. -/
def aboveLo (p : List ProbStage) (x : List (List Nat)) (j i : Nat) : Nat := dSub (at2 x j i) (at1 (stageOf p j).lo i)
def belowHi (p : List ProbStage) (x : List (List Nat)) (j i : Nat) : Nat := dSub (at1 (stageOf p j).hi i) (at2 x j i)

/-! The start and the tests (R173). -/

/-- x moved inside each finite bound; a fixed variable at its value. -/
def startX (p : List ProbStage) (x : List (List Nat)) (j i : Nat) : Nat :=
  let q := stageOf p j
  if fixedVar p j i then at1 q.lo i
  else
    let t := if hasLo p j i && hasHi p j i then dMin dOne (dMul (f64 (mkRat 1 100)) (dSub (at1 q.hi i) (at1 q.lo i))) else dOne
    let a := if hasLo p j i then dMax (at2 x j i) (dAdd (at1 q.lo i) t) else at2 x j i
    if hasHi p j i then dMin a (dSub (at1 q.hi i) t) else a

/-- The iterate at the start, from the result area of the slice: the primal part, and the duals with or without WS_DUALS. -/
def Sec.startIter (v : Sec) (p : List ProbStage) : LaneIter :=
  let duals := bitOf (v.u 6 2) 0
  let w (j k : Nat) : Nat := v.u (v.dir j 0x10 4 + 8 * k) 8
  let x := perVar p (startX p (perVar p w))
  let least := f64 (mkRat 1 100)
  let zb (j i : Nat) : Nat := w j ((stageOf p j).n + (stageOf p j).eqs.length + (stageOf p j).ineqs.length + i)
  { x := x,
    y := perRow p ProbStage.eqs (fun j i _ => if duals then w j ((stageOf p j).n + i) else 0),
    s := perRow p ProbStage.ineqs (fun j _ r => dMax (dSub r.rhs (rowDot x j r)) dOne),
    z := perRow p ProbStage.ineqs (fun j i _ =>
      if duals then dMax (w j ((stageOf p j).n + (stageOf p j).eqs.length + i)) least else dOne),
    zl := perVar p (fun j i => if !hasLo p j i then 0 else if duals then dMax (dNeg (zb j i)) least else dOne),
    zu := perVar p (fun j i => if !hasHi p j i then 0 else if duals then dMax (zb j i) least else dOne) }

/-- H x + g + Eᵀ y + Cᵀ z at a variable. -/
def gradAt (p : List ProbStage) (h : Blocks) (g : List (List Nat)) (t : LaneIter) (j i : Nat) : Nat :=
  colDot p ProbStage.ineqs t.z j i (colDot p ProbStage.eqs t.y j i (dAdd (blockDot p h t.x j i) (at2 g j i)))

/-- r_d, which fixed variables have no part in; r_e; r_i. -/
def resD (p : List ProbStage) (t : LaneIter) : List (List Nat) :=
  let h := bigH p
  let g := bigG p
  perVar p (fun j i => if fixedVar p j i then 0 else dAdd (dSub (gradAt p h g t j i) (at2 t.zl j i)) (at2 t.zu j i))
def resE (p : List ProbStage) (t : LaneIter) : List (List Nat) :=
  perRow p ProbStage.eqs (fun j _ r => dSub (rowDot t.x j r) r.rhs)
def resI (p : List ProbStage) (t : LaneIter) : List (List Nat) :=
  perRow p ProbStage.ineqs (fun j i r => dSub (dAdd (rowDot t.x j r) (at2 t.s j i)) r.rhs)

/-- The pairs (value, dual) of the inequality rows and of the finite bounds. -/
def compPairs (p : List ProbStage) (t : LaneIter) : List (Nat × Nat) :=
  (t.s.flatten.zip t.z.flatten) ++
  p.zipIdx.flatMap (fun q => ((List.range q.1.n).filter (hasLo p q.2)).map (fun i => (aboveLo p t.x q.2 i, at2 t.zl q.2 i))) ++
  p.zipIdx.flatMap (fun q => ((List.range q.1.n).filter (hasHi p q.2)).map (fun i => (belowHi p t.x q.2 i, at2 t.zu q.2 i)))

/-- μ: 0 where there is nothing to count. -/
def muOf (p : List ProbStage) (t : LaneIter) : Nat :=
  let c := compPairs p t
  if c.isEmpty then 0 else dDiv (c.foldl (fun a w => dFma w.1 w.2 a) 0) (fpOfInt fmt64 c.length)

/-- The objective of R166. -/
def objective (p : List ProbStage) (x : List (List Nat)) : Nat :=
  p.zipIdx.foldl (fun acc q =>
    let quad := (List.range q.1.n).foldl (fun a i =>
      dFma (at2 x q.2 i) ((List.range q.1.n).foldl (fun b k => dFma (atM q.1.h i k) (at2 x q.2 k) b) 0) a) 0
    let lin := (List.range q.1.n).foldl (fun a i => dFma (at1 q.1.g i) (at2 x q.2 i) a) (dFma dHalf quad acc)
    q.1.meas.foldl (fun a r =>
      let d := dSub r.rhs (rowDot x q.2 r)
      dFma (dMul dHalf (dMul r.weight d)) d a) lin) 0

/-- max(‖r_e‖∞, ‖r_i‖∞). -/
def resP (p : List ProbStage) (t : LaneIter) : Nat := dMax (dNorm (resE p t).flatten) (dNorm (resI p t).flatten)

/-- ‖b_E‖∞, ‖b_C‖∞ and ‖g‖∞. -/
def normBE (p : List ProbStage) : Nat := dNorm (p.flatMap (fun q => q.eqs.map (fun r => r.rhs)))
def normBC (p : List ProbStage) : Nat := dNorm (p.flatMap (fun q => q.ineqs.map (fun r => r.rhs)))
def normG (p : List ProbStage) : Nat := dNorm (bigG p).flatten

/-- converged(t_f, t_g). -/
def convergedAt (p : List ProbStage) (t : LaneIter) (tf tg : Nat) : Bool :=
  let within (v lim : Nat) : Bool := fpLe fmt64 v (dMul tf (dAdd dOne lim))
  within (dNorm (resE p t).flatten) (normBE p) && within (dNorm (resI p t).flatten) (normBC p) &&
    within (dNorm (resD p t).flatten) (normG p) &&
    fpLe fmt64 (muOf p t) (dMul tg (dAdd dOne (dAbs (objective p t.x))))

/-- A residual, or μ, is infinite or NaN (R179). -/
def residualBroken (p : List ProbStage) (t : LaneIter) : Bool :=
  !(allFinite (resD p t).flatten && allFinite (resE p t).flatten && allFinite (resI p t).flatten && fpFinite fmt64 (muOf p t))

/-! The reduced matrix and its factors (R176 to R178). -/

/-- δ_e of an equality row: 2⁻²⁷ × ‖a‖². -/
def eqReg (r : ProbRow) : Nat := dMul (dPow2 (-27)) (r.coefs.foldl (fun a c => dFma c.2 c.2 a) 0)

/-- The matrix of R176 without its equality rows. -/
def phiPlain (p : List ProbStage) (t : LaneIter) : Blocks :=
  let b := addRows p (bigH p) ProbStage.ineqs (perRow p ProbStage.ineqs (fun j i _ => dDiv (at2 t.z j i) (at2 t.s j i)))
  let bound (j i : Nat) : Nat := dAdd
    (if hasLo p j i then dDiv (at2 t.zl j i) (aboveLo p t.x j i) else 0)
    (if hasHi p j i then dDiv (at2 t.zu j i) (belowHi p t.x j i) else 0)
  { b with diag := b.diag.zipIdx.map (fun m => m.1.zipIdx.map (fun r => r.1.zipIdx.map (fun e =>
      if r.2 = e.2 then dAdd e.1 (bound m.2 r.2) else e.1))) }

/-- Φ with its equality rows, and the rows and columns of fixed variables left out. -/
def phiOf (p : List ProbStage) (plain : Blocks) : Blocks :=
  let b := addRows p plain ProbStage.eqs (perRow p ProbStage.eqs (fun _ _ r => dDiv dOne (eqReg r)))
  { diag := b.diag.zipIdx.map (fun m => m.1.zipIdx.map (fun r => r.1.zipIdx.map (fun e =>
      if fixedVar p m.2 r.2 || fixedVar p m.2 e.2 then 0 else e.1))),
    coup := b.coup.zipIdx.map (fun m => m.1.zipIdx.map (fun r => r.1.zipIdx.map (fun e =>
      if fixedVar p m.2 r.2 || fixedVar p (m.2 - 1) e.2 then 0 else e.1))) }

/-- The factors of a stage: the columns of L_jj, the pivots, and the rows of L_(j, j−1). -/
structure StageFactor where
  cols : List (List Nat)
  piv : List Nat
  link : List (List Nat)
deriving DecidableEq, Repr

/-- acc − Σ_(t<i) of three-factor products, in ascending t. -/
def lessProducts (i acc : Nat) (f g h : Nat → Nat) : Nat :=
  (List.range i).foldl (fun a t => dFma (dNeg (dMul (f t) (g t))) (h t) a) acc

/-- The columns of a stage in ascending order, with the pivots below δ replaced and counted (R177, R178). -/
def factorCols (n : Nat) (a : List (List Nat)) (floor : Nat) (out : Nat → Bool) : List (List Nat) × List Nat × Nat :=
  (List.range n).foldl (fun (acc : List (List Nat) × List Nat × Nat) i =>
    let (cols, piv, cnt) := acc
    if out i then (cols ++ [tab n (fun _ => 0)], piv ++ [dOne], cnt)
    else
      let d := lessProducts i (atM a i i) (at2 cols · i) (at2 cols · i) (at1 piv)
      let low := fpLt fmt64 d floor
      let d1 := if low then floor else d
      let col := tab n (fun r => if r < i then 0 else if r = i then dOne
        else dDiv (lessProducts i (atM a r i) (at2 cols · r) (at2 cols · i) (at1 piv)) d1)
      (cols ++ [col], piv ++ [d1], cnt + b2n low)) ([], [], 0)

/-- L_(j+1, j) from its coupling block and the factors of stage j. -/
def linkRows (n : Nat) (coup : List (List Nat)) (cols : List (List Nat)) (piv : List Nat) : List (List Nat) :=
  coup.map (fun row => (List.range n).foldl (fun (m : List Nat) i =>
    m ++ [dDiv (lessProducts i (at1 row i) (at1 m) (at1 piv) (at2 cols · i)) (at1 piv i)]) [])

/-- The factors of Φ stage after stage, and the pivots floored. -/
def factorStages (p : List ProbStage) (b : Blocks) (dexp : Nat) : List StageFactor × Nat :=
  (List.range p.length).foldl (fun (acc : List StageFactor × Nat) j =>
    let n := (stageOf p j).n
    let top := dNorm (tab n (fun i => atM (b.d j) i i))
    let floor := dMul (dPow2 (-(dexp : Int))) (if fpLe fmt64 top 0 then dOne else top)
    let (link, prev) : List (List Nat) × List Nat :=
      match acc.1.getLast? with
      | none => ([], [])
      | some f => (linkRows (stageOf p (j - 1)).n (b.c j) f.cols f.piv, f.piv)
    let a := (List.range n).map (fun i => tab n (fun k =>
      lessProducts prev.length (atM (b.d j) i k) (atM link i) (at1 prev) (atM link k)))
    let (cols, piv, cnt) := factorCols n a floor (fixedVar p j)
    (acc.1 ++ [⟨cols, piv, link⟩], acc.2 + cnt)) ([], 0)

/-- Every element of the factors is finite. -/
def factorsFinite (fs : List StageFactor) : Bool :=
  fs.all (fun f => f.cols.all allFinite && allFinite f.piv && f.link.all allFinite)

/-- acc − Σ of two-factor products over the indexes given. -/
def lessDots (ix : List Nat) (acc : Nat) (f g : Nat → Nat) : Nat := ix.foldl (fun a t => dFma (dNeg (f t)) (g t) a) acc

/-- Φ⁻¹ r by the factors: forward, division by D, backward. -/
def factorSolve (fs : List StageFactor) (r : List (List Nat)) : List (List Nat) :=
  let fwd := fs.zipIdx.foldl (fun (acc : List (List Nat)) q =>
    let (f, j) := q
    let prev := acc.getLastD []
    let ys := (List.range f.piv.length).foldl (fun (ys : List Nat) i =>
      let a := lessDots (List.range prev.length) (at2 r j i) (atM f.link i) (at1 prev)
      ys ++ [lessDots (List.range i) a (at2 f.cols · i) (at1 ys)]) []
    acc ++ [ys]) []
  let ws := fwd.zipIdx.map (fun q => q.1.zipIdx.map (fun e => dDiv e.1 (at1 (((fs[q.2]?).map (fun f => f.piv)).getD []) e.2)))
  fs.zipIdx.foldr (fun q (acc : List (List Nat)) =>
    let (f, j) := q
    let after := acc.headD []
    let link := ((fs[j + 1]?).map (fun x => x.link)).getD []
    let n := f.piv.length
    let us := (List.range n).foldr (fun i (us : List Nat) =>
      let a := lessDots (List.range after.length) (at2 ws j i) (fun t => atM link t i) (at1 after)
      lessDots (List.range (n - 1 - i)) a (fun t => at2 f.cols i (i + 1 + t)) (at1 us) :: us) []
    us :: acc) []

/-! An update (R173, R176). -/

/-- A linear solve: Δx and Δy for the right-hand sides of the reduced system and of the equality rows. -/
def reducedSolve (p : List ProbStage) (fs : List StageFactor) (a c : List (List Nat)) : List (List Nat) × List (List Nat) :=
  let scaled := perRow p ProbStage.eqs (fun j i r => dDiv (at2 c j i) (eqReg r))
  let dx := factorSolve fs (perVar p (fun j i => if fixedVar p j i then 0 else colDot p ProbStage.eqs scaled j i (at2 a j i)))
  (dx, perRow p ProbStage.eqs (fun j i r => dDiv (dSub (rowDot dx j r) (at2 c j i)) (eqReg r)))

/-- One refinement step with the same factor, against the system without δ_e and without floored pivots (R178). -/
def refineStep (p : List ProbStage) (plain : Blocks) (fs : List StageFactor) (a c : List (List Nat))
    (u : List (List Nat) × List (List Nat)) : List (List Nat) × List (List Nat) :=
  let ra := perVar p (fun j i => if fixedVar p j i then 0
    else dSub (dSub (at2 a j i) (blockDot p plain u.1 j i)) (colDot p ProbStage.eqs u.2 j i 0))
  let rc := perRow p ProbStage.eqs (fun j i r => dSub (at2 c j i) (rowDot u.1 j r))
  let e := reducedSolve p fs ra rc
  (perVar p (fun j i => dAdd (at2 u.1 j i) (at2 e.1 j i)), perRow p ProbStage.eqs (fun j i _ => dAdd (at2 u.2 j i) (at2 e.2 j i)))

/-- A direction of all variables for the complementarity right-hand sides of the rows and of the two bounds. -/
def direction (p : List ProbStage) (t : LaneIter) (plain : Blocks) (fs : List StageFactor) (cs cl cu : List (List Nat)) :
    LaneIter :=
  let ri := resI p t
  let rows := perRow p ProbStage.ineqs (fun j i _ => dNeg (dDiv (dFma (at2 t.z j i) (at2 ri j i) (at2 cs j i)) (at2 t.s j i)))
  let rd := resD p t
  let a := perVar p (fun j i =>
    let b0 := colDot p ProbStage.ineqs rows j i (dNeg (at2 rd j i))
    let b1 := if hasLo p j i then dAdd b0 (dDiv (at2 cl j i) (aboveLo p t.x j i)) else b0
    if hasHi p j i then dSub b1 (dDiv (at2 cu j i) (belowHi p t.x j i)) else b1)
  let c := (resE p t).map (fun r => r.map dNeg)
  let u := refineStep p plain fs a c (refineStep p plain fs a c (reducedSolve p fs a c))
  let ds := perRow p ProbStage.ineqs (fun j i r => dSub (dNeg (at2 ri j i)) (rowDot u.1 j r))
  { x := u.1, y := u.2, s := ds,
    z := perRow p ProbStage.ineqs (fun j i _ => dDiv (dFma (dNeg (at2 t.z j i)) (at2 ds j i) (at2 cs j i)) (at2 t.s j i)),
    zl := perVar p (fun j i => if hasLo p j i then
      dDiv (dFma (dNeg (at2 t.zl j i)) (at2 u.1 j i) (at2 cl j i)) (aboveLo p t.x j i) else 0),
    zu := perVar p (fun j i => if hasHi p j i then
      dDiv (dFma (at2 t.zu j i) (at2 u.1 j i) (at2 cu j i)) (belowHi p t.x j i) else 0) }

/-- The largest step that keeps every value of (value, change) at or above 0; none where nothing falls. -/
def stepTo (vs : List (Nat × Nat)) : Option Nat :=
  vs.foldl (fun best v =>
    if fpLt fmt64 v.2 0 then
      let a := dDiv v.1 (dNeg v.2)
      match best with
      | none => some a
      | some b => some (dMin b a)
    else best) none

/-- The primal and the dual step to the boundary. -/
def stepsTo (p : List ProbStage) (t d : LaneIter) : Option Nat × Option Nat :=
  let bound (has : Nat → Nat → Bool) (val chg : Nat → Nat → Nat) : List (Nat × Nat) :=
    p.zipIdx.flatMap (fun q => ((List.range q.1.n).filter (has q.2)).map (fun i => (val q.2 i, chg q.2 i)))
  (stepTo (t.s.flatten.zip d.s.flatten ++ bound (hasLo p) (aboveLo p t.x) (at2 d.x) ++
     bound (hasHi p) (belowHi p t.x) (fun j i => dNeg (at2 d.x j i))),
   stepTo (t.z.flatten.zip d.z.flatten ++ bound (hasLo p) (at2 t.zl) (at2 d.zl) ++ bound (hasHi p) (at2 t.zu) (at2 d.zu)))

/-- A step scaled by the fraction to the boundary, at most 1. -/
def stepLen (frac : Nat) (a : Option Nat) : Nat :=
  match a with
  | none => dOne
  | some v => dMin dOne (dMul frac v)

/-- v + α d, entry by entry. -/
def moved (alpha : Nat) (v d : List (List Nat)) : List (List Nat) :=
  v.zipIdx.map (fun q => q.1.zipIdx.map (fun e => dFma alpha (at2 d q.2 e.2) e.1))

/-- The iterate moved by a direction. -/
def LaneIter.step (t d : LaneIter) (ap ad : Nat) : LaneIter :=
  { x := moved ap t.x d.x, y := moved ad t.y d.y, s := moved ap t.s d.s, z := moved ad t.z d.z, zl := moved ad t.zl d.zl,
    zu := moved ad t.zu d.zu }

/-- All values of an iterate or a direction. -/
def LaneIter.all (t : LaneIter) : List Nat :=
  t.x.flatten ++ t.y.flatten ++ t.s.flatten ++ t.z.flatten ++ t.zl.flatten ++ t.zu.flatten

/-- σ = (μ_aff / μ)³, and 0 where μ = 0 leaves nothing to centre. -/
def centring (muAff mu : Nat) : Nat :=
  if fpLe fmt64 mu 0 then 0
  else
    let q := dDiv muAff mu
    dMul (dMul q q) q

/-- The update of an iterate: the pivots floored, and the new iterate with α_p and α_d, or none where a value of R179 is
infinite or NaN. -/
def updateOf (p : List ProbStage) (dexp : Nat) (t : LaneIter) : Nat × Option (LaneIter × Nat × Nat) :=
  let plain := phiPlain p t
  let phi := phiOf p plain
  let (fs, floored) := factorStages p phi dexp
  let sz (j i : Nat) : Nat := dNeg (dMul (at2 t.s j i) (at2 t.z j i))
  let lz (j i : Nat) : Nat := dNeg (dMul (aboveLo p t.x j i) (at2 t.zl j i))
  let uz (j i : Nat) : Nat := dNeg (dMul (belowHi p t.x j i) (at2 t.zu j i))
  let aff := direction p t plain fs (perRow p ProbStage.ineqs (fun j i _ => sz j i)) (perVar p lz) (perVar p uz)
  let steps := stepsTo p t aff
  let mu := muOf p t
  let target := dMul (centring (muOf p (t.step aff (stepLen dOne steps.1) (stepLen dOne steps.2))) mu) mu
  let dir := direction p t plain fs
    (perRow p ProbStage.ineqs (fun j i _ => dFma (dNeg (at2 aff.s j i)) (at2 aff.z j i) (dAdd target (sz j i))))
    (perVar p (fun j i => dFma (dNeg (at2 aff.x j i)) (at2 aff.zl j i) (dAdd target (lz j i))))
    (perVar p (fun j i => dFma (at2 aff.x j i) (at2 aff.zu j i) (dAdd target (uz j i))))
  let reach := stepsTo p t dir
  let frac := f64 (mkRat 995 1000)
  let ap := stepLen frac reach.1
  let ad := stepLen frac reach.2
  let t1 := t.step dir ap ad
  (floored, if phi.finite && factorsFinite fs && allFinite aff.all && allFinite dir.all && allFinite t1.all then
    some (t1, ap, ad) else none)

/-! Dual sums (R180) and what a delivery writes (R170, R173). -/

/-- Z_g: the sum of z over the inequality rows of a group and of |y| over its equality rows; of zl + zu for 0xFF. -/
def dualSum (p : List ProbStage) (t : LaneIter) (g : Nat) : Nat :=
  if g = 0xFF then (t.zl.flatten.zip t.zu.flatten).foldl (fun a w => dAdd a (dAdd w.1 w.2)) 0
  else
    let add (kind : ProbStage → List ProbRow) (y : List (List Nat)) (acc : Nat) : Nat :=
      p.zipIdx.foldl (fun a q => (kind q.1).zipIdx.foldl (fun b r => if r.1.group = g then dAdd b (at2 y q.2 r.2) else b) a) acc
    add ProbStage.eqs (t.y.map (fun v => v.map dAbs)) (add ProbStage.ineqs t.z 0)

/-- The dual sums of all groups, 0x00 to 0xFF. -/
def dualSums (p : List ProbStage) (t : LaneIter) : List Nat := (List.range 256).map (dualSum p t)

/-- The largest dual of any kind. -/
def topDual (t : LaneIter) : Nat := dNorm (t.y.flatten ++ t.z.flatten ++ t.zl.flatten ++ t.zu.flatten)

/-- ZB: upper minus lower bound dual; of a fixed variable from r_d. -/
def boundDual (p : List ProbStage) (h : Blocks) (g : List (List Nat)) (t : LaneIter) (j i : Nat) : Nat :=
  if fixedVar p j i then dNeg (gradAt p h g t j i) else dSub (at2 t.zu j i) (at2 t.zl j i)

/-- The result block of stage j without its padding: X, Y, Z, ZB and the normalised residuals in binary32. -/
def resultWords (p : List ProbStage) (h : Blocks) (g : List (List Nat)) (t : LaneIter) (j : Nat) : List Byte :=
  let q := stageOf p j
  let words := tab q.n (at2 t.x j) ++ tab q.eqs.length (at2 t.y j) ++ tab q.ineqs.length (at2 t.z j) ++ tab q.n (boundDual p h g t j)
  words.flatMap (leBytes 8) ++ q.meas.flatMap (fun r =>
    leBytes 4 (f64to32 (dMul (dSub r.rhs (rowDot t.x j r)) (dSqrt r.weight))).1)

end Sys2Proof.Machine
end

