-- ==== Sys2Proof/Machine/Tiller.lean ====
section
/-! DEFINITION. The Tiller lanes (R163 to R189): commands by lane state, updates and termination, delivery, deadline and
abort, workspace errors and the self-test. -/

namespace Sys2Proof.Machine

/-! Lane states (R164), and statuses (R182). -/

def laneIdle : Nat := 0
def laneRun : Nat := 1
def laneDeliver : Nat := 2
def laneTest : Nat := 3
def laneOut : Nat := 4

def stOptimal : Nat := 1
def stAcceptable : Nat := 2
def stIterLimit : Nat := 3
def stDeadline : Nat := 4
def stStale : Nat := 5
def stInfeasible : Nat := 6
def stNumeric : Nat := 7
def stAborted : Nat := 8
def stFormat : Nat := 9
def stFault : Nat := 10

/-! Commands (R165). -/

/-- The slots of a cluster in RUN or DELIVER, and in OUT, shown in CL_STAT. -/
def State.showCluster (s : State) (m : Nat) : State :=
  let st (k : Nat) : Nat := s.rd (LANE_STAT_STATE (8 * m + k))
  let busy := (List.range 8).filter (fun k => st k == laneRun || st k == laneDeliver)
  let out := (List.range 8).filter (fun k => st k == laneOut)
  (s.wr (CL_STAT_BUSY m) (sumN (busy.map (fun k => 2 ^ k)))).wr (CL_STAT_OUT m) (sumN (out.map (fun k => 2 ^ k)))

/-- STATE of a lane set. -/
def State.setLane (s : State) (n st : Nat) : State := (s.wr (LANE_STAT_STATE n) st).showCluster (n / 8)

/-- The solve in progress on a lane. -/
def State.laneRun? (s : State) (n : Nat) : Option LaneRun := s.lanes.find? (fun r => r.lane == n)

/-- The solve in progress replaced. -/
def State.putRun (s : State) (r : LaneRun) : State :=
  { s with lanes := r :: s.lanes.filter (fun x => x.lane != r.lane) }

/-- No solve in progress on a lane. -/
def State.dropRun (s : State) (n : Nat) : State := { s with lanes := s.lanes.filter (fun x => x.lane != n) }

/-- A master may send GO and ABORT to a lane (R165): the steward, and the ID of its region's surveyor, under which the
region's coordination logic writes too. -/
def laneMaster (master n : Nat) : Bool := master == mSteward || master == mSurveyor (n / 32)

/-- A bit of FLAGS of a problem: 0 WS_DUALS, 1 WS_PRIOR, 2 RESOLVE. -/
def probFlag (prob : List Byte) (k : Nat) : Bool := bitOf (((prob[6]?).getD 0).toNat) k

/-- A solve decides its status: the lane delivers. -/
def State.laneDecide (s : State) (r : LaneRun) (st : Nat) : State :=
  (s.putRun { r with decided := some st }).setLane r.lane laneDeliver

/-- The slice of a solve as it was when GO landed. -/
def LaneRun.sec (r : LaneRun) (s : State) : Sec := ⟨{ s with mem := [] }.putBytes 0 r.prob, 0, r.prob.length⟩

/-- The update budget. -/
def Sec.iterMax (v : Sec) : Nat := if v.u 0xD 1 = 0 then 40 else v.u 0xD 1

/-- A tolerance of the header, or its default. -/
def Sec.tolerance (v : Sec) (off e : Nat) : Nat := if v.u off 8 = 0 then f64 (tenTo e) else v.u off 8

/-- DELTA_EXP, or its default. -/
def Sec.deltaExp (v : Sec) : Nat := if v.u 0xE 1 = 0 then 40 else v.u 0xE 1

/-- The infeasibility test of R181. -/
def LaneRun.infeasible (r : LaneRun) (p : List ProbStage) : Bool :=
  decide (8 ≤ r.k) && fpLt fmt64 (dMul (f64 10000000000) (dAdd dOne (normG p))) (topDual r.iter) &&
    (match r.resid[4]? with
     | some old => fpLt fmt64 (dMul dHalf old) (resP p r.iter)
     | none => false)

/-- The tests at the head of the loop of R173, in its order; the solve goes on where none ends it. -/
def State.laneTests (s : State) (r : LaneRun) : State :=
  let v := r.sec s
  let p := v.problem
  let acc := v.tolerance 0x20 5
  if residualBroken p r.iter then s.laneDecide r stNumeric
  else if convergedAt p r.iter (v.tolerance 0x10 8) (v.tolerance 0x18 8) then s.laneDecide r stOptimal
  else if r.k = v.iterMax ∨ 3 ≤ r.stall then
    s.laneDecide r (if convergedAt p r.iter acc acc then stAcceptable else stIterLimit)
  else if r.infeasible p then s.laneDecide r stInfeasible
  else s.putRun r

/-- A first rejection captured in LANE_ERR, or OVERRUN (R172). -/
def State.laneErr (s : State) (n code off : Nat) : State :=
  if s.rd (LANE_ERR_CODE n) = 0 then (s.wr (LANE_ERR_CODE n) code).wr (LANE_ERR_OFFSET n) off
  else s.wr (LANE_ERR_OVERRUN n) 1

/-- The status that the deadline gives a solve that runs (R184). -/
def deadlineStatus (prob : List Byte) (k : Nat) : Nat := if 0 < k || probFlag prob 2 then stDeadline else stStale

/-- A lane enters RUN (R165): LANE_JOB is taken from the header, the problem is checked, and the first tests are made. A
lane that receives GO while the deadline is raised delivers at once (R184). -/
def State.laneStart (s : State) (n : Nat) (raised : Bool) : State :=
  let v := s.slice_ n
  let prob := s.bytes (sliceBase n) (max 0x100 (min sliceLen (v.u 0x34 4)))
  let s1 := ((s.wr (LANE_JOB_FIELD n) (v.u 8 1)).wr (LANE_JOB_PROBLEM n) (v.u 9 1)).wr (LANE_JOB_CAMPAIGN n) (v.u 0xA 2)
  let s2 := (s1.wr (LANE_JOB_ROUND n) (v.u 0xC 1)).setLane n laneRun
  let r : LaneRun := ⟨n, prob, 0, 0, [], none, 0, s.now, ⟨[], [], [], [], [], []⟩, []⟩
  if raised then s2.laneDecide r (deadlineStatus prob 0)
  else
    match v.laneCheck with
    | some e => (s2.laneErr n e.1 e.2).laneDecide r stFormat
    | none =>
      let p := (r.sec s).problem
      let t := (r.sec s).startIter p
      s2.laneTests { r with iter := t, resid := [resP p t], before := dualSums p t }

/-- The deadline of a campaign in flight is raised (R184). -/
def State.deadlineRaised (s : State) : Bool := s.camp.inFlight.any (fun c => c.raised)

/-- GO lands on a lane (R165). -/
def State.laneGo (s : State) (master n : Nat) : State :=
  let st := s.rd (LANE_STAT_STATE n)
  if !laneMaster master n then s.reject master (LANE_CTL n) E_LOCKED true
  else if st = laneRun ∨ st = laneDeliver then s.reject master (LANE_CTL n) E_BUSY true
  else if st = laneOut then s.reject master (LANE_CTL n) E_STATE true
  else s.laneStart n s.deadlineRaised

/-- ABORT lands on a lane (R165, R185). -/
def State.laneAbort (s : State) (master n : Nat) : State :=
  if !laneMaster master n then s.reject master (LANE_CTL n) E_LOCKED true
  else if s.rd (LANE_STAT_STATE n) ≠ laneRun then s.reject master (LANE_CTL n) E_STATE true
  else
    match s.laneRun? n with
    | some r => s.laneDecide r stAborted
    | none => s

/-- What the commands of a LANE_CTL write are rejected with in the state in which they land (R165). -/
def State.laneCodes (s : State) (master n act : Nat) : List Nat :=
  let st := s.rd (LANE_STAT_STATE n)
  let go := bitOf act 0
  let abort := bitOf act 1
  let retest := bitOf act 2
  broken [(!(go || abort) || laneMaster master n, E_LOCKED),
    (!(go && (st == laneRun || st == laneDeliver)), E_BUSY),
    (!(retest && (st == laneRun || st == laneDeliver || st == laneTest)), E_BUSY),
    (!(go && st == laneOut), E_STATE), (!(abort && st != laneRun), E_STATE),
    (!(retest && st == laneOut && !(s.rd (LANE_STAT_OOS n) == 1 && s.rd (LANE_STAT_HELD n) == 0)), E_STATE)]

/-- The benchmark problem as it is loaded into a slice (R188): what the ROM unpacks to, with ITER_MAX 12. -/
def benchSlice : List Byte := ((List.range sliceLen).map Config.benchByte).set 0xD 12

/-- The benchmark problem is loaded into a lane's slice, whose protected words it writes whole. -/
def State.loadBench (s : State) (n : Nat) : State :=
  { s.putBytes (sliceBase n) benchSlice with memBad := s.memBad.filter (fun a => a < sliceBase n || sliceBase n + sliceLen ≤ a) }

/-- A self-test starts (R188): the lane is in TEST with the benchmark problem in its slice. -/
def State.startTest (s : State) (n : Nat) : State :=
  ({ s.loadBench n with testErrs := s.testErrs.filter (· != n) }).setLane n laneTest

/-- The self-test of a lane that a launch binds is abandoned without a result (R16, R194). DEDUCED: the lane is then IDLE
until its GO. -/
def State.abandonTest (s : State) (n : Nat) : State :=
  if s.rd (LANE_STAT_STATE n) = laneTest then s.setLane n laneIdle else s

/-- RETEST lands on a lane (R165). -/
def State.laneRetest (s : State) (master n : Nat) : State :=
  let st := s.rd (LANE_STAT_STATE n)
  if st = laneIdle then s.startTest n
  else if st ≠ laneOut then s.reject master (LANE_CTL n) E_BUSY true
  else if s.rd (LANE_STAT_OOS n) = 1 ∧ s.rd (LANE_STAT_HELD n) = 0 then s.startTest n
  else s.reject master (LANE_CTL n) E_STATE true

/-- A lane is to be held: HOLD_OUT is in force (R189), or a pair keeps the lane for triangulation (R365). -/
def State.heldOut (s : State) (n : Nat) : Bool :=
  s.rd (LANE_CTL_HOLD_OUT n) == 1 || (s.rd PAIR_CFG_PAIRED == 1 && s.rd PAIR_CFG_TRI_LANE == n)

/-- What holds a lane acts on it while it is not solving (R189): held, it goes to OUT, and let go it returns unless
OOS = 1. -/
def State.laneHold (s : State) (n : Nat) : State :=
  let st := s.rd (LANE_STAT_STATE n)
  if s.heldOut n then
    (if st = laneRun ∨ st = laneDeliver then s else (s.wr (LANE_STAT_HELD n) 1).setLane n laneOut)
  else
    let s1 := s.wr (LANE_STAT_HELD n) 0
    if st = laneOut ∧ s.rd (LANE_STAT_OOS n) = 0 then s1.setLane n laneIdle else s1

/-- The lanes shown in HELD that what holds them no longer matches are held or let go. -/
def State.showHeld (s : State) : State :=
  s.each ((List.range 256).filter (fun n => (s.rd (LANE_STAT_HELD n) == 1) != s.heldOut n)) State.laneHold

/-- OOS set (R187, R188): a lane that is not solving or in test goes OUT; one in test completes it. -/
def State.laneOos (s : State) (n : Nat) : State :=
  let s1 := s.wr (LANE_STAT_OOS n) 1
  let st := s.rd (LANE_STAT_STATE n)
  if st = laneTest then { s1 with testErrs := addOnce s1.testErrs n }
  else if st = laneRun ∨ st = laneDeliver then s1
  else s1.setLane n laneOut

/-- A GO write posted by a surveyor or by coordination logic under its master ID (R159, R165): it crosses to TILL. -/
def State.postGo (s : State) (master n : Nat) : State :=
  { s with fabric := { s.fabric with
    inFlight := s.fabric.inFlight ++ [⟨master, LANE_CTL n, LANE_CTL n, 0, 0, 0, 1, false, s.now⟩] } }

/-- A posted GO of a lane is no longer in flight. -/
def State.goLanded (s : State) (n : Nat) : State :=
  { s with fabric := { s.fabric with
    inFlight := s.fabric.inFlight.filter (fun c => !(c.off == LANE_CTL n && bitOf c.data.toNat 0)) } }

/-- LANE_GO (R165): a write of GO lands. -/
def execLaneGo (master : Fin 16) (lane : Fin 256) (s : State) : Out :=
  .next ((s.goLanded lane).laneGo master lane)

/-- LANE_ABORT (R165, R185). -/
def execLaneAbort (master : Fin 16) (lane : Fin 256) (s : State) : Out := .next (s.laneAbort master lane)

/-- An update completes: the iterate and the history of R180, and the run of stalled updates. -/
def LaneRun.update (r : LaneRun) (p : List ProbStage) (floored : Nat) (u : LaneIter × Nat × Nat) : LaneRun :=
  let lim := f64 (tenTo 10)
  { r with
    k := r.k + 1, stall := if fpLt fmt64 u.2.1 lim && fpLt fmt64 u.2.2 lim then r.stall + 1 else 0,
    resid := (resP p u.1 :: r.resid).take 5, floored := r.floored + floored, iter := u.1, before := dualSums p r.iter }

/-- An update of the solve on a lane completes (R173, R175, R179): the new iterate becomes the last completed one, and the
tests of R173 are made; where a value of R179 is infinite or NaN the update does not complete and the solve ends with
NUMERIC. -/
def State.laneUpdate (s : State) (n : Nat) : State :=
  match s.laneRun? n with
  | none => s
  | some r =>
    if s.rd (LANE_STAT_STATE n) ≠ laneRun then s
    else
      let p := (r.sec s).problem
      let u := updateOf p (r.sec s).deltaExp r.iter
      let s1 := (s.bump (LANE_REG_CNT_COUNT n) u.1).bump (CL_SEQ_WAIT_CYCLES (n / 8)) (Config.seqWait r.prob (r.k + 1))
      match u.2 with
      | none => s1.laneDecide { r with floored := r.floored + u.1 } stNumeric
      | some w => s1.laneTests (r.update p u.1 w)

/-- LANE_UPDATE_COMPLETE (R173, R175, R179). -/
def execLaneUpdateComplete (lane : Fin 256) (s : State) : Out := .next (s.laneUpdate lane)

/-! Delivery (R182, R183). -/

/-- A status writes the last completed iterate into the result area. -/
def writesIterate (st k : Nat) : Bool :=
  st == stOptimal || st == stAcceptable || st == stIterLimit || st == stInfeasible || (st == stDeadline && decide (0 < k))

/-- VALID of a status (R182). -/
def validOf (st : Nat) (prob : List Byte) : Nat :=
  if st = stOptimal ∨ st = stAcceptable ∨ st = stIterLimit ∨ st = stDeadline then 1
  else if st = stStale then b2n (probFlag prob 1)
  else if st = stNumeric ∨ st = stAborted then b2n (probFlag prob 1 || probFlag prob 2)
  else 0

/-- The result area of a solve's last completed iterate. -/
def Sec.resultArea (v : Sec) (r : LaneRun) : List Byte :=
  let p := v.problem
  let h := bigH p
  let g := bigG p
  (List.range v.stages).flatMap (fun j =>
    let bytes := resultWords p h g r.iter j
    bytes ++ List.replicate (v.resLen j - bytes.length) 0)

/-- The row groups of a problem, ascending, and 0xFF last (R180). -/
def Sec.groups (v : Sec) : List Nat :=
  let used := (List.range v.stages).flatMap (fun j => ((v.rows j).filter (fun r => !r.meas)).map (fun r => v.u (r.off + 4) 1))
  (List.range 255).filter used.contains ++ [0xFF]

/-- GROUP of R181: the group with the largest ratio of its dual sum to the previous one; lower numbers win ties. -/
def Sec.worstGroup (v : Sec) (r : LaneRun) : Nat :=
  let p := v.problem
  let ratio (g : Nat) : Nat := dDiv (dualSum p r.iter g) (dMax (at1 r.before g) dOne)
  (v.groups.foldl (fun (best : Option Nat) g =>
    match best with
    | none => some g
    | some b => if fpLt fmt64 (ratio b) (ratio g) then some g else some b) none).getD 0xFF

/-- What a delivery writes: result area, then the delivery record with SEQ last, then LANE_STAT (R183). -/
def State.laneDelivered (s : State) (r : LaneRun) (st : Nat) : State :=
  let n := r.lane
  let v := r.sec s
  let base := sliceBase n
  let writes := writesIterate st r.k
  let s1 := if writes then s.putBytes (base + v.u 0x2C 4) (v.resultArea r) else s
  let group := if st = stInfeasible then v.worstGroup r else 0
  let p := v.problem
  let w (x : Nat) : Nat := if writes then x else 0
  let cycles := (s.now - r.goAt) * 2 / 3
  let seq := s.ld (base + 0xB0) 4
  let rec_ := [st, r.k, group, validOf st r.prob].flatMap (leBytes 1) ++ leBytes 2 (min r.floored 65535) ++ leBytes 2 0 ++
    leBytes 4 cycles ++ leBytes 4 0 ++ leBytes 8 (w (objective p r.iter.x)) ++ leBytes 8 (w (resP p r.iter)) ++
    leBytes 8 (w (dNorm (resD p r.iter).flatten)) ++ leBytes 8 (w (muOf p r.iter))
  let s2 := (((s1.putBytes (base + 0x80) rec_).putBytes (base + 0xB4) (List.replicate 76 0)).st (base + 0xB0) 4
    (seq + 1)).dropRun n
  let s3 := (((s2.wr (LANE_STAT_STATUS n) st).wr (LANE_STAT_ITER n) r.k).wr (LANE_STAT_GROUP n) group).wr
    (LANE_STAT_VALID n) (validOf st r.prob)
  let s4 := s3.setReg (LANE_CYC n) (BitVec.ofNat 32 cycles)
  let hold := s4.heldOut n
  (s4.wr (LANE_STAT_HELD n) (b2n hold)).setLane n (if s4.rd (LANE_STAT_OOS n) = 1 || hold then laneOut else laneIdle)

/-- The deadline reaches every lane (R184). -/
def State.lanesDeadline (s : State) : State :=
  s.each s.lanes (fun t r => if r.decided = none then t.laneDecide r (deadlineStatus r.prob r.k) else t)

/-! Workspace errors and self-test (R187, R188). -/

/-- The lane in whose slice a workspace address lies. -/
def laneAt (a : Nat) : Nat := 8 * ((a - aWork) / 0x400000) + (a - aWork) % 0x400000 / sliceLen

/-- An uncorrectable error in a lane's slice (R187): OOS is set, the error counted, and F1 recorded with the lane number. -/
def State.sliceBad (s : State) (n : Nat) : State :=
  ((s.bump (CL_ECC_UNCORR (n / 8)) 1).recordFault 1 bTiller 0 n).laneOos n

/-- WORKSPACE_UNCORRECTABLE (R187): a lane in RUN that reads the error delivers FAULT. -/
def execWorkspaceUncorrectable (lane : Fin 256) (offset : Nat) (s : State) : Out :=
  let n := lane.val
  let s1 := ({ s with memBad := addOnce s.memBad ((sliceBase n + offset % sliceLen) / 8 * 8) }).sliceBad n
  .next (
    match s1.laneRun? n with
    | some r => if r.decided = none then s1.laneDecide r stFault else s1
    | none => s1)

/-- A solve carried on until it has decided, by at most k updates. -/
def State.solveOn (s : State) (n : Nat) : Nat → State
  | 0 => s
  | k + 1 =>
    match s.laneRun? n with
    | none => s
    | some r => if r.decided.isSome then s else (s.laneUpdate n).solveOn n k

/-- A solve that has decided delivers. -/
def State.deliverOn (s : State) (n : Nat) : State :=
  match s.laneRun? n with
  | none => s
  | some r =>
    match r.decided with
    | none => s
    | some st => s.laneDelivered r st

/-- The slice in which a sound lane leaves the benchmark problem (R163, R188): solved by itself in lane 0. -/
def benchSolved : List Byte :=
  let s := (((State.reset.loadBench 0).laneStart 0 false).solveOn 0 13).deliverOn 0
  s.bytes (sliceBase 0) sliceLen

/-- What a self-test compares of a slice (R188): its result area, and its delivery record without CYCLES. -/
def benchView (bs : List Byte) : List Byte :=
  let w (off : Nat) : Nat := ofLeBytes ((bs.drop off).take 4)
  (bs.drop (w 0x2C)).take (w 0x30) ++ (bs.drop 0x80).take 8 ++ (bs.drop 0x8C).take 0x74

/-- The reference in the benchmark ROM (R188): the CRC-32C of what a sound lane leaves. -/
def benchRef : Nat := crc32c (benchView benchSolved)

/-- A benchmark slice in which a defective lane has written some bytes otherwise: offset and byte. -/
def benchWrong (wrong : List (Nat × Byte)) : List Byte := wrong.foldl (fun bs w => bs.set w.1 w.2) benchSolved

/-- A self-test passes. -/
def benchPasses (wrong : List (Nat × Byte)) : Bool := crc32c (benchView (benchWrong wrong)) == benchRef

/-- The result of a self-test recorded (R188): a match clears OOS unless an error of R187 came up during the test, and a
mismatch sets it. -/
def State.testResult (s : State) (n : Nat) (pass : Bool) : State :=
  let s1 := if pass then (s.bump (LANE_TEST_PASSES n) 1).wr (LANE_TEST_LAST n) 1
    else ((s.bump (LANE_TEST_FAILS n) 1).wr (LANE_TEST_LAST n) 2).recordFault 1 bTiller 0 n
  let oos := !pass || s.testErrs.contains n
  let s2 := (s1.wr (LANE_STAT_OOS n) (b2n oos)).wr (LANE_STAT_HELD n) (b2n (s.heldOut n))
  ({ s2 with testErrs := s2.testErrs.filter (· != n) }).setLane n (if oos || s.heldOut n then laneOut else laneIdle)

/-- SELF_TEST_COMPLETE (R188): the lane has solved the benchmark problem, writing the bytes `wrong` otherwise than a sound
lane does; CYCLES is a free value. -/
def execSelfTestComplete (lane : Fin 256) (wrong : List (Nat × Byte)) (s : State) : Out :=
  let n := lane.val
  .next (
    if s.rd (LANE_STAT_STATE n) ≠ laneTest then s
    else
      let s1 := (s.putBytes (sliceBase n) (benchWrong wrong)).putBytes (sliceBase n + 0x88) (leBytes 4 s.freshVal.toNat)
      (s1.drawn).testResult n (benchPasses wrong))

end Sys2Proof.Machine
end

