-- ==== Sys2Proof/Machine/Assembly.lean ====
section
/-! DEFINITION. Campaign launch, binding and snapshot, and the variables and points of a field's problems (R142, R155 to
R157, R160, R190 to R194). -/

namespace Sys2Proof.Machine

/-- E_PAIRING of the SURVEYOR block (R158). -/
def E_PAIRING : Nat := 0x10

/-- The state with the campaigns replaced. -/
def State.setCamp (s : State) (c : Campaigns) : State := { s with camp := c }

/-- The campaign in flight changed, where there is one. -/
def State.onCampaign (s : State) (f : Campaign → Campaign) : State :=
  s.setCamp { s.camp with inFlight := s.camp.inFlight.map f }

/-- One field of a campaign changed. -/
def Campaign.onField (c : Campaign) (f : Nat) (g : FieldRun → FieldRun) : Campaign :=
  { c with fields := c.fields.map (fun r => if r.field = f then g r else r) }

/-- The run of a field. -/
def Campaign.run? (c : Campaign) (f : Nat) : Option FieldRun := c.fields.find? (fun r => r.field == f)

/-- The number of the pass in progress. -/
def State.passCount (s : State) : Nat := s.rd64 GLOBAL_PASS_CNT_LO GLOBAL_PASS_CNT_HI

/-- An element put into a list before the first that it precedes. -/
def insertBy {α : Type} (lt : α → α → Bool) (x : α) : List α → List α
  | [] => [x]
  | y :: ys => if lt x y then x :: y :: ys else y :: insertBy lt x ys

/-- A list sorted by an order, equal elements in their order. -/
def sortBy {α : Type} (lt : α → α → Bool) (xs : List α) : List α := xs.foldl (fun acc x => insertBy lt x acc) []

/-! Launching (R190 to R194). -/

/-- The conditions of R190. -/
def State.mayLaunch (s : State) : Bool := s.rd GLOBAL_MODE_MODE == modeRun && s.rd CMN_CFG_EN == 1

/-- A launch is due at this freeze edge (R190, R191, R193). -/
def State.launchDue (s : State) : Bool :=
  match s.camp.due with
  | none => s.mayLaunch
  | some l => decide (l + s.rd CMN_CFG_INTERVAL ≤ s.passCount)

/-- The fields of a region that take part, in the order in which they are bound and assembled (R159, R194). -/
def Bank.boundFields (b : Bank) (r : Nat) : List Nat :=
  sortBy (fun x y => decide (b.u 6 y 0x11 1 < b.u 6 x 0x11 1))
    ((b.all tField).filter (fun f => b.u 6 f 0 1 == r && b.flag 6 f 1 0 && (b.flag 6 f 1 1 || b.flag 6 f 1 2)))

/-- The lanes of a region that are available (R194). -/
def State.freeLanes (s : State) (r : Nat) : List Nat :=
  ((List.range 32).map (fun k => 32 * r + k)).filter (fun n =>
    (s.rd (LANE_STAT_STATE n) == laneIdle || s.rd (LANE_STAT_STATE n) == laneTest) && s.rd (LANE_STAT_OOS n) == 0 &&
      s.rd (LANE_STAT_HELD n) == 0)

/-- A field as the campaign starts with it. -/
def State.fieldRun (s : State) (b : Bank) (r f : Nat) (lane : Option Nat) : FieldRun :=
  { field := f, region := r, lane := lane, wantEst := b.flag 6 f 1 1, wantOpt := b.flag 6 f 1 2, estGo := false,
    estDone := false, optGo := false, waiting := false, estStatus := 0, estFallback := false,
    notAssembled := s.rd (SV_CTL_ASM_EN r) == 0, left := false, estVars := [], estPoints := [], optVars := [],
    last := none, kept := none, cold := s.camp.noWarm.contains f }

/-- The fields of a region bound to its lanes, the n-th to the n-th. -/
def State.bindRegion (s : State) (b : Bank) (r : Nat) : List FieldRun :=
  (b.boundFields r).zipIdx.map (fun x => s.fieldRun b r x.1 ((s.freeLanes r)[x.2]?))

/-- The points quarantined now are shown by region (SV_QUAR). -/
def State.showQuar (s : State) : State :=
  s.each (List.range 8) (fun t r =>
    t.wr (SV_QUAR_POINTS r)
      ((t.survey.quar.filter (fun q => q.2.1 == r && decide (q.2.2.1 ≤ t.camp.launched))).length))

/-- The electricity price of a stage of a campaign launched now (R347). -/
def State.stagePrice (s : State) (horizon j : Nat) : Nat :=
  s.priceAt (s.time + (2 * j + 1) * horizon * 32768 / (2 * cycPerS))

/-- The campaign that a launch at this freeze edge makes (R190 to R194). -/
def State.newCampaign (s : State) : Campaign :=
  let b := s.atlasInForce
  let horizon := s.rd CMN_CFG_INTERVAL * s.pass.period * cycPerMs
  { bank := s.rd ATLAS_STAT_IN_FORCE, gen := (s.reg ATLAS_GEN).toNat, launchPass := s.passCount, launchTime := s.time,
    horizon := horizon, deadline := s.rd CMN_CFG_DEADLINE, iterResolve := s.rd CMN_CFG_ITER_RESOLVE,
    roundsMax := s.rd CMN_CFG_ROUNDS_MAX, rho := (s.reg CMN_RHO).toNat, epsQ := s.rd CMN_EPS_EPS_Q,
    epsDual := s.rd CMN_EPS_EPS_DUAL_EXP, epsT := s.rd CMN_EPS_EPS_T,
    prices := (List.range 64).map (s.stagePrice horizon),
    basis := (b.all tPipe).map (fun p => (p, f64 (s.flowBasis b s.inBase p))),
    factors := (b.all tField).map (fun f => (f, (List.range 64).map (fun j => s.ld (sd 0x2500000 + 256 * f + 4 * j) 4))),
    fields := (List.range 8).flatMap (s.bindRegion b), groups := [], ready := false, raised := false, hit := false }

/-- A field of a region that is not assembled is written to SV_ERR with its code, and F1 is recorded (R159). The rule names
no code for a region with ASM_EN = 0: CODE 0 (DESIGN CHOICE, assumption 96). A field is captured while SV_ERR holds none. -/
def State.assemblyErr (s : State) (r code f : Nat) : State :=
  let free := s.rd (SV_ERR_CODE r) == 0 && s.rd (SV_ERR_FIELD r) == 0
  let s1 := if free then (s.wr (SV_ERR_CODE r) code).wr (SV_ERR_FIELD r) f else s.wr (SV_ERR_OVERRUN r) 1
  s1.recordFault 1 bSurveyor code f

/-- What a launch shows and counts by region. -/
def State.showBinding (s : State) (c : Campaign) : State :=
  s.each (List.range 8) (fun t r =>
    let fs := c.fields.filter (fun f => f.region == r)
    let bound := fs.filter (fun f => f.lane.isSome)
    let t1 := ((t.wr (RG_STAT_FIELDS r) bound.length).wr (RG_STAT_LANES r) (s.freeLanes r).length).wr (RG_STAT_ROUND r) 0
    let t2 := t1.each (fs.filter (fun f => f.lane.isNone)) (fun u _ =>
      (u.bump (RG_NOLANE_COUNT r) 1).recordFault 1 bTiller 0 0)
    let t3 := t2.each (fs.filter (fun f => f.notAssembled)) (fun u f => u.assemblyErr r 0 f.field)
    if fs.isEmpty then t3 else t3.wr (SV_STAT_SNAP_BUSY r) 1)

/-- A launch takes place (R16, R142, R194): the bank in force is pinned, the self-tests of bound lanes are abandoned, and the
snapshot falls due. -/
def State.launch (s : State) : State :=
  let c := s.newCampaign
  let s1 := (s.showBinding c).setCamp { s.camp with
    inFlight := some c, due := some s.passCount, asked := false, launched := s.camp.launched + 1,
    noWarm := s.camp.noWarm.filter (fun f => !c.fields.any (fun x => x.field == f)) }
  let s2 := ((s1.wr ATLAS_STAT_PINNED c.bank).setReg CMN_NUM (s.reg CMN_NUM + 1)).setReg CMN_PASS (s.reg GLOBAL_PASS_CNT_LO)
  let s3 := (s2.wr CMN_STAT_IN_FLIGHT 1).wr CMN_STAT_ROUND 0
  let s4 := s3.each (c.fields.filterMap (fun f => f.lane)) State.abandonTest
  (s4.setSurvey { s3.survey with
    snapDue := (List.range 8).filter (fun r => c.fields.any (fun f => f.region == r)), snap := [], dSnap := [],
    profiles := [], snapMore := [], tLaunch := s3.survey.tnode,
    quar := s3.survey.quar.filter (fun q => decide (s3.camp.launched ≤ q.2.2.2)) }).showQuar

/-- CAMPAIGN_LAUNCH (R190, R193): once at a freeze edge, a due launch takes place or is skipped and counted. -/
def execCampaignLaunch (s : State) : Out :=
  let s1 := s.setCamp { s.camp with decidedAt := some s.passCount }
  .next (
    if s.rd PASS_PHASE_PHASE ≠ phFreeze ∨ s.camp.decidedAt = some s.passCount ∨ s.camp.inFlight.isSome then s
    else if !(s.camp.asked || s.launchDue) then s
    else if s.mayLaunch then s1.launch
    else (s1.setCamp { s1.camp with due := none, asked := false }).bump CMN_CNT_SKIPPED 1)

/-! Membership (R115, R125). -/

/-- What belongs to a field (R125): its nodes, interior and boundary pipes, pumps, valves, plants and stores. -/
def Bank.members (b : Bank) (f : Nat) : List (List Nat) :=
  [b.nodesOf f, b.interior f, b.boundary f, b.ofField tPump f, b.ofField tValve f, b.ofField tPlant f, b.ofField tStore f]

/-- The fields whose membership differs between two banks start their next campaign without a warm start (R115, R196). -/
def State.membersChanged (s : State) (oldBank newBank : Nat) : State :=
  let o := s.atlas oldBank
  let n := s.atlas newBank
  let fs := (List.range 256).filter (fun f => (o.used tField f || n.used tField f) && o.members f != n.members f)
  s.setCamp { s.camp with noWarm := s.camp.noWarm.filter (fun f => !fs.contains f) ++ fs }

/-! Snapshot and profiles (R142, R154). -/

/-- The water of a pipe at a time, from its FROM end. -/
def State.profileOf (s : State) (b : Bank) (time p : Nat) : Profile :=
  let f := s.pipeFurrow p
  ⟨p, f.massTotal, f.parcels.map (fun x => (f64 (r32 x.mass), f64 (b.parcelTemp p x time)))⟩

/-- A plant is taken as running in the image at `base` (R155): MUST_RUN, or its metered power above 1 % of P_MAX, or with no
meter its output in the set-point table above 0. -/
def State.plantRunsAt (s : State) (b : Bank) (base i : Nat) : Bool :=
  let m := b.u 4 i 6 1
  b.flag 4 i 1 2 ||
  (if m < 16 then decide (b.f 4 i 0xC / 100 < r32 (s.ld (base + 0x1A00 + 128 * m + 0x10) 4))
   else decide (0 < r32 (s.ld (base + 0x190000 + 0x6040 + 16 * i) 4)))

/-- What the assembly of a field takes from the launching image beside its points (R142): the set-point table's speeds and
positions, the plants that run, and order 0 of its substations. -/
def State.snapMoreOf (s : State) (b : Bank) (f : Nat) : List SnapValue :=
  (b.ofField tPump f).map (fun i => ⟨1, i, s.ld (s.inBase + 0x190000 + 0x1040 + 16 * i) 4⟩) ++
  (b.ofField tValve f).map (fun i => ⟨2, i, s.ld (s.inBase + 0x190000 + 0x2040 + 16 * i) 4⟩) ++
  (b.ofField tPlant f).map (fun i => ⟨3, i, b2n (s.plantRunsAt b s.inBase i)⟩) ++
  (b.stations f).map (fun n => ⟨4, b.u 0 n 4 2, s.ldS (gazAddr (b.u 0 n 4 2) + 0x88) 4⟩)

/-- A further value of the snapshot. -/
def State.snapValue (s : State) (what i : Nat) : Int :=
  ((s.survey.snapMore.find? (fun x => x.what == what && x.index == i)).map SnapValue.value).getD 0

/-- SNAPSHOT_COMPLETE (R142): the points, the substation flows and the pipe profiles of the region's fields as at the
launching freeze edge. -/
def execSnapshotComplete (region : Fin 8) (s : State) : Out :=
  let r := region.val
  .next (
    match s.camp.inFlight with
    | none => s
    | some c =>
      if !s.survey.snapDue.contains r || s.svRestarting r then s
      else
        let b := s.atlas c.bank
        let fields := (c.fields.filter (fun f => f.region == r)).map (fun f => f.field)
        let codes := fields.flatMap b.fieldPoints
        let s1 := s.setSurvey { s.survey with
          snapDue := s.survey.snapDue.filter (fun x => x != r),
          snap := s.survey.snap ++ codes.map (s.snapOf s.inBase),
          snapMore := s.survey.snapMore ++ fields.flatMap (s.snapMoreOf b),
          dSnap := s.survey.dSnap ++ fields.map (fun f => (f, s.fieldDraw b s.inBase f)),
          profiles := s.survey.profiles ++ (b.regionPipes r).map (s.profileOf b c.launchTime) }
        (s1.wr (SV_STAT_SNAP_BUSY r) 0).wr (SV_STAT_ASM_BUSY r) 1)

/-! The estimation problem (R156, R158, R160). -/

/-- The pipes of a field in service: interior, and boundary. -/
def Bank.livePipes (b : Bank) (f : Nat) : List Nat := (b.interior f ++ b.boundary f).filter (fun p => b.flag 1 p 5 0)

/-- The value of a point in the snapshot, where it is valid and not quarantined. -/
def State.snapGood (s : State) (code : Nat) : Option Rat :=
  if code = 0xFFFF ∨ s.quarantined code then none
  else (s.survey.snap.find? (fun x => x.code == code && x.valid)).map (fun x => r64 x.value)

/-- The position of a valve: its point; else, for a control valve, the set-point table in force; else POS_MAX (assumption
28). -/
def State.valvePos (s : State) (b : Bank) (i : Nat) : Rat :=
  match s.snapGood (b.u 3 i 0x1C 2) with
  | some v => v
  | none => if b.u 3 i 2 1 = 1 then r32 (s.snapValue 2 i).toNat else b.f 3 i 0x10

/-- A pipe is removed from its problem while a shut-off valve in it is closed (R152). -/
def State.shutPipe (s : State) (b : Bank) (p : Nat) : Bool :=
  (b.all tValve).any (fun i => b.u 3 i 0 2 == p && b.flag 3 i 0x19 0 && b.u 3 i 2 1 == 2 &&
    decide (s.valvePos b i < mkRat 1 100))

/-- The pipes that carry flow in a field's problem. -/
def State.openPipes (s : State) (b : Bank) (f : Nat) : List Nat := (b.livePipes f).filter (fun p => !s.shutPipe b p)

/-- The links that the levels of R156 are searched over: interior pipes among those given, and injection links. -/
def Bank.links (b : Bank) (f : Nat) (pipes : List Nat) : List (Nat × Nat) :=
  (pipes.filter (fun p => !b.flag 1 p 5 1)).map (fun p => (b.u 1 p 0 2, b.u 1 p 2 2)) ++
    (b.stations f).map (fun n => (n, n + 1)) ++ (b.ofField tPlant f).map (fun i => (b.u 4 i 2 2, b.u 4 i 4 2)) ++
    (b.ofField tStore f).map (fun i => (b.u 5 i 2 2, b.u 5 i 4 2))

/-- The levels of a breadth-first search from a frontier. -/
def levelsFrom (links : List (Nat × Nat)) : Nat → List Nat → List Nat → List (List Nat)
  | 0, _, _ => []
  | k + 1, seen, frontier =>
    if frontier.isEmpty then []
    else
      let near := links.flatMap (fun e =>
        (if frontier.contains e.1 then [e.2] else []) ++ (if frontier.contains e.2 then [e.1] else []))
      let fresh := near.foldl (fun acc n => if seen.contains n || acc.contains n then acc else acc ++ [n]) []
      frontier :: levelsFrom links k (seen ++ fresh) fresh

/-- The levels of a field's nodes: from its start node, then the unconnected parts in ascending lowest node (R156). -/
def levelsAll (links : List (Nat × Nat)) : Nat → List Nat → List Nat → List (List Nat)
  | 0, _, _ => []
  | k + 1, nodes, starts =>
    match starts.find? nodes.contains with
    | none => []
    | some n =>
      let ls := levelsFrom links (nodes.length + 1) [n] [n]
      let seen := ls.flatMap id
      ls ++ levelsAll links k (nodes.filter (fun x => !seen.contains x)) nodes

/-- The levels of a field. -/
def Bank.levels (b : Bank) (f : Nat) (pipes : List Nat) : List (List Nat) :=
  let nodes := b.nodesOf f
  let refs := nodes.filter (fun n => b.u 0 n 0 1 == 5)
  let onBoundary := nodes.filter (fun n => (b.boundary f).any (fun p => b.u 1 p 0 2 == n || b.u 1 p 2 2 == n))
  levelsAll (b.links f pipes) (nodes.length + 1) nodes (refs ++ onBoundary ++ nodes)

/-- The level of a node among levels. -/
def levelOf (ls : List (List Nat)) (n : Nat) : Option Nat := ls.findIdx? (fun l => l.contains n)

/-- A node is an injection node (R153). -/
def Bank.injects (b : Bank) (n : Nat) : Bool :=
  b.u 0 n 0 1 == 2 || b.u 0 n 0 1 == 3 || b.u 0 n 0 1 == 4 || b.isPartner n

/-- The level of a pipe: the deeper of its ends in the field. -/
def Bank.pipeLevel (b : Bank) (ls : List (List Nat)) (p : Nat) : Nat :=
  max ((levelOf ls (b.u 1 p 0 2)).getD 0) ((levelOf ls (b.u 1 p 2 2)).getD 0)

/-- The variables of each stage of a field's estimation problem; within a stage, nodes in ascending index, then pipes. -/
def Bank.estVars (b : Bank) (f : Nat) (pipes : List Nat) : List (List EstVar) :=
  let ls := b.levels f pipes
  ls.zipIdx.map (fun x =>
    (sortBy (fun m n => decide (m < n)) x.1).flatMap (fun n =>
      [.p n, .t n] ++ (if b.injects n then [.w n] else [])) ++
    (pipes.filter (fun p => b.pipeLevel ls p == x.2)).map EstVar.q)

/-- Every substation of a field has its return partner (R153). -/
def Bank.paired (b : Bank) (f : Nat) : Bool := (b.stations f).all (fun n => b.isPartner (n + 1))

/-- The points a field's estimation uses, each with the estimated quantity it is compared with: the value of node or
station in the field's previous estimate. -/
def Bank.measured (b : Bank) (f : Nat) : List (Nat × Option EstVar × Bool) :=
  let ok (c : Nat) (v : Option EstVar) : List (Nat × Option EstVar × Bool) := if c = 0xFFFF then [] else [(c, v, false)]
  (b.nodesOf f).flatMap (fun n =>
    ok (b.u 0 n 0x18 2) (some (.p n)) ++ ok (b.u 0 n 0x1A 2) (some (.t n)) ++
    (if b.u 0 n 0 1 = 2 then
      let g := b.u 0 n 4 2
      [(implicitCode g 0, some (.t n), false), (implicitCode g 1, some (.t (n + 1)), false),
       (implicitCode g 2, some (.w n), true)]
     else [])) ++
  (b.ofField tPump f).flatMap (fun i => ok (b.u 2 i 0x44 2) none) ++
  (b.ofField tValve f).flatMap (fun i => ok (b.u 3 i 0x1C 2) none) ++
  (b.ofField tStore f).flatMap (fun i => (List.range 8).flatMap (fun k => ok (b.u 5 i (0x70 + 2 * k) 2) none))

/-- The value of a variable in an estimate. -/
def estValue? (e : Estimate) (v : EstVar) : Option Rat :=
  (match v with
   | .p n => e.press.lookup n
   | .t n => e.temp.lookup n
   | .w n => e.inj.lookup n
   | .q p => e.flow.lookup p).map r64

/-- σ of a point (R139, R141), a hundredfold where it was substituted (R160). -/
def State.sigma (s : State) (x : SnapPoint) : Rat :=
  (if x.code < 0x10000 then ((s.points[x.code]?).map (fun p => r32 p.sigma)).getD 1
   else if (x.code - 0x10000) % 4 < 2 then mkRat 2 10
   else mkRat 2 100 * r64 x.value + mkRat 1 100) * (if x.subst then 100 else 1)

/-- A point passes the screening of R160. -/
def State.passes (s : State) (r f : Nat) (m : Nat × Option EstVar × Bool) : Bool :=
  match s.survey.snap.find? (fun x => x.code == m.1) with
  | none => false
  | some x =>
    let old : Option Rat := m.2.1.bind (fun v => (s.survey.ests.find? (fun e => e.field == f)).bind (fun e => estValue? e v))
    x.valid && !s.quarantined m.1 &&
      (match old with
       | none => true
       | some h => decide (rabs (r64 x.value - (if m.2.2 then -h else h)) ≤ (s.rd (SV_CFG0_GROSS_K r) : Nat) * s.sigma x))

/-! The optimisation problem (R155, R157). -/

/-- A plant ran in the launching image (R142, R155). -/
def State.plantRuns (s : State) (i : Nat) : Bool := decide (s.snapValue 3 i = 1)

/-- The groups of a field's pumps, ascending. -/
def Bank.pumpGroups (b : Bank) (f : Nat) : List Nat :=
  (List.range 64).filter (fun g => (b.ofField tPump f).any (fun i => b.u 2 i 3 1 == g))

/-- The variables of each stage, in the order of R157. -/
def State.optVars (s : State) (b : Bank) (f : Nat) : List OptVar :=
  ((b.ofField tPlant f).filter s.plantRuns).flatMap (fun i => [.plantP i, .plantT i]) ++
  (b.pumpGroups f).map OptVar.group ++
  ((b.ofField tPump f).filter (fun i => b.u 2 i 3 1 == 0xFF && b.flag 2 i 2 1)).map OptVar.pump ++
  ((b.ofField tValve f).filter (fun i => b.u 3 i 2 1 == 1 && b.flag 3 i 0x19 0)).map OptVar.valve ++
  (b.ofField tStore f).flatMap (fun i => [.storeM i, .storeE i]) ++
  (b.boundary f).flatMap (fun p => [.flow p, .temp p])

end Sys2Proof.Machine
end

