-- ==== Sys2Proof/Machine/Problem.lean ====
section
/-! DEFINITION. The numbers of a field's problems (R151 to R157, R198): transport delay, coupled pipes, bounds, linear rows
and their places in stages, the linearised network, the estimation problem and the optimisation problem, and the slice that
holds a problem (R167 to R171). -/

namespace Sys2Proof.Machine

/-! Transport delay over the horizon (R154). -/

/-- The mean temperature of the water between two masses from the outlet end, whose parcels stand outlet first. -/
def windowMean (ps : List (Rat × Rat)) (lo hi : Rat) : Rat :=
  let spans := (ps.zip (ps.foldl (fun (acc : List Rat × Rat) x => (acc.1 ++ [acc.2], acc.2 + x.1)) ([], 0)).1).map (fun x =>
    (max 0 (min hi (x.2 + x.1.1) - max lo x.2), x.1.2))
  weightedMean spans

/-- T_out,j of R154 for a pipe with flow q₀ as known water and shares of T_in by stage. Where no water moves the rule
divides by 0: a free value. -/
def Bank.arrivalForm (b : Bank) (p : Nat) (prof : List (Nat × Nat)) (massTotal q0 dh : Rat) (j : Nat) :
    Rat × List (Nat × Rat) :=
  if q0 = 0 ∨ dh = 0 then (r64 (Config.stillArrival p j).toNat, [])
  else
    let ps := (if q0 < 0 then prof else prof.reverse).map (fun x => (r64 x.1, r64 x.2))
    let g := b.f 1 p 0x1C
    let kap := b.kappa p (weightedMean ps)
    let ms := rabs q0 * dh
    let tau := massTotal / rabs q0
    let alpha := ratExp (-kap * tau)
    let phi := min 1 (max 0 ((massTotal - j * ms) / ms))
    let fj := g + (windowMean ps (j * ms) (min ((j + 1) * ms) massTotal) - g) * ratExp (-kap * ((j : Rat) + 1 / 2) * dh)
    let u : Rat := (j : Rat) - tau / dh
    let i : Int := u.floor
    let w : Rat := u - i
    (phi * fj + (1 - phi) * (g - alpha * g),
     [(i.toNat, (1 - phi) * alpha * (1 - w)), ((i + 1).toNat, (1 - phi) * alpha * w)].filter (fun x => decide (x.2 ≠ 0)))

/-- T_out,j of R154 given T_in by stage. -/
def Bank.arrival (b : Bank) (p : Nat) (prof : List (Nat × Nat)) (massTotal q0 dh : Rat) (tIn : Nat → Rat) (j : Nat) : Rat :=
  let a := b.arrivalForm p prof massTotal q0 dh j
  a.2.foldl (fun acc x => acc + x.2 * tIn x.1) a.1

/-- Δh of a campaign in s. -/
def Campaign.dh (c : Campaign) : Rat := mkRat c.horizon cycPerS

/-- The flow basis of a pipe in the launching pass. -/
def Campaign.q0 (c : Campaign) (p : Nat) : Rat := r64 ((c.basis.lookup p).getD 0)

/-- The profile of a pipe at the launching freeze edge. -/
def State.profile (s : State) (p : Nat) : List (Nat × Nat) :=
  ((s.survey.profiles.find? (fun x => x.pipe == p)).map (fun x => x.parcels)).getD []

/-- MASS_TOTAL of a pipe at the launching freeze edge. -/
def State.pipeMass (s : State) (p : Nat) : Rat :=
  r32 (((s.survey.profiles.find? (fun x => x.pipe == p)).map (fun x => x.massTotal)).getD 0)

/-- The arrival temperatures of a pipe by stage. -/
def State.arrivals (s : State) (c : Campaign) (p stages : Nat) (tIn : Nat → Rat) : List Nat :=
  let b := s.atlas c.bank
  (List.range stages).map (fun j =>
    f64 (b.arrival p (s.profile p) (s.pipeMass p) (c.q0 p) c.dh tIn j))

/-- T_node of a node in the launching pass; where that advance did not reach it, that of its last advance before, else
T_INIT (R147, R198). -/
def State.tNode (s : State) (b : Bank) (n : Nat) : Rat :=
  match s.survey.tLaunch.lookup n with
  | some t => r64 t
  | none => b.f 0 n 0x14

/-! Coupled pipes (R197). -/

/-- A field takes part in coordination: its optimisation problem is with a lane. -/
def FieldRun.handed (r : FieldRun) : Bool := r.optGo

/-- The fields at the ends of a boundary pipe. -/
def Bank.pipeFields (b : Bank) (p : Nat) : Nat × Nat := (b.u 0 (b.u 1 p 0 2) 2 1, b.u 0 (b.u 1 p 2 2) 2 1)

/-- The boundary pipes in service of a bank. -/
def Bank.crossPipes (b : Bank) : List Nat := (b.all tPipe).filter (fun p => b.flag 1 p 5 1 && b.flag 1 p 5 0)

/-- The coupled pipes of a campaign (R197). -/
def Campaign.coupledPipes (c : Campaign) (b : Bank) : List Nat :=
  b.crossPipes.filter (fun p =>
    let (f, g) := b.pipeFields p
    c.fields.any (fun r => r.field == f && r.handed) && c.fields.any (fun r => r.field == g && r.handed))

/-- The fields joined to some by coupled pipes. -/
def Campaign.joined (c : Campaign) (b : Bank) : Nat → List Nat → List Nat
  | 0, fs => fs
  | k + 1, fs =>
    let more := (c.coupledPipes b).flatMap (fun p =>
      let (f, g) := b.pipeFields p
      (if fs.contains f && !fs.contains g then [g] else []) ++ (if fs.contains g && !fs.contains f then [f] else []))
    if more.isEmpty then fs else Campaign.joined c b k (fs ++ more)

/-- The group that a field belongs to, ascending. -/
def Campaign.groupOf (c : Campaign) (b : Bank) (f : Nat) : List Nat :=
  let fs := c.joined b 256 [f]
  (List.range 256).filter fs.contains

/-- The campaign as far as it can be foreseen: a field whose optimisation problem is still to be assembled counts as handed
to its lane (R197, R198). -/
def Campaign.outlook (c : Campaign) : Campaign :=
  { c with fields := c.fields.map (fun r =>
    { r with optGo := r.optGo || (r.wantOpt && r.lane.isSome && !r.notAssembled && !r.left) }) }

/-- A boundary pipe is solved as coupled by its fields (R197, R200). -/
def State.couples (s : State) (c : Campaign) (p : Nat) : Bool :=
  let b := s.atlas c.bank
  let o := c.outlook
  (o.coupledPipes b).contains p &&
    s.rd (RG_CTL_COORD_EN (b.u 6 ((o.groupOf b (b.pipeFields p).1).headD 0) 0 1)) == 1

/-! Bounds (R152, R156, R157, R198). -/

/-- A binary32 field of a record as binary64 bits. -/
def Bank.w (b : Bank) (t i off : Nat) : Nat := f32to64 (b.u t i off 4)

/-- A pipe holds a check valve or a pump that lets no flow back (R152). -/
def Bank.oneWay (b : Bank) (p : Nat) : Bool :=
  (b.all tPump).any (fun i => b.u 2 i 0 2 == p && b.flag 2 i 2 0 && b.flag 2 i 2 2) ||
    (b.all tValve).any (fun i => b.u 3 i 0 2 == p && b.flag 3 i 0x19 0 && b.u 3 i 2 1 == 3)

/-- LO and HI of the flow of a pipe. -/
def Bank.flowBounds (b : Bank) (p : Nat) : Nat × Nat :=
  (if b.oneWay p then dMax 0 (b.w 1 p 0x20) else b.w 1 p 0x20, b.w 1 p 0x24)

/-- LO and HI of a variable of an estimation problem (R156). -/
def Bank.estBounds (b : Bank) (v : EstVar) : Nat × Nat :=
  match v with
  | .p n => (b.w 0 n 0xC, b.w 0 n 0x10)
  | .t _ => (0, f64 180)
  | .w _ => (fpInfBits fmt64 true, fpInfBits fmt64 false)
  | .q p => b.flowBounds p

/-- LO and HI of speeds of pumps that share a variable. -/
def Bank.speedBounds (b : Bank) (pumps : List Nat) : Nat × Nat :=
  match pumps with
  | [] => (0, 0)
  | i :: is => is.foldl (fun (w : Nat × Nat) k => (dMax w.1 (b.w 2 k 0x38), dMin w.2 (b.w 2 k 0x3C)))
      (b.w 2 i 0x38, b.w 2 i 0x3C)

/-- Capacity of a store: from T_MIN to T_MAX over the whole volume, with the properties of a temperature (R155). -/
def Bank.storeCap (b : Bank) (i : Nat) (temp : Rat) : Rat :=
  cpT temp * rhoT temp * b.f 5 i 8 * (b.f 5 i 0x1C - b.f 5 i 0x18)

/-- The temperatures of a store's layers, top first: their points in the snapshot, else those of T_INIT (R122). -/
def State.layerTemps (s : State) (b : Bank) (i : Nat) : List Rat :=
  (List.range (b.u 5 i 1 1)).map (fun k =>
    (if k < 8 then s.snapGood (b.u 5 i (0x70 + 2 * k) 2) else none).getD (b.f 5 i (0x30 + 4 * k)))

/-- The mean temperature of a store. -/
def State.storeMean (s : State) (b : Bank) (i : Nat) : Rat := rsum (s.layerTemps b i) / (max 1 (b.u 5 i 1 1) : Nat)

/-- LO and HI of a variable of stage j of the optimisation problem of a field: the element limits of R119 to R122, RESERVE
(R155), and the boundary pipes of R198. -/
def State.optBounds (s : State) (c : Campaign) (f stages j : Nat) (v : OptVar) : Nat × Nat :=
  let b := s.atlas c.bank
  match v with
  | .plantP i => (b.w 4 i 8, b.w 4 i 0xC)
  | .plantT i => (b.w 4 i 0x14, b.w 4 i 0x18)
  | .group g => b.speedBounds ((b.ofField tPump f).filter (fun i => b.u 2 i 3 1 == g))
  | .pump i => b.speedBounds [i]
  | .valve i => (b.w 3 i 0xC, b.w 3 i 0x10)
  | .storeM i => (dNeg (b.w 5 i 0x24), b.w 5 i 0x20)
  | .storeE i =>
    let cap := b.storeCap i (s.storeMean b i)
    (f64 (b.f 5 i 0x28 * cap), f64 cap)
  | .flow p =>
    let q0 := (c.basis.lookup p).getD 0
    if !b.flag 1 p 5 0 || s.shutPipe b p then (0, 0) else if s.couples c p then b.flowBounds p else (q0, q0)
  | .temp p =>
    let (fu, node) := if c.q0 p < 0 then ((b.pipeFields p).2, b.u 1 p 2 2) else ((b.pipeFields p).1, b.u 1 p 0 2)
    if s.couples c p && fu == f then (fpInfBits fmt64 true, fpInfBits fmt64 false)
    else
      let t := ((s.arrivals c p stages (fun _ => s.tNode b node))[j]?).getD 0
      (t, t)

/-! Linear rows over variables of any kind. -/

/-- A row: what it stands for and of which element, its coefficients, right-hand side, the limit it states, and its
weight. -/
structure LinRow (α : Type) where
  kind : Nat
  elem : Nat
  terms : List (α × Rat)
  rhs : Rat
  limit : Rat
  weight : Rat
deriving DecidableEq, Repr

/-- Terms with those of one variable added up, and none of coefficient 0. -/
def gather {α : Type} [DecidableEq α] (ts : List (α × Rat)) : List (α × Rat) :=
  (ts.foldl (fun (acc : List (α × Rat)) t =>
    if acc.any (fun x => x.1 = t.1) then acc.map (fun x => if x.1 = t.1 then (x.1, x.2 + t.2) else x) else acc ++ [t]) []).filter
      (fun t => decide (t.2 ≠ 0))

/-- Terms scaled. -/
def scaleTerms {α : Type} (k : Rat) (ts : List (α × Rat)) : List (α × Rat) := ts.map (fun t => (t.1, k * t.2))

/-- Where a variable stands among the variables of the stages: stage and place. -/
def placeOf {α : Type} [DecidableEq α] (vars : List (List α)) (v : α) : Option (Nat × Nat) :=
  (vars.zipIdx.filterMap (fun l => (l.1.findIdx? (fun x => x = v)).map (fun k => (l.2, k)))).head?

/-- The stage a row belongs to: the latest that it touches (R166). -/
def rowStage {α : Type} [DecidableEq α] (vars : List (List α)) (r : LinRow α) : Nat :=
  r.terms.foldl (fun m t => max m (((placeOf vars t.1).map (fun x => x.1)).getD 0)) 0

/-- GROUP of a row, 0x00 to 0xFE: it is used to report infeasibility alone, and no rule numbers it. -/
def rowGroup (kind elem : Nat) : Nat := (Config.rowGroup kind elem).toNat % 255

/-- A row in the form of R169, in its stage. -/
def probRowOf {α : Type} [DecidableEq α] (vars : List (List α)) (j : Nat) (r : LinRow α) : ProbRow :=
  let bits := r.terms.filterMap (fun t =>
    match placeOf vars t.1 with
    | some (k, i) => if k = j then some (i, f64 t.2) else if k + 1 = j then some (16 + i, f64 t.2) else none
    | none => none)
  let coefs := (List.range 32).filterMap (fun k => (bits.find? (fun x => x.1 == k)))
  { group := rowGroup r.kind r.elem, mask := sumN (coefs.map (fun x => 2 ^ x.1)), rhs := f64 r.rhs, weight := f64 r.weight,
    coefs := coefs }

/-- The rows of a stage, in the form of R169; a row without terms is none. -/
def stageRows {α : Type} [DecidableEq α] (vars : List (List α)) (rows : List (LinRow α)) (j : Nat) : List ProbRow :=
  (rows.filter (fun r => !r.terms.isEmpty && rowStage vars r == j)).map (probRowOf vars j)

/-! The linearised network (R151 to R153). -/

/-- The point at which a problem is linearised: the flow of each pipe and the temperature of each node. -/
structure LinPoint where
  flows : List (Nat × Rat)
  temps : List (Nat × Rat)
deriving DecidableEq, Repr

/-- q₀ of a pipe and T₀ of a node. -/
def LinPoint.q (l : LinPoint) (p : Nat) : Rat := (l.flows.lookup p).getD 0
def LinPoint.t (l : LinPoint) (n : Nat) : Rat := (l.temps.lookup n).getD 0

/-- The flow basis of the launching pass and its T_node. -/
def State.basisPoint (s : State) (c : Campaign) (f : Nat) : LinPoint :=
  let b := s.atlas c.bank
  { flows := (b.livePipes f).map (fun p => (p, c.q0 p)), temps := (b.nodesOf f).map (fun n => (n, s.tNode b n)) }

/-- The field's new estimate, with the flow basis where it names no value. -/
def State.estimatePoint (s : State) (c : Campaign) (f : Nat) (e : Estimate) : LinPoint :=
  let l := s.basisPoint c f
  { flows := e.flow.map (fun x => (x.1, r64 x.2)) ++ l.flows, temps := e.temp.map (fun x => (x.1, r64 x.2)) ++ l.temps }

/-- The net injection at a node that balances the flows of a point. -/
def LinPoint.w (l : LinPoint) (b : Bank) (pipes : List Nat) (n : Nat) : Rat :=
  rsum ((pipes.filter (fun p => b.u 1 p 0 2 == n)).map l.q) - rsum ((pipes.filter (fun p => b.u 1 p 2 2 == n)).map l.q)

/-- What a node injects at a point: the net injection of an injection node, where it is positive. -/
def Bank.injected (b : Bank) (l : LinPoint) (pipes : List Nat) (n : Nat) : Rat :=
  if b.injects n then max 0 (l.w b pipes n) else 0

/-- T₀ of a pipe: the mean of its water at the launching freeze edge; of one without a profile, that of its inlet
(assumption 28). -/
def State.pipeTemp (s : State) (b : Bank) (l : LinPoint) (p : Nat) : Rat :=
  if (s.profile p).isEmpty then l.t (b.inletNode p (l.q p))
  else weightedMean ((s.profile p).map (fun x => (r64 x.1, r64 x.2)))

/-- g in m/s². -/
def gravity : Rat := mkRat 980665 100000

/-- x to a real power. -/
def ratPowR (x e : Rat) : Rat := if x ≤ 0 then 0 else ratExp (e * ratLn x)

/-- The friction factor at Re₀ (R151). With no flow, Re₀ = 0 and the rule states none: a free value. -/
def Bank.friction (b : Bank) (p : Nat) (q0 temp : Rat) : Rat :=
  let d := b.f 1 p 0xC
  let re := 4 * rabs q0 / (ratPi * d * muT temp)
  if re = 0 then r64 (Config.stillFriction p).toNat
  else if re < 2000 then 64 / re
  else
    let x := ratLn (b.f 1 p 0x10 / (3700 * d) + mkRat 574 100 / ratPowR re (mkRat 9 10)) / ratLn 10
    mkRat 1 4 / (x * x)

/-- r of R151. -/
def Bank.resistance (b : Bank) (p : Nat) (q0 temp : Rat) : Rat :=
  8 * b.friction p q0 temp * b.f 1 p 8 / (1000 * ratPi * ratPi * rhoT temp * ratPow (b.f 1 p 0xC) 5)

/-- q̃ of R151. -/
def State.flowTilde (s : State) (r : Nat) (q0 : Rat) : Rat :=
  let lim := mkRat (s.rd (SV_CFG2_Q_LIN r)) 1000
  if lim ≤ rabs q0 then q0 else if q0 < 0 then -lim else lim

/-- The speed of a pump: its point; else the set-point table in force (assumption 28); a fixed speed as it is. -/
def State.pumpSpeed (s : State) (b : Bank) (i : Nat) : Rat :=
  if !b.flag 2 i 2 1 then b.f 2 i 0x38
  else (s.snapGood (b.u 2 i 0x44 2)).getD (r32 (s.snapValue 1 i).toNat)

/-- φ of R152, and φ'/φ. -/
def Bank.valvePhi (b : Bank) (i : Nat) (x : Rat) : Rat :=
  let c := b.u 3 i 3 1
  if c = 0 then x else if c = 1 then ratPowR (b.f 3 i 8) (x - 1) else ratSqrt x
def Bank.valveSlope (b : Bank) (i : Nat) (x : Rat) : Rat :=
  let c := b.u 3 i 3 1
  if c = 0 then 1 / x else if c = 1 then ratLn (b.f 3 i 8) else 1 / (2 * x)

/-- x₀ of a valve: below POS_MIN or 0.01 it is raised to the larger of the two. -/
def State.valveAt (s : State) (b : Bank) (i : Nat) : Rat := max (s.valvePos b i) (max (b.f 3 i 0xC) (mkRat 1 100))

/-- A variable of the network's equations. -/
inductive NetVar where
  | p (node : Nat)
  | q (pipe : Nat)
  | w (node : Nat)
  | speed (pump : Nat)
  | pos (valve : Nat)
deriving DecidableEq, Repr

/-- The pumps and the valves in service in a pipe. -/
def Bank.pumpsIn (b : Bank) (p : Nat) : List Nat := (b.all tPump).filter (fun i => b.u 2 i 0 2 == p && b.flag 2 i 2 0)
def Bank.valvesIn (b : Bank) (p : Nat) : List Nat := (b.all tValve).filter (fun i => b.u 3 i 0 2 == p && b.flag 3 i 0x19 0)

/-- The head of a pump linearised (R152): H(q₀, s₀) and its slopes in q and in s. -/
def Bank.headAt (b : Bank) (i : Nat) (q s0 : Rat) : Rat × Rat × Rat :=
  let h (k : Nat) : Rat := b.d 2 i (8 + 8 * k)
  (s0 * s0 * h 0 + s0 * h 1 * q + h 2 * q * q, s0 * h 1 + 2 * h 2 * q, 2 * s0 * h 0 + h 1 * q)

/-- The power of a pump linearised likewise. -/
def Bank.powerAt (b : Bank) (i : Nat) (q s0 : Rat) : Rat × Rat × Rat :=
  let h (k : Nat) : Rat := b.d 2 i (0x20 + 8 * k)
  (s0 * s0 * s0 * h 0 + s0 * s0 * h 1 * q + s0 * h 2 * q * q, s0 * s0 * h 1 + 2 * s0 * h 2 * q,
   3 * s0 * s0 * h 0 + 2 * s0 * h 1 * q + h 2 * q * q)

/-- The hydraulic row of an interior pipe (R151, R152), in the pressures of its ends, its flow, the speeds of its pumps and
the positions of its valves. -/
def State.pipeRow (s : State) (b : Bank) (r : Nat) (l : LinPoint) (p : Nat) : LinRow NetVar :=
  let nFrom := b.u 1 p 0 2
  let nTo := b.u 1 p 2 2
  let q0 := l.q p
  let temp := s.pipeTemp b l p
  let rho := rhoT temp
  let qt := s.flowTilde r q0
  let res := b.resistance p q0 temp
  let kp := rho * gravity / 1000
  let pumps := (b.pumpsIn p).map (fun i =>
    let s0 := s.pumpSpeed b i
    (i, s0, b.headAt i q0 s0))
  let valves := (b.valvesIn p).map (fun i =>
    let x0 := s.valveAt b i
    let kv := b.f 3 i 4 * b.valvePhi i x0
    (i, x0, 1296000 / (rho * kv * kv)))
  let pumpQ := rsum (pumps.map (fun x => kp * x.2.2.2.1))
  let pumpC := rsum (pumps.map (fun x => kp * (x.2.2.1 - x.2.2.2.1 * q0 - x.2.2.2.2 * x.2.1)))
  let valveR := rsum (valves.map (fun x => x.2.2))
  let valveX (x : Nat × Rat × Rat) : Rat := -2 * x.2.2 * qt * rabs qt * b.valveSlope x.1 x.2.1
  { kind := 2, elem := p, limit := 0, weight := 1,
    terms := [(.p nFrom, 1), (.p nTo, -1), (.q p, pumpQ - 2 * (res + valveR) * rabs qt)] ++
      pumps.map (fun x => (.speed x.1, kp * x.2.2.2.2)) ++ valves.map (fun x => (.pos x.1, -(valveX x))),
    rhs := -(kp * (b.f 0 nFrom 8 - b.f 0 nTo 8)) - pumpC - (res + valveR) * rabs qt * qt -
      rsum (valves.map (fun x => valveX x * x.2.1)) }

/-- The mass balance of a node (R153). -/
def Bank.massRow (b : Bank) (pipes : List Nat) (n : Nat) : LinRow NetVar :=
  { kind := 0, elem := n, limit := 0, weight := 1, rhs := 0,
    terms := (pipes.filter (fun p => b.u 1 p 2 2 == n)).map (fun p => (.q p, 1)) ++
      (pipes.filter (fun p => b.u 1 p 0 2 == n)).map (fun p => (.q p, -1)) ++ (if b.injects n then [(.w n, 1)] else []) }

/-- What one end of an injection link takes the other gives (R153): substations and partners, plants, stores. -/
def Bank.linkRowsOf (b : Bank) (f : Nat) : List (LinRow NetVar) :=
  ((b.stations f).map (fun n => (n, n + 1)) ++ (b.ofField tPlant f).map (fun i => (b.u 4 i 2 2, b.u 4 i 4 2)) ++
    (b.ofField tStore f).map (fun i => (b.u 5 i 2 2, b.u 5 i 4 2))).map (fun (e : Nat × Nat) =>
      { kind := 3, elem := e.1, limit := 0, weight := 1, rhs := 0, terms := [(.w e.1, 1), (.w e.2, 1)] })

/-! The estimation problem (R156). -/

/-- The temperature at which a pipe's water leaves it at the launching freeze edge: that of the parcel at its outlet
(assumption 28). -/
def State.outletTemp (s : State) (b : Bank) (l : LinPoint) (p : Nat) : Rat :=
  let ps := s.profile p
  match (if l.q p < 0 then ps.head? else ps.getLast?) with
  | some x => r64 x.2
  | none => l.t (b.inletNode p (l.q p))

/-- The heat balance of a node (R153), linearised in T_n and in the flows of the pipes that flow in; none where no pipe
flows in. -/
def State.heatRow (s : State) (b : Bank) (l : LinPoint) (pipes : List Nat) (n : Nat) : LinRow EstVar :=
  let ins := pipes.filter (fun p => decide (l.q p ≠ 0) && b.outletNode p (l.q p) == n)
  let total := rsum (ins.map (fun p => rabs (l.q p)))
  { kind := 1, elem := n, limit := 0, weight := 1, rhs := total * l.t n,
    terms := if ins.isEmpty then [] else gather ((.t n, total) :: ins.map (fun p =>
      (.q p, (if l.q p < 0 then -1 else 1) * (l.t n - s.outletTemp b l p)))) }

/-- A row of the network as one of the estimation, with speeds and positions at their values. -/
def State.estRow (s : State) (b : Bank) (r : LinRow NetVar) : LinRow EstVar :=
  { kind := r.kind, elem := r.elem, limit := r.limit, weight := r.weight,
    terms := gather (r.terms.filterMap (fun t =>
      match t.1 with
      | .p n => some (.p n, t.2)
      | .q p => some (.q p, t.2)
      | .w n => some (.w n, t.2)
      | .speed _ => none
      | .pos _ => none)),
    rhs := r.rhs - rsum (r.terms.map (fun t =>
      match t.1 with
      | .speed i => t.2 * s.pumpSpeed b i
      | .pos i => t.2 * s.valveAt b i
      | .p _ => 0
      | .q _ => 0
      | .w _ => 0)) }

/-- The equality rows of a field's estimation problem. -/
def State.estEqualities (s : State) (c : Campaign) (x : FieldRun) : List (LinRow EstVar) :=
  let b := s.atlas c.bank
  let l := s.basisPoint c x.field
  let pipes := s.openPipes b x.field
  let nodes := b.nodesOf x.field
  (nodes.map (b.massRow pipes)).map (s.estRow b) ++ (b.linkRowsOf x.field).map (s.estRow b) ++
    nodes.map (s.heatRow b l pipes) ++
    ((pipes.filter (fun p => !b.flag 1 p 5 1)).map (s.pipeRow b x.region l)).map (s.estRow b)

/-- The points of a field's estimation that pass the screening, each with its row: z compared with the quantity that it
measures, weighted by 1/σ². -/
def State.estMeasured (s : State) (c : Campaign) (x : FieldRun) : List (Nat × LinRow EstVar) :=
  let b := s.atlas c.bank
  ((b.measured x.field).filter (s.passes x.region x.field)).filterMap (fun m =>
    match m.2.1, s.survey.snap.find? (fun y => y.code == m.1) with
    | some v, some y => some (m.1, { kind := 4, elem := m.1, limit := 0, terms := [(v, if m.2.2 then -1 else 1)], rhs := r64 y.value,
                                     weight := 1 / (s.sigma y * s.sigma y) })
    | _, _ => none)

/-- The value of a variable at the linearisation point, as binary64 bits; the rules give none for a pressure: a free
value. -/
def State.estStart (s : State) (c : Campaign) (f : Nat) (v : EstVar) : Nat :=
  let b := s.atlas c.bank
  let l := s.basisPoint c f
  match v with
  | .p n =>
    let w := (Config.startPressure n).toNat
    if fpFinite fmt64 w then w else 0
  | .t n => f64 (l.t n)
  | .w n => f64 (l.w b (s.openPipes b f) n)
  | .q p => f64 (l.q p)

/-- The bits of a variable in an estimate. -/
def estBits? (e : Estimate) (v : EstVar) : Option Nat :=
  match v with
  | .p n => e.press.lookup n
  | .t n => e.temp.lookup n
  | .w n => e.inj.lookup n
  | .q p => e.flow.lookup p

/-- The previous estimate of a field, where its campaign may start from it (R115, R156). -/
def State.priorEst (s : State) (x : FieldRun) : Option Estimate :=
  if x.cold then none else s.survey.ests.find? (fun e => e.field == x.field)

/-- A problem as the surveyor makes it: its stages, the warm start of each, and the points of its measurement rows. -/
structure Assembled where
  stages : List ProbStage
  start : List (List Nat)
  points : List Nat
deriving DecidableEq, Repr

/-- The estimation problem of a field (R156). -/
def State.estProblem (s : State) (c : Campaign) (x : FieldRun) : Assembled :=
  let b := s.atlas c.bank
  let vars := b.estVars x.field (s.openPipes b x.field)
  let eqs := s.estEqualities c x
  let meas := s.estMeasured c x
  let prior := s.priorEst x
  { stages := vars.zipIdx.map (fun l =>
      { n := l.1.length, lo := l.1.map (fun v => (b.estBounds v).1), hi := l.1.map (fun v => (b.estBounds v).2),
        g := l.1.map (fun _ => 0), h := l.1.map (fun _ => l.1.map (fun _ => 0)), eqs := stageRows vars eqs l.2, ineqs := [],
        meas := stageRows vars (meas.map (fun m => m.2)) l.2 }),
    start := vars.map (fun l => l.map (fun v => (prior.bind (fun e => estBits? e v)).getD (s.estStart c x.field v))),
    points := (List.range vars.length).flatMap (fun j =>
      (meas.filter (fun m => !m.2.terms.isEmpty && rowStage vars m.2 == j)).map (fun m => m.1)) }

/-! The optimisation problem (R155, R157). -/

/-- A variable of a stage of the horizon. -/
abbrev StageVar := Nat × OptVar

/-- A quantity that is affine in the variables of the horizon. -/
abbrev Affine := Rat × List (StageVar × Rat)

/-- The decision that a pump's speed is: that of its group, its own, or none. -/
def Bank.speedVar (b : Bank) (i : Nat) : Option OptVar :=
  if b.u 2 i 3 1 ≠ 0xFF then some (.group (b.u 2 i 3 1)) else if b.flag 2 i 2 1 then some (.pump i) else none

/-- Binary64 words of a row of the network. -/
def netWords (r : LinRow NetVar) : List Nat :=
  let code (v : NetVar) : Nat :=
    match v with
    | .p n => 5 * n
    | .q p => 5 * p + 1
    | .w n => 5 * n + 2
    | .speed i => 5 * i + 3
    | .pos i => 5 * i + 4
  r.terms.length :: (r.terms.flatMap (fun t => [code t.1, f64 t.2]) ++ [f64 r.rhs])

/-- The linearised network of a field as words: what its condensation is a function of. -/
def State.netEquations (s : State) (c : Campaign) (x : FieldRun) (l : LinPoint) : List Nat :=
  let b := s.atlas c.bank
  let pipes := s.openPipes b x.field
  ((b.nodesOf x.field).map (b.massRow pipes) ++ b.linkRowsOf x.field ++
    (pipes.filter (fun p => !b.flag 1 p 5 1)).map (s.pipeRow b x.region l)).flatMap netWords

/-- The forecast of a field's substations in a stage: the present draw times the profile factor (R157). -/
def State.forecast (s : State) (c : Campaign) (x : FieldRun) (j : Nat) : List Nat :=
  let b := s.atlas c.bank
  let factor := r32 ((((c.factors.lookup x.field).getD [])[j]?).getD 0x3F800000)
  (b.stations x.field).map (fun n =>
    f64 (factor * r64 (((s.survey.snap.find? (fun y => y.code == implicitCode (b.u 0 n 4 2) 2)).map (fun y => y.value)).getD 0)))

/-- What the network of a stage is affine in: its decisions, and the draws of its substations. -/
inductive NetIn where
  | dec (v : OptVar)
  | draw (node : Nat)
deriving DecidableEq, Repr

/-- A row of the network to be solved: its unknowns, and what they add up to. -/
structure NetRow where
  terms : List (NetVar × Rat)
  const : Rat
  ins : List (NetIn × Rat)
deriving DecidableEq, Repr

/-- The coefficient of an unknown in a row. -/
def NetRow.coef (r : NetRow) (v : NetVar) : Rat := rsum ((r.terms.filter (fun t => t.1 = v)).map (fun t => t.2))

/-- A row scaled, and a multiple of a row added to another. -/
def NetRow.scale (k : Rat) (r : NetRow) : NetRow := ⟨scaleTerms k r.terms, k * r.const, scaleTerms k r.ins⟩
def NetRow.plus (r q : NetRow) (k : Rat) : NetRow :=
  ⟨gather (r.terms ++ scaleTerms k q.terms), r.const + k * q.const, gather (r.ins ++ scaleTerms k q.ins)⟩

/-- A row of the network in the decisions of a stage: what is not an unknown goes to the right. -/
def State.netRow (s : State) (b : Bank) (vars : List OptVar) (r : LinRow NetVar) : NetRow :=
  let known (t : NetVar × Rat) : Option (Rat × List (NetIn × Rat)) :=
    let one (v : OptVar) (fixed : Rat) : Rat × List (NetIn × Rat) :=
      if vars.contains v then (0, [(.dec v, -t.2)]) else (-(t.2 * fixed), [])
    match t.1 with
    | .speed i => some (match b.speedVar i with
      | some v => one v (s.pumpSpeed b i)
      | none => (-(t.2 * s.pumpSpeed b i), []))
    | .pos i => some (one (.valve i) (s.valveAt b i))
    | .q p => if b.flag 1 p 5 1 then some (one (.flow p) 0) else none
    | .p _ => none
    | .w _ => none
  let ks := r.terms.filterMap known
  ⟨gather (r.terms.filter (fun t => (known t).isNone)), r.rhs + rsum (ks.map (fun k => k.1)), gather (ks.flatMap (fun k => k.2))⟩

/-- The injections that R153 and R155 fix: a substation's draw, a store's flow, and 0 of a plant that does not run. -/
def State.injectionRows (s : State) (b : Bank) (f : Nat) : List NetRow :=
  (b.stations f).map (fun n => ⟨[(.w n, 1)], 0, [(.draw n, -1)]⟩) ++
  (b.ofField tStore f).map (fun i => ⟨[(.w (b.u 5 i 2 2), 1)], 0, [(.dec (.storeM i), -1)]⟩) ++
  ((b.ofField tPlant f).filter (fun i => !s.plantRuns i)).map (fun i => ⟨[(.w (b.u 4 i 2 2), 1)], 0, []⟩)

/-- Rows solved for unknowns, one after another; each that some row still holds is found from it, and leaves all others. -/
def solveRows (unknowns : List NetVar) (rows : List NetRow) : List (NetVar × NetRow) :=
  (unknowns.foldl (fun (st : List (NetVar × NetRow) × List NetRow) u =>
    match st.2.find? (fun r => decide (r.coef u ≠ 0)) with
    | none => st
    | some r =>
      let pivot := r.scale (1 / r.coef u)
      let clear (x : NetRow) : NetRow := x.plus pivot (-(x.coef u))
      ((u, pivot) :: st.1.map (fun y => (y.1, clear y.2)), st.2.map clear)) ([], rows)).1

/-- The linearised network of a field solved for its pressures, flows and injections (R151 to R153, R157). -/
def State.solveNetwork (s : State) (b : Bank) (x : FieldRun) (l : LinPoint) (vars : List OptVar) : List (NetVar × NetRow) :=
  let pipes := s.openPipes b x.field
  let inner := pipes.filter (fun p => !b.flag 1 p 5 1)
  let nodes := b.nodesOf x.field
  let rows := (nodes.map (b.massRow pipes) ++ b.linkRowsOf x.field ++ inner.map (s.pipeRow b x.region l)).map (s.netRow b vars)
  solveRows (nodes.map NetVar.p ++ inner.map NetVar.q ++ (nodes.filter b.injects).map NetVar.w)
    (rows ++ s.injectionRows b x.field)

/-- What the optimisation of a field is made from: its variables, linearisation point, network as words and as solved, and
Δh. -/
structure OptData where
  vars : List OptVar
  point : LinPoint
  eqs : List Nat
  net : List (NetVar × NetRow)
  dh : Rat
deriving DecidableEq, Repr

/-- A quantity that the linearised equations leave undetermined (a pressure level, the share of a plant) in a stage: a free
value, affine in the decisions (DESIGN CHOICE, assumption 28). -/
def State.netFree (s : State) (c : Campaign) (x : FieldRun) (o : OptData) (v : NetVar) (j : Nat) : Affine :=
  let (what, i) := match v with
    | .p n => (0, n)
    | .q p => (1, p)
    | .w n => (2, n)
    | .speed k => (3, k)
    | .pos k => (4, k)
  (r64 (Config.networkBase o.eqs (s.forecast c x j) what i).toNat,
   o.vars.zipIdx.map (fun y => ((j, y.1), r64 (Config.networkGain o.eqs what i y.2).toNat)))

/-- A pressure, flow or injection of the condensed network, affine in the decisions of a stage (R157). -/
def State.condensed (s : State) (c : Campaign) (x : FieldRun) (o : OptData) (v : NetVar) (j : Nat) : Affine :=
  let b := s.atlas c.bank
  match o.net.lookup v with
  | none => s.netFree c x o v j
  | some r =>
    let frees := (r.terms.filter (fun t => t.1 ≠ v)).map (fun t => (t.2, s.netFree c x o t.1 j))
    let draws := (b.stations x.field).zip (s.forecast c x j)
    let ins := r.ins.map (fun t =>
      match t.1 with
      | .dec y => (0, [((j, y), t.2)])
      | .draw n => (t.2 * r64 ((draws.lookup n).getD 0), ([] : List (StageVar × Rat))))
    (r.const + rsum (ins.map (fun y => y.1)) - rsum (frees.map (fun y => y.1 * y.2.1)),
     gather (ins.flatMap (fun y => y.2) ++ frees.flatMap (fun y => scaleTerms (-y.1) y.2.2)))

/-- The flow of a pipe in a stage: that of an isolated or removed pipe is 0 (R118, R152), a boundary pipe's is a variable. -/
def State.pipeFlow (s : State) (c : Campaign) (x : FieldRun) (o : OptData) (p j : Nat) : Affine :=
  let b := s.atlas c.bank
  if !b.flag 1 p 5 0 || s.shutPipe b p then (0, [])
  else if b.flag 1 p 5 1 then (0, [((j, .flow p), 1)])
  else s.condensed c x o (.q p) j

/-- The temperature of a node in a stage through R154: a running plant's supply, the boundary water, mixing weighted by q₀ with
the water injected there (that of a return partner or a store, at its T_node), and T_node held over the horizon where nothing
flows in. -/
def State.tempForm (s : State) (c : Campaign) (x : FieldRun) (vars : List OptVar) : Nat → Nat → Nat → Affine
  | 0, n, _ => (s.tNode (s.atlas c.bank) n, [])
  | fuel + 1, n, j =>
    let b := s.atlas c.bank
    let att := b.u 0 n 6 2
    if b.u 0 n 0 1 = 3 ∧ b.u 4 att 2 2 = n ∧ vars.contains (.plantT att) then (0, [((j, .plantT att), 1)])
    else
      let pipes := s.openPipes b x.field
      let ins := pipes.filter (fun p => c.q0 p != 0 && b.outletNode p (c.q0 p) == n)
      if ins.isEmpty then (s.tNode b n, [])
      else
        let inj := b.injected (s.basisPoint c x.field) pipes n
        let total := inj + rsum (ins.map (fun p => rabs (c.q0 p)))
        let parts := ins.map (fun p =>
          let a : Affine :=
            if b.flag 1 p 5 1 then (0, [((j, .temp p), 1)])
            else
              let form := b.arrivalForm p (s.profile p) (s.pipeMass p) (c.q0 p) c.dh j
              let ups := form.2.map (fun y => (y.2, State.tempForm s c x vars fuel (b.inletNode p (c.q0 p)) y.1))
              (form.1 + rsum (ups.map (fun y => y.1 * y.2.1)), ups.flatMap (fun y => scaleTerms y.1 y.2.2))
          (rabs (c.q0 p) / total, a))
        (inj / total * s.tNode b n + rsum (parts.map (fun y => y.1 * y.2.1)), gather (parts.flatMap (fun y => scaleTerms y.1 y.2.2)))

/-- A row a ≤ b (or a = b) of an affine quantity scaled by k: its constant goes to the right. -/
def affineRow (kind elem : Nat) (k : Rat) (a : Affine) (b limit : Rat) : LinRow StageVar :=
  { kind := kind, elem := elem, terms := gather (scaleTerms k a.2), rhs := b - k * a.1, limit := limit, weight := 1 }

/-- The value of a variable at the linearisation point. -/
def State.optStart (s : State) (c : Campaign) (x : FieldRun) (l : LinPoint) (v : OptVar) : Rat :=
  let b := s.atlas c.bank
  let pipes := s.openPipes b x.field
  match v with
  | .plantP i =>
    let up := b.u 4 i 2 2
    let t := l.t up
    cpT t * l.w b pipes up * (t - l.t (b.u 4 i 4 2))
  | .plantT i => l.t (b.u 4 i 2 2)
  | .group g => (((b.ofField tPump x.field).find? (fun i => b.u 2 i 3 1 == g)).map (s.pumpSpeed b)).getD 0
  | .pump i => s.pumpSpeed b i
  | .valve i => s.valveAt b i
  | .storeM i => -(l.w b pipes (b.u 5 i 2 2))
  | .storeE i =>
    let t := s.storeMean b i
    cpT t * rhoT t * b.f 5 i 8 * (t - b.f 5 i 0x18)
  | .flow p => l.q p
  | .temp p => l.t (if (b.pipeFields p).1 = x.field then b.u 1 p 0 2 else b.u 1 p 2 2)

/-- The heat of a running plant in a stage (R155), linearised as R153. -/
def State.plantRow (s : State) (c : Campaign) (x : FieldRun) (o : OptData) (i j : Nat) : LinRow StageVar :=
  let b := s.atlas c.bank
  let up := b.u 4 i 2 2
  let down := b.u 4 i 4 2
  let t0 := o.point.t up
  let dT := t0 - o.point.t down
  let cp := cpT t0
  let q0 := o.point.w b (s.openPipes b x.field) up
  let q := s.condensed c x o (.w up) j
  let ret := s.tempForm c x o.vars (b.nodesOf x.field).length down j
  { kind := 5, elem := i, limit := 0, weight := 1,
    terms := gather ([((j, .plantP i), 1), ((j, .plantT i), -(cp * q0))] ++ scaleTerms (-(cp * dT)) q.2 ++
      scaleTerms (cp * q0) ret.2),
    rhs := cp * (dT * q.1 - q0 * ret.1 - q0 * dT) }

/-- The dynamics of a store (R155): its content at the launch in stage 0, and then that of the stage before. -/
def State.storeRow (s : State) (c : Campaign) (x : FieldRun) (o : OptData) (i j : Nat) : LinRow StageVar :=
  let b := s.atlas c.bank
  let t := s.storeMean b i
  let ts := s.layerTemps b i
  let top := ts.headD t
  let bot := ts.getLastD t
  let loss := o.dh * b.f 5 i 0x10
  if j = 0 then
    { kind := 6, elem := i, terms := [((0, .storeE i), 1)], rhs := s.optStart c x o.point (.storeE i), limit := 0, weight := 1 }
  else
    { kind := 6, elem := i, limit := 0, weight := 1,
      terms := gather [((j, .storeE i), 1), ((j - 1, .storeE i), loss / (cpT t * rhoT t * b.f 5 i 8) - 1),
        ((j - 1, .storeM i), -(o.dh * cpT t * (top - bot)))],
      rhs := -(loss * (bot - b.f 5 i 0x14)) }

/-- The equality rows of a stage. -/
def State.optEqualities (s : State) (c : Campaign) (x : FieldRun) (o : OptData) (j : Nat) : List (LinRow StageVar) :=
  let b := s.atlas c.bank
  ((b.ofField tPlant x.field).filter (fun i => o.vars.contains (.plantP i))).map (fun i => s.plantRow c x o i j) ++
    (b.ofField tStore x.field).map (fun i => s.storeRow c x o i j)

/-- The candidate inequality rows of a stage (R157): pressures, flows and velocities, ramps, and supply temperatures. -/
def State.optCandidates (s : State) (c : Campaign) (x : FieldRun) (o : OptData) (j : Nat) : List (LinRow StageVar) :=
  let b := s.atlas c.bank
  let both (kind elem : Nat) (a : Affine) (lo hi : Rat) : List (LinRow StageVar) :=
    [affineRow kind elem 1 a hi hi, affineRow kind elem (-1) a (-lo) lo]
  let velocity (p : Nat) : Rat := rhoT (s.pipeTemp b o.point p) * b.section_ p * b.f 1 p 0x28
  (b.nodesOf x.field).flatMap (fun n => both 7 n (s.condensed c x o (.p n) j) (b.f 0 n 0xC) (b.f 0 n 0x10)) ++
  (s.openPipes b x.field).flatMap (fun p =>
    let q := s.pipeFlow c x o p j
    (if b.flag 1 p 5 1 then [] else both 8 p q (r64 (b.flowBounds p).1) (b.f 1 p 0x24)) ++ both 9 p q (-(velocity p)) (velocity p)) ++
  (if j = 0 then [] else (b.ofField tPlant x.field).flatMap (fun i =>
    if o.vars.contains (.plantP i) then
      let step := b.f 4 i 0x10 * o.dh
      both 10 i (0, [((j, .plantP i), 1), ((j - 1, .plantP i), -1)]) (-step) step
    else [])) ++
  (b.stations x.field).map (fun n =>
    let least := mkRat (s.snapValue 4 (b.u 0 n 4 2)) 1000 + mkRat (s.rd (SV_CFG1_APPROACH x.region)) 10
    affineRow 11 n (-1) (s.tempForm c x o.vars (b.nodesOf x.field).length n j) (-least) least)

/-- The window of a row (R157): the latest stage that it touches and the one before stay, and earlier terms are fixed at their
warm-start values; how many were. -/
def windowed (warm : Nat → OptVar → Rat) (r : LinRow StageVar) : LinRow StageVar × Nat :=
  let top := r.terms.foldl (fun m t => max m t.1.1) 0
  let early := r.terms.filter (fun t => decide (t.1.1 + 1 < top))
  ({ r with terms := r.terms.filter (fun t => decide (top ≤ t.1.1 + 1)),
            rhs := r.rhs - rsum (early.map (fun t => t.2 * warm t.1.1 t.1.2)) }, early.length)

/-- The slack of a row at the warm start, scaled by its limit. -/
def slackOf (warm : Nat → OptVar → Rat) (r : LinRow StageVar) : Rat :=
  let v := r.rhs - rsum (r.terms.map (fun t => t.2 * warm t.1.1 t.1.2))
  if r.limit = 0 then v else v / rabs r.limit

/-- The rows of a stage that are kept: all, or the 32 with the smallest slack (R157). -/
def screened (warm : Nat → OptVar → Rat) (rows : List (LinRow StageVar)) : List (LinRow StageVar) :=
  if rows.length ≤ 32 then rows
  else
    let ranked := sortBy (fun (a b : Rat × Nat) => decide (a.1 < b.1)) (rows.zipIdx.map (fun r => (slackOf warm r.1, r.2)))
    let kept := (ranked.take 32).map (fun a => a.2)
    (rows.zipIdx.filter (fun r => kept.contains r.2)).map (fun r => r.1)

/-- The diagonal of H and g of a stage: plant cost and pump power at the stage's price, times Δh. -/
def State.costOf (s : State) (c : Campaign) (x : FieldRun) (o : OptData) (j : Nat) : List Rat × List Rat :=
  let b := s.atlas c.bank
  let price := r64 ((c.prices[j]?).getD 0) * o.dh / 3600000
  let pumps := (b.ofField tPump x.field).filter (fun i => b.flag 2 i 2 0)
  let power : List (OptVar × Rat) := pumps.flatMap (fun i =>
    let p := b.u 2 i 0 2
    let (_, dq, ds) := b.powerAt i (o.point.q p) (s.pumpSpeed b i)
    (scaleTerms (price * dq) (s.pipeFlow c x o p j).2).map (fun t => (t.1.2, t.2)) ++
      (match b.speedVar i with
       | some v => [(v, price * ds)]
       | none => []))
  (o.vars.map (fun v =>
     match v with
     | .plantP i => 2 * b.d 4 i 0x30 * o.dh
     | _ => 0),
   o.vars.map (fun v =>
     rsum ((power.filter (fun t => t.1 = v)).map (fun t => t.2)) +
       (match v with
        | .plantP i => b.d 4 i 0x28 * o.dh
        | _ => 0)))

/-- The warm start of a variable in a stage (R157, R196): the store shifted one stage, else the linearisation point. -/
def State.optWarm (s : State) (c : Campaign) (x : FieldRun) (o : OptData) (st : Option Stored) (j : Nat) (v : OptVar) : Rat :=
  let kept := st.bind (fun e => (e.stages[min (j + 1) (e.stages.length - 1)]?).bind (fun q =>
    if q.n = o.vars.length then (o.vars.findIdx? (fun y => y = v)).map (fun k => r64 (ofLeBytes ((q.data.drop (8 * k)).take 8)))
    else none))
  kept.getD (s.optStart c x o.point v)

/-- The optimisation problem of a field (R157), and the entries that its windows fixed and its screening dropped. -/
def State.optProblem (s : State) (c : Campaign) (x : FieldRun) (st : Option Stored) : Assembled × Nat × Nat :=
  let b := s.atlas c.bank
  let stages := b.u 6 x.field 0x10 1
  let vars := s.optVars b x.field
  let fresh := if x.estDone && (x.estStatus == 1 || x.estStatus == 2) then s.survey.ests.find? (fun e => e.field == x.field) else none
  let point := match fresh with
    | some e => s.estimatePoint c x.field e
    | none => s.basisPoint c x.field
  let o : OptData := ⟨vars, point, s.netEquations c x point, s.solveNetwork b x point vars, c.dh⟩
  let warm := s.optWarm c x o st
  let all := (List.range stages).map (fun j => vars.map (fun v => (j, v)))
  let eqs := ((List.range stages).flatMap (s.optEqualities c x o)).map (windowed warm)
  let cand := ((List.range stages).flatMap (s.optCandidates c x o)).map (windowed warm)
  let rowsAt (j : Nat) : List (LinRow StageVar) :=
    (cand.map (fun r => r.1)).filter (fun r => !r.terms.isEmpty && rowStage all r == j)
  ({ stages := (List.range stages).map (fun j =>
       let cost := s.costOf c x o j
       let bounds := vars.map (s.optBounds c x.field stages j)
       { n := vars.length, lo := bounds.map (fun w => w.1), hi := bounds.map (fun w => w.2), g := cost.2.map f64,
         h := cost.1.zipIdx.map (fun a => (List.range vars.length).map (fun k => if k = a.2 then f64 a.1 else 0)),
         eqs := stageRows all (eqs.map (fun r => r.1)) j, ineqs := (screened warm (rowsAt j)).map (probRowOf all j), meas := [] }),
     start := (List.range stages).map (fun j => vars.map (fun v => f64 (warm j v))),
     points := [] },
   sumN ((List.range stages).map (fun j => (rowsAt j).length - (screened warm (rowsAt j)).length)),
   sumN (eqs.map (fun r => r.2)) + sumN (cand.map (fun r => r.2)))

/-! The slice of a problem (R167 to R171). -/

/-- Bytes of a row. -/
def ProbRow.bytes (meas : Bool) (r : ProbRow) : List Byte :=
  leBytes 4 r.mask ++ leBytes 1 r.group ++ leBytes 3 0 ++ leBytes 8 r.rhs ++ (if meas then leBytes 8 r.weight else []) ++
    r.coefs.flatMap (fun x => leBytes 8 x.2)

/-- Bytes of the data of a stage, with H diagonal (HMODE 0). -/
def ProbStage.bytes (q : ProbStage) : List Byte :=
  (q.lo ++ q.hi ++ q.g ++ tab q.n (fun i => atM q.h i i)).flatMap (leBytes 8) ++
    (q.eqs ++ q.ineqs).flatMap (ProbRow.bytes false) ++ q.meas.flatMap (ProbRow.bytes true)

/-- Bytes filled with zeros to a length. -/
def padTo (n : Nat) (bs : List Byte) : List Byte := bs ++ List.replicate (n - bs.length) 0

/-- Bytes of the result block of a stage that holds a warm start. -/
def ProbStage.startBytes (q : ProbStage) (x : List Nat) : List Byte :=
  padTo (8 * (2 * q.n + q.eqs.length + q.ineqs.length) + (4 * q.meas.length + 7) / 8 * 8) (x.flatMap (leBytes 8))

/-- A problem laid out in a slice up to the end of its result area: header, directory, data, warm start. -/
def Assembled.bytes (a : Assembled) (kind : Nat) : List Byte :=
  let n := a.stages.length
  let data := a.stages.map ProbStage.bytes
  let blocks := (a.stages.zip a.start).map (fun q => q.1.startBytes q.2)
  let first := up64 (0x100 + 32 * n)
  let res := up64 (first + sumN (data.map (fun d => d.length)))
  let resLen := sumN (blocks.map (fun d => d.length))
  let offs := prefixSums first (data.map (fun d => d.length))
  let ress := prefixSums res (blocks.map (fun d => d.length))
  let header := padTo 0x100 (leBytes 4 0x54494C4C ++ leBytes 1 kind ++ leBytes 1 n ++ leBytes 34 0 ++
    leBytes 4 (sumN (data.map (fun d => d.length))) ++ leBytes 4 res ++ leBytes 4 resLen ++ leBytes 4 (up64 (res + resLen)))
  let dirs := a.stages.zipIdx.flatMap (fun q =>
    leBytes 1 q.1.n ++ leBytes 1 q.1.eqs.length ++ leBytes 1 q.1.ineqs.length ++ leBytes 1 0 ++ leBytes 2 q.1.meas.length ++
      leBytes 2 0 ++ leBytes 4 (at1 offs q.2) ++ leBytes 4 ((data[q.2]?).getD []).length ++ leBytes 4 (at1 ress q.2) ++ leBytes 12 0)
  padTo res (padTo first (header ++ dirs) ++ data.flatten) ++ blocks.flatten

/-- The limits of R158: stages, variables and rows of a stage, and the lane slice. -/
def Assembled.capacity (a : Assembled) (kind : Nat) (s : State) : Bool :=
  let v : Sec := ⟨({ s with mem := [] }).putBytes 0 (a.bytes kind), 0, sliceLen⟩
  decide (a.stages.length ≤ 64) && a.stages.all (fun q => decide (q.n ≤ 16)) &&
    a.stages.all (fun q => decide (q.eqs.length ≤ 16) && decide (q.ineqs.length ≤ 32)) && decide ((a.bytes kind).length ≤ sliceLen) && v.fits

end Sys2Proof.Machine
end

