-- ==== Sys2Proof/Machine/Handover.lean ====
section
/-! DEFINITION. Handing problems to lanes (R157 to R159, R195, R196), and the restart of a surveyor (R138). -/

namespace Sys2Proof.Machine

/-! Handing a problem over (R158, R159, R195, R196). -/

/-- A field waits for an assembly: 1 estimation, 2 optimisation, 0 nothing. -/
def FieldRun.work (r : FieldRun) : Nat :=
  if r.lane.isNone || r.notAssembled || r.left then 0
  else if r.wantEst && !r.estGo then 1
  else if r.wantOpt && !r.optGo && (!r.wantEst || r.estDone) then 2
  else 0

/-- A field will still be assembled. -/
def FieldRun.pending (r : FieldRun) : Bool :=
  r.lane.isSome && !r.notAssembled && !r.left && ((r.wantEst && !r.estGo) || (r.wantOpt && !r.optGo))

/-- ASM_BUSY of each region: fields of it still to be assembled. -/
def State.showAssembly (s : State) : State :=
  s.each (List.range 8) (fun t r =>
    t.wr (SV_STAT_ASM_BUSY r) (b2n (s.camp.inFlight.any (fun c => c.fields.any (fun f => f.region == r && f.pending)))))

/-- A field that cannot be assembled (R159). -/
def State.assemblyFails (s : State) (r f code : Nat) : State :=
  ((s.assemblyErr r code f).onCampaign (fun c => c.onField f (fun x => { x with notAssembled := true }))).showAssembly

/-- FLAGS of the header: WS_DUALS, WS_PRIOR, RESOLVE. -/
def probFlags (duals prior resolve : Bool) : Nat := b2n duals + 2 * b2n prior + 4 * b2n resolve

/-- A problem copied from staging into a lane's slice, with the header fields of R195; the delivery record stays. -/
def State.copyProblem (s : State) (n : Nat) (slice : List Byte) (kind stages flags f : Nat) : State :=
  let base := sliceBase n
  let s1 := (s.putWhole base (slice.take 0x80)).putWhole (base + 0x100) ((slice.drop 0x100).take (sliceLen - 0x100))
  s1.putBytes base (leBytes 4 0x54494C4C ++ leBytes 1 (if kind = 0 then 1 else 0) ++ leBytes 1 stages ++ leBytes 2 flags ++
    leBytes 1 f ++ leBytes 1 kind ++ leBytes 2 (s.reg CMN_NUM).toNat ++ leBytes 1 0 ++ leBytes 1 40)

/-- The warm start of a field written into its slice: the store shifted one stage (R196). -/
def State.warmStart (s : State) (n : Nat) (st : Stored) : State :=
  let v := s.slice_ n
  s.each (List.range v.stages) (fun t j =>
    match st.stages[min (j + 1) (st.stages.length - 1)]? with
    | none => t
    | some q =>
      let a := v.dir j 0x10 4
      if q.n = v.nVar j ∧ q.m = v.nEq j ∧ q.p = v.nIneq j then t.putWhole (sliceBase n + a) q.data
      else if q.n = v.nVar j then t.putBytes (sliceBase n + a) (q.data.take (8 * q.n))
      else t)

/-- The estimation problem of a field is handed over, or cannot be. -/
def State.handEstimation (s : State) (c : Campaign) (x : FieldRun) (n : Nat) : State :=
  let b := s.atlas c.bank
  let a := s.estProblem c x
  if !a.capacity 1 s then s.assemblyFails x.region x.field E_CAPACITY
  else if !b.paired x.field then s.assemblyFails x.region x.field E_PAIRING
  else
    let prior := (s.priorEst x).isSome
    let used := (b.measured x.field).filter (s.passes x.region x.field)
    let s1 := s.bump (SV_CNT_EXCL_COUNT x.region) ((b.measured x.field).length - used.length)
    let s2 := s1.copyProblem n (a.bytes 1) 0 a.stages.length (probFlags false prior false) x.field
    ((s2.onCampaign (fun c => c.onField x.field (fun y =>
      { y with estGo := true, estVars := b.estVars x.field (s.openPipes b x.field), estPoints := a.points }))).postGo
      (mSurveyor x.region) n).showAssembly

/-- The optimisation problem of a field is handed over, or cannot be. -/
def State.handOptimisation (s : State) (c : Campaign) (x : FieldRun) (n : Nat) : State :=
  let b := s.atlas c.bank
  let stages := b.u 6 x.field 0x10 1
  let st := if x.cold then none else s.camp.store.find? (fun e => e.field == x.field && e.stages.length == stages)
  let (a, dropped, fixed) := s.optProblem c x st
  if !a.capacity 0 s then s.assemblyFails x.region x.field E_CAPACITY
  else if !b.paired x.field then s.assemblyFails x.region x.field E_PAIRING
  else
    let s1 := (s.bump (SV_CNT_SCREEN_COUNT x.region) dropped).bump (SV_CNT_WIN_COUNT x.region) fixed
    let s2 := s1.copyProblem n (a.bytes 0) 1 stages (probFlags st.isSome st.isSome false) x.field
    let s3 := match st with
      | some e => s2.warmStart n e
      | none => s2
    ((s3.onCampaign (fun c => c.onField x.field (fun y =>
      { y with optGo := true, waiting := true, optVars := s.optVars b x.field }))).postGo (mSurveyor x.region) n).showAssembly

/-- PROBLEM_ASSEMBLED (R159): the surveyor's next problem, which is that of `field`, is assembled and handed over. -/
def execProblemAssembled (region : Fin 8) (field : Fin 256) (s : State) : Out :=
  let r := region.val
  .next (
    match s.camp.inFlight with
    | none => s
    | some c =>
      if s.survey.snapDue.contains r || s.svRestarting r || s.survey.advances.any (fun a => a.region == r) then s
      else
        match (c.fields.filter (fun x => x.region == r)).find? (fun x => x.work != 0) with
        | none => s
        | some x =>
          if x.field ≠ field.val then s
          else
            match x.lane with
            | none => s
            | some n => if x.work = 1 then s.handEstimation c x n else s.handOptimisation c x n)

/-! Restart of a surveyor (R138). -/

/-- A surveyor is restarted: its semaphores are released, its unfinished work is dropped, the fields of which no problem has
been handed to a lane go to fallback, and F1 is recorded. Furrows that wait for its advance are seeded again. -/
def State.restartSurveyor (s : State) (r : Nat) : State :=
  let s0 := s.reseed r
  let s1 := (s0.semAbandon (mSurveyor r)).recordFault 1 bSurveyor 0 r
  let s2 := s1.setSurvey { s1.survey with
    advances := s1.survey.advances.filter (fun a => a.region != r),
    snapDue := s1.survey.snapDue.filter (fun x => x != r),
    restarting := (r, s.now + 20 * cycPerUs) :: s1.survey.restarting.filter (fun x => x.1 != r) }
  let s3 := s2.onCampaign (fun c => { c with fields := c.fields.map (fun f =>
    if f.region = r && f.pending && !f.estGo && !f.optGo then { f with notAssembled := true } else f) })
  ((s3.wr (SV_STAT_ADV_BUSY r) 0).wr (SV_STAT_SNAP_BUSY r) 0).showAssembly

/-- SURVEYOR_RESTART_COMPLETE (R138): the surveyor resumes with the next work due. -/
def execSurveyorRestartComplete (region : Fin 8) (s : State) : Out :=
  .next (s.setSurvey { s.survey with restarting := s.survey.restarting.filter (fun x => x.1 != region.val) })

end Sys2Proof.Machine
end

