-- ==== Sys2Proof/Machine/Campaign.lean ====
section
/-! DEFINITION. Deliveries as the campaign takes them, coordination, deadline and publication (R154, R161, R182 to R184,
R196 to R206). -/

namespace Sys2Proof.Machine


/-! Deliveries (R182, R159, R161). -/

/-- Statuses that are successes (R182). -/
def isSuccess (st : Nat) : Bool := st == stOptimal || st == stAcceptable

/-- Statuses with which a participant leaves its group (R201). -/
def leaves (st : Nat) : Bool :=
  st == stInfeasible || st == stNumeric || st == stAborted || st == stFormat || st == stFault

/-- X[k] of stage j of a slice, as binary64 bits. -/
def Sec.xOf (v : Sec) (j k : Nat) : Nat := v.u (v.dir j 0x10 4 + 8 * k) 8

/-- The estimate that a slice holds for the variables of its stages. -/
def Sec.estimate (v : Sec) (f : Nat) (vars : List (List EstVar)) : Estimate :=
  let all := vars.zipIdx.flatMap (fun l => l.1.zipIdx.map (fun x => (x.1, v.xOf l.2 x.2)))
  let pick (g : EstVar → Option Nat) : List (Nat × Nat) := all.filterMap (fun x => (g x.1).map (fun i => (i, x.2)))
  { field := f,
    press := pick (fun x => match x with | .p n => some n | _ => none),
    temp := pick (fun x => match x with | .t n => some n | _ => none),
    inj := pick (fun x => match x with | .w n => some n | _ => none),
    flow := pick (fun x => match x with | .q p => some p | _ => none) }

/-- The normalised residuals of a slice, stage after stage, as binary32 bits (R170). -/
def Sec.residuals (v : Sec) : List Nat :=
  (List.range v.stages).flatMap (fun j =>
    let a := v.dir j 0x10 4 + 8 * (2 * v.nVar j + v.nEq j + v.nIneq j)
    (List.range (v.nMeas j)).map (fun i => v.u (a + 4 * i) 4))

/-- The largest residual in absolute value, with its point. -/
def worstResidual (rs : List Nat) (points : List Nat) : Option (Nat × Nat) :=
  (rs.zip points).foldl (fun best x =>
    match best with
    | none => some (x.2, x.1)
    | some b => if rabs (r32 b.2) < rabs (r32 x.1) then some (x.2, x.1) else some b) none

/-- The residual test of R161: the point is recorded with index and residual, and quarantined for QUAR launches. -/
def State.residualTest (s : State) (r : Nat) (rs points : List Nat) : State :=
  match worstResidual rs points with
  | none => s
  | some (code, res) =>
    if rabs (r32 res) ≤ 4 then s
    else
      let s1 := s.event bSurveyor 0 (code * 2 ^ 32 + res)
      let q := s.rd (SV_CFG0_QUAR r)
      if q = 0 then s1
      else
        (s1.setSurvey { s1.survey with
          quar := (code, r, s1.camp.launched + 1, s1.camp.launched + q) :: s1.survey.quar.filter (fun x => x.1 != code) }).showQuar

/-- An estimation delivery of a field of the campaign (R146, R156, R159). -/
def State.estDelivered (s : State) (x : FieldRun) (n st : Nat) : State :=
  let v := s.slice_ n
  let ok := isSuccess st
  let s1 := s.onCampaign (fun c => c.onField x.field (fun y =>
    { y with estDone := true, estStatus := st, estFallback := !ok && y.wantOpt, left := y.left || st == stFault }))
  let s2 :=
    if ok then
      let e := v.estimate x.field x.estVars
      (s1.setSurvey { s1.survey with ests := e :: s1.survey.ests.filter (fun y => y.field != x.field) }).residualTest
        x.region v.residuals x.estPoints
    else if x.wantOpt then s1.event bSurveyor 0 x.field
    else s1
  s2.showAssembly

/-- An optimisation delivery of a field of the campaign (R199, R201, R202). -/
def State.optDelivered (s : State) (x : FieldRun) (n st iter group : Nat) (valid resolve : Bool) : State :=
  let v := s.slice_ n
  let k : Kept := ⟨v.u 0xC 1, st, valid, resolve, iter, group, v.u 0x90 8,
    s.bytes (sliceBase n) (min sliceLen (v.u 0x2C 4 + v.u 0x30 4))⟩
  s.onCampaign (fun c => c.onField x.field (fun y =>
    { y with waiting := false, last := some k, left := y.left || leaves st }))

/-- LANE_DELIVERY_COMPLETE (R183): the lane's outcome is written, and the campaign takes it. -/
def execLaneDeliveryComplete (lane : Fin 256) (s : State) : Out :=
  let n := lane.val
  .next (
    match s.laneRun? n with
    | none => s
    | some r =>
      match r.decided with
      | none => s
      | some st =>
        let s1 := s.laneDelivered r st
        match s.camp.inFlight.bind (fun c => c.fields.find? (fun x => x.lane == some n)) with
        | none => s1
        | some x =>
          if s.rd (LANE_JOB_PROBLEM n) = 0 then
            (if x.estGo && !x.estDone then s1.estDelivered x n st else s1)
          else if x.optGo && x.waiting then
            s1.optDelivered x n st r.k (s1.rd (LANE_STAT_GROUP n)) (validOf st r.prob == 1) (probFlag r.prob 2)
          else s1)

/-! Groups (R197, R201). -/

/-- No field that could still join some fields waits for its assembly. -/
def Campaign.settled (c : Campaign) (b : Bank) (fs : List Nat) : Bool :=
  b.crossPipes.all (fun p =>
    let (f, g) := b.pipeFields p
    !(fs.contains f || fs.contains g) ||
      [f, g].all (fun x => c.fields.all (fun r => r.field != x || !(r.wantOpt && r.pending))))

/-- Where variable v of a field stands among its variables. -/
def FieldRun.index (r : FieldRun) (v : OptVar) : Nat := (r.optVars.findIdx? (fun x => x == v)).getD 16

/-- The slice of a field's lane. -/
def State.fieldSlice (s : State) (r : FieldRun) : Sec := s.slice_ (r.lane.getD 0)

/-- The offset of H[k, k], and of g[k], of stage j in a slice. -/
def Sec.hOff (v : Sec) (j k : Nat) : Nat :=
  v.dir j 8 4 + 8 * (3 * v.nVar j + if v.dir j 3 1 = 0 then k else k * (k + 1) / 2 + k)
def Sec.gOff (v : Sec) (j k : Nat) : Nat := v.dir j 8 4 + 8 * (2 * v.nVar j + k)

/-- A coupled pipe as its group starts with it: λ and z at 0, T_fix of round 0, and the assembled H⁰ and g⁰. -/
def State.newCoupled (s : State) (c : Campaign) (p : Nat) : Coupled :=
  let b := s.atlas c.bank
  let (f, g) := b.pipeFields p
  let (up, down) := if c.q0 p < 0 then (g, f) else (f, g)
  let node := if c.q0 p < 0 then b.u 1 p 2 2 else b.u 1 p 0 2
  let n := min (b.u 6 up 0x10 1) (b.u 6 down 0x10 1)
  let at_ (x : Nat) (off : Sec → Nat → Nat → Nat) : List Nat :=
    match c.run? x with
    | none => []
    | some r =>
      let v := s.fieldSlice r
      (List.range n).map (fun j => v.u (off v j (r.index (.flow p))) 8)
  { pipe := p, up := up, down := down, z := List.replicate n 0, tfix := s.arrivals c p n (fun _ => s.tNode b node),
    lamUp := List.replicate n 0, lamDown := List.replicate n 0, h0Up := at_ up Sec.hOff, g0Up := at_ up Sec.gOff,
    h0Down := at_ down Sec.hOff, g0Down := at_ down Sec.gOff, stepped := false, open_ := true }

/-- The group that begins with a field, made when its round 0 is complete. -/
def State.newGroup (s : State) (c : Campaign) (fs : List Nat) : GroupRun :=
  let b := s.atlas c.bank
  { fields := fs, owner := b.u 6 (fs.headD 0) 0 1, round := 0, done := none, converged := false, pri := 0, dual := 0,
    pipes := ((c.coupledPipes b).filter (fun p => fs.contains (b.pipeFields p).1)).map (s.newCoupled c) }

/-- The members of a group that still take part. -/
def Campaign.members (c : Campaign) (g : GroupRun) : List FieldRun :=
  c.fields.filter (fun r => g.fields.contains r.field && !r.left)

/-- Every participant has delivered the round (R199, R201). -/
def Campaign.roundDone (c : Campaign) (g : GroupRun) : Bool := (c.members g).all (fun r => !r.waiting)

/-! The consensus step (R199). -/

/-- What a step finds: pri, dual, dT and max |λ|. -/
structure Residuals where
  pri : Rat
  dual : Rat
  dT : Rat
  lam : Rat
deriving DecidableEq, Repr

/-- One stage of one pipe: z, λ of both copies, and the residuals. -/
def consensusStage (rho wU wD qU qD lU lD zOld : Nat) (later : Bool) (acc : Residuals) : (Nat × Nat × Nat) × Residuals :=
  let z := dDiv (dAdd (dMul wU qU) (dMul wD qD)) (dAdd wU wD)
  let l (lam w q : Nat) : Nat := dAdd lam (dMul (dMul rho w) (dSub q z))
  let gap (q : Nat) : Rat := rabs (r64 (dSub q z))
  let dual := if later then max acc.dual (rabs (r64 (dMul rho (dSub z zOld)))) else acc.dual
  ((z, l lU wU qU, l lD wD qD),
   { acc with
     pri := max acc.pri (max (gap qU) (gap qD)), dual := dual,
     lam := max acc.lam (max (rabs (r64 (l lU wU qU))) (rabs (r64 (l lD wD qD)))) })

/-- One coupled pipe of a step: its new z, λ and T_fix, and the residuals. -/
def State.consensusPipe (s : State) (c : Campaign) (g : GroupRun) (p : Coupled) (acc : Residuals) : Coupled × Residuals :=
  match c.run? p.up, c.run? p.down with
  | some u, some d =>
    if u.left || d.left then
      ({ p with open_ := false },
       { acc with lam := (p.lamUp ++ p.lamDown).foldl (fun m x => max m (rabs (r64 x))) acc.lam })
    else
      let b := s.atlas c.bank
      let w (f : Nat) : Nat := f32to64 (b.u 6 f 0x14 4)
      let x (r : FieldRun) (j : Nat) (v : OptVar) : Nat := (s.fieldSlice r).xOf j (r.index v)
      let later := decide (1 ≤ g.round)
      let r := (List.range p.z.length).foldl (fun (st : List (Nat × Nat × Nat) × Residuals) j =>
        let o := consensusStage (f32to64 c.rho) (w p.up) (w p.down) (x u j (.flow p.pipe)) (x d j (.flow p.pipe))
          (p.lamUp.getD j 0) (p.lamDown.getD j 0) (p.z.getD j 0) later st.2
        (st.1 ++ [o.1], o.2)) ([], acc)
      let tnew := s.arrivals c p.pipe p.z.length (fun i => r64 (x u (min i (p.z.length - 1)) (.temp p.pipe)))
      let dT := (tnew.zip p.tfix).foldl (fun m y => max m (rabs (r64 (dSub y.1 y.2)))) r.2.dT
      ({ p with
         z := r.1.map (fun y => y.1), lamUp := r.1.map (fun y => y.2.1), lamDown := r.1.map (fun y => y.2.2),
         tfix := tnew, stepped := true }, { r.2 with dT := dT })
  | _, _ => (p, acc)

/-- A step over a group: the group with its new values, and the residuals. -/
def State.consensus (s : State) (c : Campaign) (g : GroupRun) : GroupRun × Residuals :=
  let r := g.pipes.foldl (fun (st : List Coupled × Residuals) p =>
    let o := if p.open_ then s.consensusPipe c g p st.2
      else (p, { st.2 with lam := (p.lamUp ++ p.lamDown).foldl (fun m x => max m (rabs (r64 x))) st.2.lam })
    (st.1 ++ [o.1], o.2)) ([], ⟨0, 0, 0, 0⟩)
  let conv := decide (1 ≤ g.round) && decide (r.2.pri ≤ mkRat c.epsQ 1000) &&
    decide (r.2.dual ≤ tenTo c.epsDual * max 1 r.2.lam) && decide (r.2.dT ≤ mkRat c.epsT 100)
  ({ g with pipes := r.1, done := some g.round, converged := conv, pri := f32 r.2.pri, dual := f32 r.2.dual }, r.2)

/-! The next round (R200, R201). -/

/-- The words that a participant's copy of a coupled pipe takes in its slice for a round. -/
def State.prepareCopy (s : State) (c : Campaign) (r : FieldRun) (p : Coupled) : State :=
  let n := r.lane.getD 0
  let base := sliceBase n
  let isUp := p.up == r.field
  let kf := r.index (.flow p.pipe)
  let kt := r.index (.temp p.pipe)
  let w := f32to64 ((s.atlas c.bank).u 6 r.field 0x14 4)
  let lam := if isUp then p.lamUp else p.lamDown
  let h0 := if isUp then p.h0Up else p.h0Down
  let g0 := if isUp then p.g0Up else p.g0Down
  let rw := dMul (f32to64 c.rho) w
  s.each (List.range p.z.length) (fun t j =>
    let v := s.slice_ n
    let d := v.dir j 8 4
    let nv := v.nVar j
    let fix (u : State) (k val : Nat) : State := (u.st (base + d + 8 * k) 8 val).st (base + d + 8 * (nv + k)) 8 val
    let t1 :=
      if p.open_ then
        (t.st (base + v.hOff j kf) 8 (dAdd (h0.getD j 0) rw)).st (base + v.gOff j kf) 8
          (dSub (dAdd (g0.getD j 0) (lam.getD j 0)) (dMul rw (p.z.getD j 0)))
      else fix t kf (if p.stepped then p.z.getD j 0 else (c.basis.lookup p.pipe).getD 0)
    if p.open_ && isUp then t1 else fix t1 kt (p.tfix.getD j 0))

/-- A participant's slice prepared for the next round, and its GO posted. -/
def State.nextRound (s : State) (c : Campaign) (g : GroupRun) (r : FieldRun) : State :=
  let n := r.lane.getD 0
  let base := sliceBase n
  let s1 := s.each (g.pipes.filter (fun p => p.up == r.field || p.down == r.field)) (fun t p => t.prepareCopy c r p)
  let s2 := ((s1.st (base + 0xC) 1 (g.round + 1)).st (base + 6) 2 (probFlags true true true)).st (base + 0xD) 1 c.iterResolve
  (s2.postGo (mSurveyor (n / 32)) n).onCampaign (fun x => x.onField r.field (fun y => { y with waiting := true }))

/-- The highest round begun, of the campaign and of a region's groups. -/
def State.showRound (s : State) (owner round : Nat) : State :=
  let s1 := s.wr CMN_STAT_ROUND (max (s.rd CMN_STAT_ROUND) round)
  s1.wr (RG_STAT_ROUND owner) (max (s.rd (RG_STAT_ROUND owner)) round)

/-- The largest of some values that are not negative, as binary32 bits. -/
def largest32 (xs : List Nat) : Nat := xs.foldl (fun m x => if r32 m < r32 x then x else m) 0

/-- A complete round's consensus, and the next round where one is run. -/
def State.consensusStep (s : State) (c : Campaign) (g : GroupRun) : State :=
  let (g1, _) := s.consensus c g
  let more := !g1.converged && decide (g.round < c.roundsMax)
  let g2 := if more then { g1 with round := g.round + 1 } else g1
  let s1 := s.onCampaign (fun x => { x with
    groups := g2 :: x.groups.filter (fun y => y.fields != g.fields),
    fields := x.fields.map (fun r => if g.fields.contains r.field && !r.left then { r with kept := r.last } else r) })
  let own := g1 :: c.groups.filter (fun y => y.fields != g.fields && y.owner == g.owner && y.done.isSome)
  let s2 := (s1.setReg (RG_PRI g.owner) (BitVec.ofNat 32 (largest32 (own.map GroupRun.pri)))).setReg (RG_DUAL g.owner)
    (BitVec.ofNat 32 (largest32 (own.map GroupRun.dual)))
  if more then (s2.showRound g.owner (g.round + 1)).each (c.members g) (fun t r => t.nextRound c g1 r) else s2

/-- The group of a field of a campaign: the one in progress, or a new one whose round 0 is under way. -/
def State.groupFor (s : State) (c : Campaign) (f : Nat) : Option GroupRun :=
  match c.groups.find? (fun g => g.fields.headD 256 == f) with
  | some g => some g
  | none =>
    let b := s.atlas c.bank
    let fs := c.groupOf b f
    if fs.headD 256 = f && decide (2 ≤ fs.length) && c.settled b fs && s.rd (RG_CTL_COORD_EN (b.u 6 f 0 1)) == 1 then
      some (s.newGroup c fs)
    else none

/-- CONSENSUS_STEP (R199, R200): every participant of the group that begins with field `first` has delivered its round. -/
def execConsensusStep (first : Fin 256) (s : State) : Out :=
  .next (
    match s.camp.inFlight with
    | none => s
    | some c =>
      match s.groupFor c first.val with
      | none => s
      | some g =>
        if g.converged || g.done == some g.round || !c.roundDone g || c.raised then s else s.consensusStep c g)

/-! Completion and deadline (R26, R184, R202). -/

/-- A field has had its final delivery but for its group's rounds. -/
def FieldRun.final (r : FieldRun) : Bool :=
  r.lane.isNone || r.notAssembled || r.left || ((!r.wantEst || r.estDone) && (!r.wantOpt || (r.optGo && !r.waiting)))

/-- A field's group has ended, or it has none (R200: none where its owner does not coordinate). -/
def State.groupEnded (s : State) (c : Campaign) (r : FieldRun) : Bool :=
  match c.groups.find? (fun g => g.fields.contains r.field) with
  | some g => g.converged || g.done == some g.round
  | none =>
    let b := s.atlas c.bank
    let fs := c.groupOf b r.field
    !r.handed || decide (fs.length < 2) || s.rd (RG_CTL_COORD_EN (b.u 6 (fs.headD 0) 0 1)) == 0

/-- The campaign is complete (R202). -/
def State.campaignComplete (s : State) (c : Campaign) : Bool :=
  c.fields.all (fun r => r.final) && c.fields.all (s.groupEnded c)

/-- What the campaign is at the edge that begins a headland (R26). -/
def State.markReady (s : State) : State := s.onCampaign (fun c => { c with ready := s.campaignComplete c })

/-- Rounds that are complete when the deadline reaches the lanes are kept (R201, R202). -/
def Campaign.closeRounds (c : Campaign) : Campaign :=
  let full := c.groups.filter (fun g => c.roundDone g && g.done != some g.round)
  { c with
    groups := c.groups.map (fun g => if full.contains g then { g with done := some g.round } else g),
    fields := c.fields.map (fun r =>
      if full.any (fun g => g.fields.contains r.field) && !r.left then { r with kept := r.last } else r) }

/-- CAMPAIGN_DEADLINE (R184): at the headland of pass k + D − 1 the deadline reaches every lane. -/
def execCampaignDeadline (s : State) : Out :=
  .next (
    match s.camp.inFlight with
    | none => s
    | some c =>
      if s.rd PASS_PHASE_PHASE ≠ phHeadland ∨ s.passCount + 1 < c.launchPass + c.deadline ∨ c.raised ∨ c.ready then s
      else (s.onCampaign (fun c => { c.closeRounds with raised := true, hit := true })).lanesDeadline)

/-! Publication (R203 to R206). -/

/-- SOURCE of R205. -/
def srcInitial : Nat := 0
def srcSolved : Nat := 1
def srcUnconverged : Nat := 2
def srcShifted : Nat := 3
def srcFallback : Nat := 4
def srcHeld : Nat := 5

/-- Bytes of the set-point table. -/
def tableLen : Nat := 288064

/-- Where an SDRAM buffer of the table lies (R206). -/
def tableBase (buf : Nat) : Nat := sd (if buf = 0 then 0x2400000 else 0x2480000)

/-- The offset of an entry: 1 pump, 2 valve, 3 plant output, 4 plant supply temperature, 5 store flow, 6 substation. -/
def entryOff (kind i : Nat) : Nat :=
  (match kind with
   | 1 => 0x1040
   | 2 => 0x2040
   | 3 => 0x6040
   | 4 => 0x6240
   | 5 => 0x6440
   | _ => 0x6540) + 16 * i

/-- The source of a field's values, and the delivery they are taken from (R203). -/
def State.sourceOf (s : State) (c : Campaign) (f : Nat) : Nat × Option Kept :=
  match c.run? f with
  | none => (srcFallback, none)
  | some r =>
    if !r.wantOpt || r.lane.isNone || !r.optGo then (srcFallback, none)
    else
      match r.last with
      | none => (srcFallback, none)
      | some d =>
        let g := c.groups.find? (fun g => g.fields.contains f)
        let cut : Bool := match g with
          | some g => g.done != some g.round && g.done.isSome && r.kept.any (fun k => g.done == some k.round)
          | none => false
        let agreed : Bool := match g with
          | some g => g.converged
          | none => decide ((c.groupOf (s.atlas c.bank) f).length < 2)
        if d.status = stInfeasible ∨ d.status = stFormat ∨ d.status = stFault ∨ !d.valid then (srcFallback, none)
        else if cut then (srcUnconverged, r.kept)
        else if d.status = stStale then (srcShifted, some d)
        else if d.status = stNumeric ∨ d.status = stAborted ∨ (d.status = stDeadline ∧ d.iter = 0) then
          (if d.resolve then srcUnconverged else srcShifted, some d)
        else if isSuccess d.status && agreed then (srcSolved, some d)
        else (srcUnconverged, some d)

/-- The slice of a kept delivery. -/
def Kept.sec (k : Kept) (s : State) : Sec := ⟨({ s with mem := [] }).putBytes 0 k.slice, 0, k.slice.length⟩

/-- A variable's value in stage 0 or 1 of a kept delivery, as binary32 bits; stage 1 is stage 0 when S = 1. -/
def Kept.value (k : Kept) (s : State) (r : FieldRun) (v : OptVar) (j : Nat) : Nat :=
  let sec := k.sec s
  (f64to32 (sec.xOf (min j (sec.stages - 1)) (r.index v))).1

/-- An element is in use and in service in the bank in force, or a station is (R114). -/
def State.inService (s : State) (kind i : Nat) : Bool :=
  let b := s.atlasInForce
  match kind with
  | 1 => b.used tPump i && b.flag 2 i 2 0
  | 2 => b.used tValve i && b.flag 3 i 0x19 0
  | 3 => b.used tPlant i && b.flag 4 i 1 0
  | 4 => b.used tPlant i && b.flag 4 i 1 0
  | 5 => b.used tStore i
  | _ => s.gzUsed i && s.gz i 0x20 1 % 8 != 5

/-- DEST_KIND and DEST_REF of an entry (R205). -/
def Bank.dest (b : Bank) (kind i : Nat) : Nat × Nat :=
  match kind with
  | 1 => (b.u 2 i 4 1, b.u 2 i 6 2)
  | 2 => (b.u 3 i 0x18 1, b.u 3 i 0x1A 2)
  | 3 => (b.u 4 i 0x50 1, b.u 4 i 0x52 2)
  | 4 => (b.u 4 i 0x50 1, b.u 4 i 0x52 2)
  | _ => (0xFF, 0xFFFF)

/-- An entry of the table at `base` that keeps its value (SOURCE HELD). -/
def State.holdEntry (s : State) (b : Bank) (base kind i f : Nat) : State :=
  let a := base + entryOff kind i
  let (dk, dr) := b.dest kind i
  (((s.st (a + 0xA) 1 srcHeld).st (a + 0xB) 1 f).st (a + 0xC) 1 dk).st (a + 0xE) 2 dr

/-- An entry written with a source; one whose element is deleted or out of service is withheld with F0 (R114). -/
def State.putEntry (s : State) (b : Bank) (base kind i f src value next : Nat) : State :=
  let a := base + entryOff kind i
  if !s.inService kind i then (s.holdEntry b base kind i f).recordFault 0 bTiller 0 i
  else
    let (dk, dr) := b.dest kind i
    s.putWhole a (leBytes 4 value ++ leBytes 4 next ++ leBytes 2 (s.reg CMN_NUM).toNat ++ leBytes 1 src ++ leBytes 1 f ++
      leBytes 1 dk ++ leBytes 1 0 ++ leBytes 2 dr)

/-- The elements of a field that have an entry: kind and index. -/
def Bank.entries (b : Bank) (f : Nat) : List (Nat × Nat) :=
  (b.ofField tPump f).map (fun i => (1, i)) ++
  ((b.ofField tValve f).filter (fun i => b.u 3 i 2 1 == 1)).map (fun i => (2, i)) ++
  (b.ofField tPlant f).flatMap (fun i => [(3, i), (4, i)]) ++ (b.ofField tStore f).map (fun i => (5, i)) ++
  (b.stations f).map (fun n => (6, b.u 0 n 4 2))

/-- The fallback entries of a field: kind, index, value (R124). -/
def Bank.fallbacks (b : Bank) (f : Nat) : List (Nat × Nat × Nat) :=
  ((List.range 32).map (fun e => (b.u 7 f (8 * e) 1, b.u 7 f (8 * e + 2) 2, b.u 7 f (8 * e + 4) 4))).filter
    (fun x => x.1 != 0)

/-- The planned temperature of a node in a stage from published values (R154, R204), found back along the pipes. -/
def State.plannedTemp (s : State) (c : Campaign) (r : FieldRun) (k : Kept) : Nat → Nat → Nat → Rat
  | 0, n, _ => s.tNode (s.atlas c.bank) n
  | fuel + 1, n, j =>
    let b := s.atlas c.bank
    let sec := k.sec s
    let x (v : OptVar) (i : Nat) : Rat := r64 (sec.xOf (min i (sec.stages - 1)) (r.index v))
    let att := b.u 0 n 6 2
    if b.u 0 n 0 1 = 3 ∧ b.u 4 att 2 2 = n ∧ r.optVars.contains (.plantT att) then x (.plantT att) j
    else
      let pipes := b.livePipes r.field
      let ins := pipes.filter (fun p => c.q0 p != 0 && b.outletNode p (c.q0 p) == n)
      if ins.isEmpty then s.tNode b n
      else
        weightedMean ((b.injected (s.basisPoint c r.field) pipes n, s.tNode b n) :: ins.map (fun p =>
          (rabs (c.q0 p),
           if b.flag 1 p 5 1 then x (.temp p) j
           else b.arrival p (s.profile p) (s.pipeMass p) (c.q0 p) c.dh
             (fun i => State.plannedTemp s c r k fuel (b.inletNode p (c.q0 p)) i) j)))

/-- The value of an entry in a stage, where the field's solution decides it. -/
def State.entryValue (s : State) (c : Campaign) (r : FieldRun) (k : Kept) (kind i j : Nat) : Option Nat :=
  let b := s.atlas c.bank
  let v (x : OptVar) : Option Nat := if r.optVars.contains x then some (k.value s r x j) else none
  match kind with
  | 1 => if b.u 2 i 3 1 = 0xFF then v (.pump i) else v (.group (b.u 2 i 3 1))
  | 2 => v (.valve i)
  | 3 => some ((v (.plantP i)).getD 0)
  | 4 => v (.plantT i)
  | 5 => v (.storeM i)
  | _ =>
    ((b.stations r.field).find? (fun n => b.u 0 n 4 2 == i)).map (fun n =>
      f32 (s.plannedTemp c r k (b.nodesOf r.field).length n j))

/-- The field status record (R205). -/
def State.putStatus (s : State) (base f : Nat) (r? : Option FieldRun) (src : Nat) (k? : Option Kept) (conv : Bool) : State :=
  let lane := ((r?.bind (fun r => r.lane)).getD 0xFFFF)
  let g (h : FieldRun → Nat) : Nat := (r?.map h).getD 0
  let last := r?.bind (fun r => r.last)
  let kv (h : Kept → Nat) : Nat := (k?.map h).getD 0
  let flags := b2n conv + 2 * g (fun r => b2n r.estFallback) + 4 * g (fun r => b2n r.lane.isNone) +
    8 * g (fun r => b2n r.notAssembled)
  s.putWhole (base + 0x40 + 16 * f) (leBytes 1 src ++ leBytes 1 (g (fun r => r.estStatus)) ++
    leBytes 1 ((last.map (fun d => d.status)).getD 0) ++ leBytes 1 (kv (fun k => k.round)) ++ leBytes 1 (kv (fun k => k.iter)) ++
    leBytes 1 ((last.map (fun d => d.group)).getD 0) ++ leBytes 2 lane ++ leBytes 4 (f64to32 (kv (fun k => k.obj))).1 ++
    leBytes 4 flags)

/-- The values of one active field published into the table at `base` (R203). -/
def State.publishField (s : State) (c : Campaign) (base f : Nat) : State :=
  let b := s.atlas c.bank
  let (src, k?) := s.sourceOf c f
  let r? := c.run? f
  let s1 :=
    match k?, r? with
    | some k, some r =>
      s.each (b.entries f) (fun t e =>
        match s.entryValue c r k e.1 e.2 0, s.entryValue c r k e.1 e.2 1 with
        | some v, some n => t.putEntry b base e.1 e.2 f src v n
        | _, _ => t.holdEntry b base e.1 e.2 f)
    | _, _ =>
      let fb := b.fallbacks f
      let s2 := s.each ((b.entries f).filter (fun (e : Nat × Nat) => !fb.any (fun x => x.1 == e.1 && x.2.1 == e.2))) (fun t e =>
        t.holdEntry b base e.1 e.2 f)
      s2.each fb (fun t x => t.putEntry b base x.1 x.2.1 f srcFallback x.2.2 x.2.2)
  s1.putStatus base f r? src k? (src == srcSolved)

/-- The solution store after publication (R196). -/
def State.storeField (s : State) (c : Campaign) (f : Nat) : State :=
  let rest := s.camp.store.filter (fun e => e.field != f)
  match s.sourceOf c f with
  | (_, some k) =>
    let v := k.sec s
    let st : Stored := ⟨f, (List.range v.stages).map (fun j =>
      ⟨v.nVar j, v.nEq j, v.nIneq j, v.s.bytes (v.dir j 0x10 4) (8 * (2 * v.nVar j + v.nEq j + v.nIneq j))⟩)⟩
    s.setCamp { s.camp with store := st :: rest }
  | _ => s.setCamp { s.camp with store := rest }

/-- q̂ and the snapshot's draw are taken from the estimates that the campaign delivered with success (R146). -/
def State.takeEstimates (s : State) (c : Campaign) : State :=
  let b := s.atlas c.bank
  s.each (c.fields.filter (fun r => r.estDone && isSuccess r.estStatus)) (fun t r =>
    match t.survey.ests.find? (fun e => e.field == r.field) with
    | none => t
    | some e =>
      let own := e.flow.filter (fun x => b.u 1 x.1 6 1 == r.field)
      t.setSurvey { t.survey with
        qhat := own ++ t.survey.qhat.filter (fun x => !own.any (fun y => y.1 == x.1)),
        dEst := (r.field, (t.survey.dSnap.lookup r.field).getD 0) :: t.survey.dEst.filter (fun x => x.1 != r.field) })

/-- The header of the table (R204). -/
def State.putTableHeader (s : State) (c : Campaign) (base : Nat) (all : Bool) : State :=
  s.putWhole base (leBytes 4 0x53505442 ++ leBytes 4 (s.reg CMN_NUM).toNat ++ leBytes 4 c.launchPass ++
    leBytes 4 s.passCount ++ leBytes 4 c.gen ++ leBytes 4 (b2n c.hit + 2 * b2n all) ++ leBytes 8 c.launchTime ++ leBytes 32 0)

/-- The table in an SDRAM buffer copied into both input images (R206). -/
def State.showTable (s : State) (buf : Nat) : State :=
  (s.copyMem (tableBase buf) (aImage + 0x190000) tableLen).copyMem (tableBase buf) (aImage + 0x590000) tableLen

/-- Every coordination group of a campaign has converged (R204, R208): a group that had no consensus step has not. -/
def Campaign.allConverged (c : Campaign) (b : Bank) : Bool :=
  ((c.coupledPipes b).map (fun p => (b.pipeFields p).1)).all (fun f =>
    c.groups.any (fun g => g.fields.contains f && g.converged))

/-- A campaign published (R26, R203 to R206). -/
def State.publish (s : State) (c : Campaign) : State :=
  let b := s.atlas c.bank
  let old := s.rd CMN_STAT_BUF
  let new := 1 - old
  let active := (b.all tField).filter (fun f => b.flag 6 f 1 0)
  let all := c.allConverged b
  let s1 := (s.copyMem (tableBase old) (tableBase new) tableLen).each active (fun t f => t.publishField c (tableBase new) f)
  let s2 := ((s1.putTableHeader c (tableBase new) all).showTable new).each active (fun t f => t.storeField c f)
  let s3 := s2.takeEstimates c
  let solved := (active.filter (fun f => (s.sourceOf c f).1 == srcSolved)).length
  let s4 := ((((s3.wr CMN_STAT_BUF new).wr CMN_STAT_IN_FLIGHT 0).wr CMN_STAT_SOLVED solved).wr CMN_STAT_CONVERGED
    (b2n all)).wr CMN_STAT_DEADLINE_HIT (b2n c.hit)
  let s5 := (if c.hit then s4.bump CMN_CNT_DEADLINE 1 else s4).wr ATLAS_STAT_PINNED 3
  let s6 := s5.setCamp { s5.camp with inFlight := none }
  ((s6.setSurvey { s6.survey with snapDue := [] }).each (List.range 8) (fun t r =>
    if s.survey.snapDue.contains r then t.wr (SV_STAT_SNAP_BUSY r) 0 else t)).showAssembly

/-- Every lane of a campaign has delivered. -/
def State.lanesQuiet (s : State) (c : Campaign) : Bool :=
  c.fields.all (fun r => match r.lane with
    | some n => (s.laneRun? n).isNone
    | none => true)

/-- CAMPAIGN_PUBLISH (R203): at the first headland begun after completion, or at the deadline headland once every lane has
delivered, the publication is prepared; it takes effect on the edge that ends the headland (R24). -/
def execCampaignPublish (s : State) : Out :=
  .next (
    match s.camp.inFlight with
    | none => s
    | some c =>
      if s.rd PASS_PHASE_PHASE = phHeadland && (c.ready || (c.raised && s.lanesQuiet c)) then
        s.setCamp { s.camp with publishing := true }
      else s)

/-! Sowing (R207). -/

/-- The checks of an INITIAL_SETPOINTS section, in their order. -/
def Sec.setpointsCheck (v : Sec) (bank : Nat) : Option Nat :=
  let b := v.s.atlas bank
  let n := v.len / 8
  let kind (k : Nat) : Nat := v.u (8 * k) 1
  let idx (k : Nat) : Nat := v.u (8 * k + 2) 2
  let named (k : Nat) : Bool :=
    if kind k = 6 then v.s.gzUsed (idx k) && v.s.gz (idx k) 0x1A 1 == 0 else b.used (kindTable (kind k)) (idx k)
  firstFail (
    [(decide (v.len % 8 = 0) && decide (n ≤ 17744), E_RANGE)] ++
    (List.range n).map (fun k => (decide (1 ≤ kind k) && decide (kind k ≤ 6) && v.zero (8 * k + 1) 1 && named k &&
      b.limitsOk (kind k) (idx k) (v.u (8 * k + 4) 4), E_RANGE)) ++
    [(noRepeat ((List.range n).map (fun k => kind k * 65536 + idx k)), E_CONFLICT)])

/-- The table at sowing (R207): listed entries, then fallback entries, all others 0 with SOURCE NONE; CAMPAIGN 0. -/
def State.sowTable (s : State) (bank : Nat) (list : List (Nat × Nat × Nat)) : State :=
  let b := s.atlas bank
  let base := tableBase 0
  let kinds : List (Nat × Nat) := [(1, 256), (2, 1024), (3, 32), (4, 32), (5, 16), (6, 16384)]
  let fieldOf (k i : Nat) : Nat :=
    if k = 6 then b.u 0 (s.gz i 0x18 2) 2 1 else b.fieldOf (kindTable k) i
  let put (t : State) (x : Nat × Nat × Nat) : State :=
    let (dk, dr) := b.dest x.1 x.2.1
    t.putBytes (base + entryOff x.1 x.2.1) (leBytes 4 x.2.2 ++ leBytes 4 x.2.2 ++ leBytes 2 0 ++ leBytes 1 srcInitial ++
      leBytes 1 (fieldOf x.1 x.2.1) ++ leBytes 1 dk ++ leBytes 1 0 ++ leBytes 2 dr)
  let unnamed : List Byte := leBytes 10 0 ++ [0xFF] ++ leBytes 5 0
  let status : List Byte := leBytes 6 0 ++ leBytes 2 0xFFFF ++ leBytes 8 0
  let s1 := s.fill base (leBytes 4 0x53505442 ++ leBytes 60 0 ++ (List.replicate 256 status).flatten ++
    (List.replicate (sumN (kinds.map (fun k => k.2))) unnamed).flatten)
  let fb := (b.all tField).flatMap b.fallbacks
  let s3 := (s1.each (fb.filter (fun x => !list.any (fun y => y.1 == x.1 && y.2.1 == x.2.1))) put).each list put
  (s3.showTable 0).wr CMN_STAT_BUF 0

/-- The profile factors all 1.0 (R193). -/
def State.resetProfiles (s : State) : State :=
  s.fill (sd 0x2500000) ((List.replicate 16384 (leBytes 4 0x3F800000)).flatten)

end Sys2Proof.Machine
end

