-- ==== Sys2Proof/Machine/Loops.lean ====
section
/-! DEFINITION. The loop engines (R267 to R283): the law, the limiter, sources, samples, start and stop, the held law,
the external set-point port, and the engine blocks of the images. -/

namespace Sys2Proof.Machine

/-- E_SOURCE of the LOOP block (R283). -/
def E_SOURCE : Nat := 0x10
/-- The fault code E_OVERRUN (R278). -/
def E_OVERRUN : Nat := 0x11

/-! States of an engine (R276), and causes of FAULT. -/

def leStopped : Nat := 0
def leRunning : Nat := 1
def leFault : Nat := 2
def causeOverrun : Nat := 1
def causeWatchdog : Nat := 2
def causeFatal : Nat := 3

/-- An F2 recorded, with what it does to authority (R11, R367). -/
def State.unitFault (s : State) (source code info : Nat) : State := (s.recordFault 2 source code info).yieldOnFault

/-- Pending class-A values of the selected registers come into force (R82). -/
def State.landPending (s : State) (sel : Nat → Bool) : State :=
  let s1 := s.each (s.fabric.pendA.filter (fun p => sel p.off)) State.landReg
  { s1 with fabric := { s1.fabric with pendA := s1.fabric.pendA.filter (fun p => !sel p.off) } }

def State.engine (s : State) (n : Nat) : LoopEngine := (s.loops.engines[n]?).getD loopEngine0
def State.setEngine (s : State) (n : Nat) (e : LoopEngine) : State :=
  { s with loops := { s.loops with engines := s.loops.engines.set n e } }

/-- STATE of an engine. -/
def State.leState (s : State) (n : Nat) : Nat := s.rd (LOOP_STAT_STATE n)

/-- The accumulator I in units of 2⁻³¹ (LOOP_INT). -/
def State.acc (s : State) (n : Nat) : Int := toSigned 64 (s.rd64 (LOOP_INT_LO n) (LOOP_INT_HI n))
def State.setAcc (s : State) (n : Nat) (i : Int) : State := s.wr64 (LOOP_INT_LO n) (LOOP_INT_HI n) (ofSigned 64 i)

/-- A Q1.15 field. -/
def State.q15 (s : State) (f : Fld) : Int := toSigned 16 (s.rd f)

/-! Arithmetic (R268, R272). -/

/-- Saturation to Q9.31. -/
def sat40 (i : Int) : Int := clampSigned 40 i

/-- A Q9.31 value rounded to Q1.15, ties to even, and saturated. -/
def rnd15 (i : Int) : Int := clampSigned 16 (fpIntPart (decide (i < 0)) i.natAbs (-16))

/-- A Q1.15 value in units of 2⁻³¹. -/
def q31 (x : Int) : Int := x * 65536

/-- A binary32 value scaled into Q1.15: (v − PV_MIN) × 32,768 / (PV_MAX − PV_MIN), rounded to even and clamped. -/
def scale15 (lo hi v : Nat) : Int :=
  let k := (fpDiv fmt32 (fpOfInt fmt32 32768) (fpSub fmt32 hi lo).1).1
  clampInt 0 32767 (fpToInt fmt32 64 (fpMul fmt32 (fpSub fmt32 v lo).1 k).1).1

/-- The code of an output (R267): u widened to 16 bits, u taken as an unsigned 15-bit value. -/
def wideCode (u : Int) : Nat := let v := (u % 32768).toNat; 2 * v + v / 16384

/-- What a limiter step gives (R274): z, v, RATE_LIMITED, and whether it was a reversal. -/
structure LimStep where
  z : Int
  v : Int
  limited : Bool
  reversal : Bool
deriving DecidableEq, Repr

/-- One step of the limiter (R274). -/
def limiter (rate accel : Nat) (target z v : Int) : LimStep :=
  let d := target - z
  if d = 0 then ⟨z, 0, false, false⟩
  else
    let rev := decide (v ≠ 0) && decide (Int.sign v ≠ Int.sign d)
    let v1 : Int := if rev then 0 else v
    let m1 : Nat := if rate = 0 then d.natAbs else min d.natAbs rate
    let m : Nat := if accel = 0 then m1 else min m1 (min (v1.natAbs + accel) (isqrt (2 * accel * d.natAbs)))
    if m = d.natAbs then ⟨target, 0, false, rev⟩
    else ⟨z + Int.sign d * (m : Int), Int.sign d * (m : Int), true, rev⟩

/-! Sources (R270, R271). -/

/-- binary64 bits as binary32 bits. -/
def to32 (b : Nat) : Nat := (f64to32 b).1

/-- The value of a source as binary32 bits: 0 an ADC channel, 1 an RTD channel, 2 a pulse input, 3 an external word. -/
def State.sourceValue (s : State) (kind ref : Nat) : Nat :=
  match kind with
  | 0 => to32 ((s.adcCh ref).hist.headD 0)
  | 1 => to32 (s.rtdCh ref).temp
  | 2 => to32 (s.pulseIn ref).freq
  | _ => fpOfInt fmt32 ((s.loops.xsp.getD ref 0 : Nat) : Int)

/-- The source reports no fault (R140, R273). -/
def State.sourceOk (s : State) (kind ref : Nat) : Bool :=
  (match kind with
   | 0 => s.rd (MT_ADC_STAT_FAULT ref) == 0
   | 1 => s.rd (MT_RTD_STAT_OPEN ref) == 0 && s.rd (MT_RTD_STAT_SHORT ref) == 0
   | 2 => decide (r64 (s.pulseIn ref).freq < s.pulseLimit ref)
   | _ => s.loops.xspAt.isSome) && !fpIsNan fmt32 (s.sourceValue kind ref)

/-- The stamp of the latest conversion or frame of a source: 0 where there has been none. -/
def State.sourceStamp (s : State) (kind ref : Nat) : Nat :=
  if kind = 1 then (s.rtdCh ref).at_ else if kind = 3 then s.loops.xspFrames else 0

/-- The feedback of a sample due at tick m is present (R270). -/
def State.feedbackPresent (s : State) (n m : Nat) : Bool :=
  let kind := s.rd (LOOP_SRC_PV_KIND n)
  if kind = 0 ∨ kind = 2 then decide (m < s.meter.samples)
  else s.sourceStamp kind (s.rd (LOOP_SRC_PV_REF n)) != 0 &&
    s.sourceStamp kind (s.rd (LOOP_SRC_PV_REF n)) != (s.engine n).stamp

/-- A set-point value taken; a NaN is not, and sets SP_INVALID. -/
def State.takeSp (s : State) (n bits : Nat) : State :=
  if fpIsNan fmt32 bits then s.wr (LOOP_STAT_SP_INVALID n) 1 else s.setEngine n { s.engine n with sp := bits }

/-- The set-point of a table entry (R271): not taken where its SOURCE is NONE. -/
def State.takeTable (s : State) (n : Nat) : State :=
  let a := s.inBase + 0x190000 + entryOff (s.rd (LOOP_SPT_SECTION n) + 1) (s.rd (LOOP_SPT_INDEX n))
  if s.ld (a + 0xA) 1 = 0xFF then s else s.takeSp n (s.ld (a + 4 * s.rd (LOOP_SPT_NEXT_SEL n)) 4)

/-- The set-point of a source that is taken each sample: an external word that is invalid is not taken. -/
def State.takeSampled (s : State) (n : Nat) : State :=
  let k := s.rd (LOOP_SRC_SP_KIND n)
  let ref := s.rd (LOOP_SRC_SP_REF n)
  if k = 0 then s.takeSp n (s.sourceValue 0 ref)
  else if k = 2 then s.takeSp n (s.sourceValue 2 ref)
  else if k = 1 && s.loops.xspAt.isSome then s.takeSp n (s.sourceValue 3 ref)
  else s

/-- The set-points taken at a tick (R271): table entries after a freeze edge, command blocks after a used output edge. -/
def State.takeAtTick (s : State) (n : Nat) : State :=
  let s1 := if s.loops.freezeSeen && s.rd (LOOP_SRC_SP_KIND n) == 3 then s.takeTable n else s
  match s.loops.cmds[n]? with
  | none => s1
  | some c =>
    let s2 := if s1.rd (LOOP_SRC_SP_KIND n) = 4 then s1.takeSp n c.1 else s1
    if s2.rd (LOOP_SRC_FF_SEL n) = 2 then s2.setEngine n { s2.engine n with ff := c.2 } else s2

/-! Starting and stopping (R276, R277, R279). -/

/-- An engine starts (R277): I takes the value that the output is driven at, within the output limits. -/
def State.engineStart (s : State) (n : Nat) : State :=
  let lo := q31 (s.q15 (LOOP_ULIM_U_MIN n))
  let hi := q31 (s.q15 (LOOP_ULIM_U_MAX n))
  let i := if s.rd (LOOP_OUT_OUT_KIND n) = 0 then lo else clampInt lo hi (q31 ((s.drivenCode n / 2 : Nat) : Int))
  let s1 := ((s.setAcc n i).wr (LOOP_STAT_STATE n) leRunning).wr (LOOP_STAT_CONSEC n) 0
  (s1.wr (LOOP_CTL_RUN n) 1).setEngine n { s1.engine n with first := true, due := none }

/-- Class-A values of an engine come into force (R269): at its tick, and when its sampling stops (R82). -/
def State.engineLand (s : State) (n : Nat) : State :=
  s.landPending (fun off => decide (LOOP_CTL n ≤ off) && decide (off < LOOP_CTL n + 0x400))

/-- An engine stops (R276): its output takes its safe value. -/
def State.engineStop (s : State) (n : Nat) : State :=
  let s1 := ((s.wr (LOOP_CTL_RUN n) 0).wr (LOOP_STAT_STATE n) leStopped).engineLand n
  (s1.setEngine n { s1.engine n with due := none }).driveEngine n (s1.safeCode n)

/-- A running engine enters FAULT (R276, R278, R279). -/
def State.engineFault (s : State) (n cause : Nat) : State :=
  if s.leState n ≠ leRunning then s
  else
    let s1 := (((s.wr (LOOP_CTL_RUN n) 0).wr (LOOP_STAT_STATE n) leFault).wr (LOOP_STAT_FAULT_CAUSE n) cause).engineLand n
    (s1.setEngine n { s1.engine n with due := none }).driveEngine n (s1.safeCode n)

/-- Every running engine enters FAULT. -/
def State.enginesFault (s : State) (cause : Nat) : State := s.each (List.range 32) (fun t n => t.engineFault n cause)

/-- An overrun (R278): the sample is abandoned; the eighth in a row is an F2. -/
def State.engineOverrun (s : State) (n cause : Nat) : State :=
  let e := s.engine n
  let c := s.rd (LOOP_STAT_CONSEC n) + 1
  let s1 := ((s.bump (LOOP_OVR_CNT_COUNT n) 1).wr (LOOP_STAT_OVR_CAUSE n) cause).wr (LOOP_STAT_CONSEC n) (min c 8)
  let s2 := s1.setEngine n { e with due := none, overruns := satAdd 32 e.overruns 1 }
  if c = 8 then (s2.unitFault bLoop E_OVERRUN n).engineFault n causeOverrun else s2

/-! The held law (R281). -/

/-- The six coefficients as they stand in the registers. -/
def State.coefs (s : State) (n : Nat) : List Nat :=
  [s.rd (LOOP_KP_COEF n), s.rd (LOOP_KI_COEF n), s.rd (LOOP_KD_COEF n), s.rd (LOOP_KF_COEF n), s.rd (LOOP_KA_COEF n),
    s.rd (LOOP_SHIFT_SHIFT n)]

/-- HOLD_LAW goes from 0 to 1: the copy is taken. -/
def State.holdSet (s : State) (n : Nat) : State :=
  (s.wr (LOOP_CTL_HOLD_LAW n) 1).setEngine n { s.engine n with held := some (s.coefs n), heldCount := 0 }

/-- HOLD_LAW returns to 0. -/
def State.holdClear (s : State) (n : Nat) : State :=
  (s.wr (LOOP_CTL_HOLD_LAW n) 0).setEngine n { s.engine n with held := none, heldCount := 0 }

/-- HOLD_LAW expires before the 17th sample. -/
def State.holdExpire (s : State) (n : Nat) : State :=
  if (s.engine n).held.isSome && decide (16 ≤ (s.engine n).heldCount) then
    ((s.holdClear n).wr (LOOP_STAT_HOLD_EXPIRED n) 1).recordFault 0 bLoop 0 n
  else s

/-- HOLD_LAW_EXPIRY (R281): 16 samples have started with HOLD_LAW set. -/
def execHoldLawExpiry (engine : Fin 32) (s : State) : Out := .next (s.holdExpire engine)

/-! The sample (R267, R270). -/

/-- A target scaled to Q1.15 (R272); where gain and offset give no number the spec states none, and it is free. -/
def State.target (s : State) (n x : Nat) : Int × State :=
  if fpIsNan fmt32 x then (((s.freshVal.toNat % 32768 : Nat) : Int), s.drawn)
  else (scale15 (s.reg (LOOP_PV_MIN n)).toNat (s.reg (LOOP_PV_MAX n)).toNat x, s)

/-- The law of one sample with its feedback as binary32 bits (R267, R268, R275, R277). -/
def State.engineLaw (s : State) (n pv : Nat) : State :=
  let e := s.engine n
  let ks := e.held.getD (s.coefs n)
  let k (i : Nat) : Int := toSigned 16 (ks.getD i 0)
  let rate := (s.reg (LOOP_RATE n)).toNat
  let accel := (s.reg (LOOP_ACCEL n)).toNat
  let onOut := s.rd (LOOP_OUT_LIM_POS n) == 1
  let y := scale15 (s.reg (LOOP_PV_MIN n)).toNat (s.reg (LOOP_PV_MAX n)).toNat pv
  let x := (fpAdd fmt32 (fpMul fmt32 (s.reg (LOOP_SP_GAIN n)).toNat e.sp).1 (s.reg (LOOP_SP_OFFSET n)).toNat).1
  let rt := (s.target n x).1
  let s0 := (s.target n x).2
  let z0 : Int := if e.first then (if onOut then s.acc n else q31 y) else e.z
  let v0 : Int := if e.first then 0 else e.v
  let l1 := limiter rate accel (q31 rt) z0 v0
  let r := if onOut then rt else rnd15 l1.z
  let e0 := r - y
  let ff := s.rd (LOOP_SRC_FF_SEL n)
  let f0 : Int := if ff = 1 then r else if ff = 2 then e.ff else 0
  let e1 := if e.first then e0 else e.e1
  let e2 := if e.first then e0 else e.e2
  let f1 := if e.first then f0 else e.f1
  let d1 := if e.first then 0 else e.d1
  -- products of two Q1.15 values are in units of 2⁻³⁰
  let d : Int := 2 * (k 0 * (e0 - e1) + k 1 * e0 + k 2 * (e0 - 2 * e1 + e2) + k 3 * (f0 - f1) + k 4 * d1)
  let raw := d * 2 ^ (ks.getD 5 0)
  let ds := sat40 raw
  let sum := s.acc n + ds
  let manual := s.rd (LOOP_CTL_MANUAL n) == 1
  let i1 := if manual then q31 (s.q15 (LOOP_MAN_MAN_OUT n)) else sat40 sum
  let i2 := clampInt (q31 (s.q15 (LOOP_ULIM_U_MIN n))) (q31 (s.q15 (LOOP_ULIM_U_MAX n))) i1
  let l2 := limiter rate accel i2 z0 v0
  let l := if onOut then l2 else l1
  let i3 := if onOut then l2.z else i2
  let u := rnd15 i3
  let sat := decide (ds ≠ raw) || (!manual && decide (sat40 sum ≠ sum))
  let s1 := s0.setEngine n { e with
    e1 := e0, e2 := e1, f1 := f0, d1 := rnd15 d, z := l.z, v := l.v, first := false, due := none, vpv := pv, x := x,
    code := wideCode u, time := s.time }
  let s2 := (((s1.setAcc n i3).wr (LOOP_VAL_U n) (ofSigned 16 u)).wr (LOOP_VAL_Y n) (ofSigned 16 y)).wr (LOOP_RVAL_R n)
    (ofSigned 16 r) |>.wr (LOOP_RVAL_RT n) (ofSigned 16 rt)
  let s3 := ((s2.wr (LOOP_STAT_RATE_LIMITED n) (b2n l.limited)).wr (LOOP_STAT_AT_LIMIT n) (b2n (decide (i2 ≠ i1)))).wr
    (LOOP_STAT_CONSEC n) 0
  let s4 := (if sat then s3.wr (LOOP_STAT_SAT n) 1 else s3).bumpWrap (LOOP_SAMPLES_COUNT n) 1
  (if l.reversal then s4.bump (LOOP_REV_CNT_COUNT n) 1 else s4).driveEngine n (wideCode u)

/-- LOOP_SAMPLE (R270): the feedback of the sample that is due is present; an invalid one is an overrun. -/
def execLoopSample (engine : Fin 32) (s : State) : Out :=
  let n := engine.val
  .next (
    match (s.engine n).due with
    | none => s
    | some m =>
      if s.leState n ≠ leRunning || !s.feedbackPresent n m then s
      else
        let kind := s.rd (LOOP_SRC_PV_KIND n)
        let ref := s.rd (LOOP_SRC_PV_REF n)
        let s1 := s.setEngine n { s.engine n with stamp := s.sourceStamp kind ref }
        if !s.sourceOk kind ref then s1.engineOverrun n 2
        else
          let s2 := s1.holdExpire n
          let e := s2.engine n
          let s3 := s2.setEngine n { e with heldCount := e.heldCount + b2n e.held.isSome }
          (s3.takeSampled n).engineLaw n (s.sourceValue kind ref))

/-- Tick m is one of an engine's own grid (R269). -/
def State.onGrid (s : State) (n m : Nat) : Bool := m % s.rd (LOOP_SAMPLE_DIV n) == s.rd (LOOP_SAMPLE_PHASE n)

/-- A running engine at a tick of its own grid (R278): a sample not started is overrun, and the next is due. -/
def State.sampleDue (s : State) (n m : Nat) : State :=
  if s.leState n ≠ leRunning then s
  else
    let s1 := if (s.engine n).due.isSome then s.engineOverrun n 1 else s
    if s1.leState n = leRunning then s1.setEngine n { s1.engine n with due := some m } else s1

/-- An engine at a tick (R269, R271): class-A fields take effect at one of its grid, set-points are taken, and on its grid a
sample falls due. -/
def State.engineTick (s : State) (n m : Nat) : State :=
  if s.onGrid n m then ((s.engineLand n).takeAtTick n).sampleDue n m else s.takeAtTick n

/-- LOOP_TICK (R269): every 150,000 SYS cycles from the end of RESTORE on. -/
def execLoopTick (s : State) : Out :=
  .next (
    match s.loops.nextTick with
    | none => s
    | some t =>
      if s.now < t then s
      else
        let m := s.loops.ticks
        let s1 := s.each (List.range 32) (fun u n => u.engineTick n m)
        { s1 with loops := { s1.loops with nextTick := some (t + 150000), ticks := m + 1, freezeSeen := false, cmds := [] } })

/-- The tick timer and the engines start at the end of RESTORE (R269, R277): an engine with RUN set starts, and one that a
full-retention restart has restored as running resumes. -/
def State.loopsStart (s : State) (resume : List Nat) : State :=
  let s1 : State := { s with loops := { s.loops with nextTick := some s.now, ticks := 0 } }
  s1.each (List.range 32) (fun t n =>
    if resume.contains n then
      ((t.wr (LOOP_CTL_RUN n) 1).wr (LOOP_STAT_STATE n) leRunning).driveEngine n (t.engine n).code
    else if t.rd (LOOP_CTL_RUN n) = 1 then t.engineStart n
    else t)

/-! The external set-point port (R273). -/

/-- XSP_FRAME (R273): words 0 to 7, each most significant bit first, or a broken frame, which is discarded whole. -/
def execXspFrame (frame : Option (BitVec 128)) (s : State) : Out :=
  .next (
    match frame with
    | none => s
    | some f => { s with loops := { s.loops with
        xsp := (List.range 8).map (fun k => f.toNat / 2 ^ (112 - 16 * k) % 65536), xspAt := some s.now,
        xspFrames := s.loops.xspFrames + 1 } })

/-- XSP_WORD_TIMEOUT (R273): no complete frame for 250 µs. -/
def execXspWordTimeout (s : State) : Out :=
  .next (
    match s.loops.xspAt with
    | none => s
    | some t => if t + 250 * cycPerUs ≤ s.now then { s with loops := { s.loops with xspAt := none } } else s)

/-! The image blocks (R282). -/

/-- The state block of an engine. -/
def State.engineBlock (s : State) (n : Nat) : List Byte :=
  let e := s.engine n
  let sx (f : Fld) : Nat := ofSigned 32 (s.q15 f)
  let w0 := s.leState n + 4 * s.rd (LOOP_STAT_RATE_LIMITED n) + 8 * s.rd (LOOP_STAT_AT_LIMIT n) +
    16 * s.rd (LOOP_CTL_MANUAL n) + 32 * s.rd (LOOP_CTL_HOLD_LAW n) + 256 * s.rd (LOOP_STAT_CONSEC n)
  leBytes 4 w0 ++ leBytes 4 (sx (LOOP_RVAL_R n)) ++ leBytes 4 (sx (LOOP_RVAL_RT n)) ++ leBytes 4 (sx (LOOP_VAL_Y n)) ++
    leBytes 4 (sx (LOOP_VAL_U n)) ++ leBytes 4 e.code ++ leBytes 8 (ofSigned 64 (s.acc n)) ++
    leBytes 4 (s.reg (LOOP_SAMPLES n)).toNat ++ leBytes 4 e.overruns ++ leBytes 4 e.vpv ++ leBytes 4 e.x ++
    leBytes 8 e.time ++ leBytes 8 0

/-- The state blocks written into the image being frozen at `base`; table set-points fall due at the next tick. -/
def State.loopsFreeze (s : State) (base : Nat) : State :=
  let s1 := s.each (List.range 32) (fun t n => t.putBytes (base + 0x5000 + 64 * n) (t.engineBlock n))
  { s1 with loops := { s1.loops with freezeSeen := true } }

/-- The command blocks of the output buffer, delivered by a used output edge (R271, R282). -/
def State.loopsCommands (s : State) : State :=
  { s with loops := { s.loops with cmds := (List.range 32).map (fun n =>
      let a := s.outBase + 0x5000 + 64 * n
      (s.ld a 4, clampSigned 16 (s.ldS (a + 4) 4))) } }

end Sys2Proof.Machine
end

