-- ==== Sys2Proof/Machine/Frames.lean ====
section
/-! DEFINITION. The frames of the field ports (R284, R285, R295, R306): Ethernet, IPv6, ICMPv6 and UDP as they arrive and as
they are sent. -/

namespace Sys2Proof.Machine

def State.setField (s : State) (f : FieldEx) : State := { s with field := f }
def State.fport (s : State) (n : Nat) : FieldPort := (s.field.ports[n]?).getD fieldPort0
def State.setFport (s : State) (n : Nat) (p : FieldPort) : State := s.setField { s.field with ports := s.field.ports.set n p }

/-- A big-endian field of a frame. -/
def beU (bs : List Byte) (off n : Nat) : Nat := ofBeBytes ((bs.drop off).take n)

/-! Check values. -/

/-- The frame check sequence of IEEE 802.3, one bit and one byte at a time. -/
def fcsBit (c : Nat) : Nat := if c % 2 = 1 then (c / 2) ^^^ 0xEDB88320 else c / 2
def fcsByte (c : Nat) (b : Byte) : Nat :=
  fcsBit (fcsBit (fcsBit (fcsBit (fcsBit (fcsBit (fcsBit (fcsBit (c ^^^ b.toNat))))))))

/-- The four bytes of FCS as they follow a frame. -/
def fcsOf (bs : List Byte) : List Byte := leBytes 4 ((bs.foldl fcsByte 0xFFFFFFFF) ^^^ 0xFFFFFFFF)

/-- The sum of the 16-bit words of a byte string, the last byte filled with 0. -/
def sumWords : List Byte → Nat
  | [] => 0
  | [a] => 256 * a.toNat
  | a :: b :: r => 256 * a.toNat + b.toNat + sumWords r

/-- A ones' complement sum folded to 16 bits: three folds do for any frame. -/
def foldSum (v : Nat) : Nat :=
  let f (x : Nat) : Nat := x % 65536 + x / 65536
  f (f (f v))

/-- The checksum of an IPv6 payload with its pseudo-header (RFC 8200, 8.1): 0 of one whose checksum verifies. -/
def ipSum (src dst next_ : Nat) (payload : List Byte) : Nat :=
  65535 - foldSum (sumWords (beBytes 16 src ++ beBytes 16 dst ++ beBytes 4 payload.length ++ beBytes 4 next_ ++ payload))

/-! Addresses. -/

/-- The port's MAC address, unicast address and report group address. -/
def State.portMac (s : State) (n : Nat) : Nat := s.rd (FP_MAC_HI_MAC n) * 2 ^ 32 + s.rd (FP_MAC_LO_MAC n)
def State.portIp (s : State) (n : Nat) : Nat := (List.range 4).foldl (fun a k => a * 2 ^ 32 + s.rd (FP_UCAST_ADDR n k)) 0
def State.portGroup (s : State) (n : Nat) : Nat := (List.range 4).foldl (fun a k => a * 2 ^ 32 + s.rd (FP_GROUP_ADDR n k)) 0

/-- The MAC address of an IPv6 multicast address (RFC 2464). -/
def multicastMac (ip : Nat) : Nat := 0x3333 * 2 ^ 32 + ip % 2 ^ 32

/-- The solicited-node address of an address (RFC 4291). -/
def solicitedNode (ip : Nat) : Nat := 0xff02 * 2 ^ 112 + 0x1ff * 2 ^ 24 + ip % 2 ^ 24

/-- All nodes, and the MLDv2 routers that reports go to (RFC 3810). -/
def allNodes : Nat := 0xff02 * 2 ^ 112 + 1
def mldRouters : Nat := 0xff02 * 2 ^ 112 + 0x16

/-- The PTP groups of IEEE 1588 Annex E and the addresses of Annex F: for all messages but peer delay, and for those. -/
def ptpGroup : Nat := 0xff0e * 2 ^ 112 + 0x181
def ptpPeerGroup : Nat := 0xff02 * 2 ^ 112 + 0x6b
def ptpMac : Nat := 0x011B19000000
def ptpPeerMac : Nat := 0x0180C200000E

/-- PAUSE: its destination and its EtherType. -/
def pauseMac : Nat := 0x0180C2000001
def pauseType : Nat := 0x8808

/-- The destinations that the MAC checks of R285 admit; the MLD addresses are those that queries are sent to: all nodes, and
the group itself (DEDUCED, assumption 97). -/
def State.macAdmitted (s : State) (n mac : Nat) : Bool :=
  let g := s.portGroup n
  mac == s.portMac n || mac == multicastMac (solicitedNode (s.portIp n)) || mac == multicastMac allNodes ||
    (g != 0 && mac == multicastMac g) || mac == ptpMac || mac == ptpPeerMac || mac == multicastMac ptpGroup ||
    mac == multicastMac ptpPeerGroup

/-! Ethernet. -/

/-- Stacked 802.1Q tags of a frame, counted up to two. -/
def frameTags (bs : List Byte) : Nat := if beU bs 12 2 = 0x8100 then (if beU bs 16 2 = 0x8100 then 2 else 1) else 0

/-- EtherType behind the tags, and what follows it. -/
def frameType (bs : List Byte) : Nat := beU bs (12 + 4 * frameTags bs) 2
def frameBody (bs : List Byte) : List Byte := bs.drop (14 + 4 * frameTags bs)

/-- The MAC addresses of a frame. -/
def frameDest (bs : List Byte) : Nat := beU bs 0 6
def frameSource (bs : List Byte) : Nat := beU bs 6 6

/-- Length and FCS of a frame as it arrives are right (R284, R285). -/
def frameSound (bs : List Byte) : Bool :=
  let n := bs.length
  decide (64 ≤ n) && decide (n ≤ (if frameTags bs = 1 then 1522 else 1518)) && bs.drop (n - 4) == fcsOf (bs.take (n - 4))

/-- Step 1 of R295: the tag, and the EtherType. -/
def State.tagOk (s : State) (n : Nat) (bs : List Byte) : Bool :=
  (if s.rd (FP_CTL_VLAN_EN n) = 0 then frameTags bs == 0
   else frameTags bs == 1 && beU bs 14 2 % 4096 == s.rd (FP_VLAN_VID n)) &&
  (frameType bs == 0x86DD || frameType bs == 0x88F7)

/-! IPv6. -/

/-- An IPv6 packet (RFC 8200): addresses, next header, hop limit, and the payload. -/
structure Packet where
  src : Nat
  dst : Nat
  proto : Nat
  hop : Nat
  body : List Byte
deriving DecidableEq, Repr

/-- The packet of an IPv6 frame, where version and payload length are right. The hop-by-hop header with a router alert that
RFC 3810 asks of MLD is taken off (DEDUCED, assumption 97). -/
def packetOf (p : List Byte) : Option Packet :=
  let len := beU p 4 2
  let body := (p.drop 40).take len
  if p.length < 40 ∨ beU p 0 1 / 16 ≠ 6 ∨ body.length < len then none
  else
    let alert := beU p 6 1 == 0 && beU body 0 8 == 0x3A00050200000100
    some ⟨beU p 8 16, beU p 24 16, if alert then 58 else beU p 6 1, beU p 7 1, if alert then body.drop 8 else body⟩

/-- An ICMPv6 message whose checksum verifies. -/
def Packet.icmpOk (p : Packet) : Bool := p.proto == 58 && decide (4 ≤ p.body.length) && ipSum p.src p.dst 58 p.body == 0

/-- A UDP datagram: its destination port, its length, whether its checksum is there and verifies, and its payload. -/
def Packet.udpPort (p : Packet) : Nat := beU p.body 2 2
def Packet.udpLen (p : Packet) : Nat := beU p.body 4 2
def Packet.udpOk (p : Packet) : Bool :=
  decide (8 ≤ p.udpLen) && decide (p.udpLen ≤ p.body.length) && beU p.body 6 2 != 0 &&
    ipSum p.src p.dst 17 (p.body.take p.udpLen) == 0
def Packet.udpData (p : Packet) : List Byte := (p.body.take p.udpLen).drop 8

/-- What a frame that passes steps 1 and 2 of R295 carries. -/
inductive Carried where
  | other
  | neighbor (p : Packet)
  | mld (p : Packet)
  | echo (p : Packet)
  | ptp (m : List Byte)
  | udp (p : Packet)
deriving DecidableEq, Repr

/-- Steps 1 and 2 of R295, PTP by the transport that PTP_L2 selects. Neighbor Solicitations come to the solicited-node address or the port's own, MLD queries to all
nodes or the group, PTP to its groups or the port's own address. -/
def State.carried (s : State) (n : Nat) (bs : List Byte) : Carried :=
  let ip := s.portIp n
  let g := s.portGroup n
  if !s.tagOk n bs then .other
  else if frameType bs = 0x88F7 then (if s.rd (FP_CTL_PTP_L2 n) = 1 then .ptp (frameBody bs) else .other)
  else
    match packetOf (frameBody bs) with
    | none => .other
    | some p =>
      let own := p.dst == ip || (g != 0 && p.dst == g)
      let kind := beU p.body 0 1
      let layer2 := s.rd (FP_CTL_PTP_L2 n) == 1
      if p.icmpOk && (kind == 135 || kind == 136) && (p.dst == ip || p.dst == solicitedNode ip || p.dst == allNodes) then .neighbor p
      else if p.icmpOk && kind == 130 && (p.dst == allNodes || own) then .mld p
      else if p.icmpOk && kind == 128 && own then .echo p
      else if !layer2 && p.proto == 17 && (p.udpPort == 319 || p.udpPort == 320) && p.udpOk &&
          (p.dst == ip || p.dst == ptpGroup || p.dst == ptpPeerGroup) then .ptp p.udpData
      else if p.proto == 17 && own then .udp p
      else .other

/-! Sending (R284, R306). -/

/-- A frame with its tag, filled to the least length, and its FCS. -/
def State.etherFrame (s : State) (n mac type : Nat) (body : List Byte) : List Byte :=
  let tag := if s.rd (FP_CTL_VLAN_EN n) = 1 then beBytes 2 0x8100 ++ beBytes 2 (s.rd (FP_VLAN_PCP n) * 8192 + s.rd (FP_VLAN_VID n))
    else []
  let bs := beBytes 6 mac ++ beBytes 6 (s.portMac n) ++ tag ++ beBytes 2 type ++ body
  let full := bs ++ List.replicate (60 - bs.length) 0
  full ++ fcsOf full

/-- An IPv6 packet from the port's unicast address. -/
def State.ipPacket (s : State) (n dst proto hop : Nat) (body : List Byte) : List Byte :=
  beBytes 4 0x60000000 ++ beBytes 2 body.length ++ beBytes 1 proto ++ beBytes 1 hop ++ beBytes 16 (s.portIp n) ++ beBytes 16 dst ++
    body

/-- A payload with its checksum put at an offset; a UDP checksum of 0 is sent as all ones. -/
def State.summed (s : State) (n dst proto off : Nat) (body : List Byte) : List Byte :=
  let c := ipSum (s.portIp n) dst proto body
  body.take off ++ beBytes 2 (if proto = 17 ∧ c = 0 then 65535 else c) ++ body.drop (off + 2)

/-- A frame sent on a port that runs: a stopped port sends nothing. -/
def State.sendFrame (s : State) (n : Nat) (bs : List Byte) : State :=
  if s.rd (FP_CTL_EN n) = 0 then s else s.send (.frame n (bs.map BitVec.toNat))

/-- An ICMPv6 message sent. -/
def State.sendIcmp (s : State) (n mac dst hop : Nat) (msg : List Byte) : State :=
  s.sendFrame n (s.etherFrame n mac 0x86DD (s.ipPacket n dst 58 hop (s.summed n dst 58 2 msg)))

/-- A UDP datagram sent. -/
def State.sendUdp (s : State) (n mac dst from_ to_ : Nat) (data : List Byte) : State :=
  let u := beBytes 2 from_ ++ beBytes 2 to_ ++ beBytes 2 (8 + data.length) ++ beBytes 2 0 ++ data
  s.sendFrame n (s.etherFrame n mac 0x86DD (s.ipPacket n dst 17 64 (s.summed n dst 17 6 u)))

/-! Neighbor Discovery, Echo and MLD (R284). -/

/-- A Neighbor Solicitation for the port's address answered with an advertisement (RFC 4861, 7.1.1 and 7.2.4). -/
def State.neighborReply (s : State) (n mac : Nat) (p : Packet) : State :=
  let ip := s.portIp n
  if beU p.body 0 1 ≠ 135 ∨ p.hop ≠ 255 ∨ beU p.body 1 1 ≠ 0 ∨ p.body.length < 24 ∨ beU p.body 8 16 ≠ ip then s
  else
    let dad := p.src == 0
    let msg := beBytes 1 136 ++ beBytes 3 0 ++ beBytes 4 ((if dad then 0x20 else 0x60) * 2 ^ 24) ++ beBytes 16 ip ++
      beBytes 2 0x0201 ++ beBytes 6 (s.portMac n)
    s.sendIcmp n (if dad then multicastMac allNodes else mac) (if dad then allNodes else p.src) 255 msg

/-- An Echo Request answered from the port's own address. -/
def State.echoReply (s : State) (n mac : Nat) (p : Packet) : State :=
  s.sendIcmp n mac p.src 64 (beBytes 1 129 ++ beBytes 3 0 ++ p.body.drop 4)

/-- An MLDv2 report for the group address: its filter excludes nothing, as a current state (2) or a change to it (4). -/
def State.mldReport (s : State) (n record : Nat) : State :=
  let g := s.portGroup n
  if g = 0 then s
  else
    let msg := s.summed n mldRouters 58 2 (beBytes 1 143 ++ beBytes 5 0 ++ beBytes 2 1 ++ beBytes 1 record ++ beBytes 3 0 ++ beBytes 16 g)
    s.sendFrame n (s.etherFrame n (multicastMac mldRouters) 0x86DD
      (s.ipPacket n mldRouters 0 1 (beBytes 8 0x3A00050200000100 ++ msg)))

/-- An MLD query of all groups, or of the port's, answered (RFC 3810, 5.2). -/
def State.mldReply (s : State) (n : Nat) (p : Packet) : State :=
  let asked := beU p.body 8 16
  if p.body.length < 24 ∨ (asked ≠ 0 ∧ asked ≠ s.portGroup n) then s else s.mldReport n 2

end Sys2Proof.Machine
end

