-- ==== Sys2Proof/Machine/Ptp.lean ====
section
/-! DEFINITION. IEEE 1588-2019 on the field ports (R286): the best transmitter that a time receiver follows, its offset and
path delay, and what a time transmitter sends. -/

namespace Sys2Proof.Machine

/-- PTP_STATE of a port. -/
def ptpOff : Nat := 0
def ptpListening : Nat := 1
def ptpLocked : Nat := 2
def ptpMaster : Nat := 3

/-- PTP_ROLE of a port. -/
def ptpReceiver : Nat := 1
def ptpTransmitter : Nat := 2

/-- Message types (IEEE 1588, 13.3.2.3). -/
def pmSync : Nat := 0
def pmDelayReq : Nat := 1
def pmPeerReq : Nat := 2
def pmPeerResp : Nat := 3
def pmFollowUp : Nat := 8
def pmDelayResp : Nat := 9
def pmPeerFollowUp : Nat := 10
def pmAnnounce : Nat := 11

def State.ptp (s : State) (n : Nat) : PtpPort := (s.fport n).ptp
def State.setPtp (s : State) (n : Nat) (p : PtpPort) : State := s.setFport n { s.fport n with ptp := p }

/-- Calendar time in ns as the ports' timestamps hold it, in whole units of 6.4 ns. -/
def stampNs (cal : Nat) : Nat := cal * 25 / 192 * 32 / 5

/-- A span in ns as SYS cycles. -/
def cyclesOfNs (ns : Int) : Int := ns * 6 / 5

/-- A timestamp of a message: 48 bits of seconds and 32 of ns. -/
def stampBytes (ns : Nat) : List Byte := beBytes 6 (ns / 1000000000) ++ beBytes 4 (ns % 1000000000)
def stampOf (m : List Byte) (off : Nat) : Int := (beU m off 6 * 1000000000 + beU m (off + 6) 4 : Nat)

/-- The time of an interval, 2^x s, in SYS cycles, from the signed field of 4 bits. -/
def logCycles (v : Nat) : Nat := if v < 8 then cycPerS * 2 ^ v else cycPerS / 2 ^ (16 - v)

/-- The identity of a port: EUI-64 of its MAC address, and port numbers from 1 (PRESUMED, assumption 99). -/
def State.ptpId (s : State) (n : Nat) : Nat :=
  let mac := s.portMac n
  ((mac / 2 ^ 24 * 2 ^ 16 + 0xFFFE) * 2 ^ 24 + mac % 2 ^ 24) * 2 ^ 16 + n + 1

/-! Fields of a message's header. -/

def pmType (m : List Byte) : Nat := beU m 0 1 % 16
def pmTwoStep (m : List Byte) : Bool := bitOf (beU m 6 1) 1
def pmCorrection (m : List Byte) : Int := toSigned 64 (beU m 8 8) / 65536
def pmSource (m : List Byte) : Nat := beU m 20 10
def pmSequence (m : List Byte) : Nat := beU m 30 2

/-- The length of each type of message; none for those that have no effect here. -/
def pmLength (type : Nat) : Option Nat :=
  if type = pmSync ∨ type = pmDelayReq ∨ type = pmFollowUp then some 44
  else if type = pmPeerReq ∨ type = pmPeerResp ∨ type = pmDelayResp ∨ type = pmPeerFollowUp then some 54
  else if type = pmAnnounce then some 64
  else none

/-- A message that the port handles: its profile's identifier, PTP version 2, its own domain, and its length. -/
def State.ptpSound (s : State) (n : Nat) (m : List Byte) : Bool :=
  beU m 0 1 / 16 == 0 && beU m 1 1 % 16 == 2 && beU m 5 1 == 0 && beU m 4 1 == s.rd (FP_PTP_CFG_DOMAIN n) &&
    (match pmLength (pmType m) with
     | none => false
     | some k => decide (k ≤ beU m 2 2) && decide (beU m 2 2 ≤ m.length))

/-! Sending. -/

/-- A message sent to the group of its kind with a correctionField: event messages to port 319, general ones to 320. -/
def State.ptpSend (s : State) (n type flags correction seq interval : Nat) (body : List Byte) : State :=
  let peer := type == pmPeerReq || type == pmPeerResp || type == pmPeerFollowUp
  let m := beBytes 1 type ++ beBytes 1 0x12 ++ beBytes 2 (34 + body.length) ++ beBytes 1 (s.rd (FP_PTP_CFG_DOMAIN n)) ++
    beBytes 1 0 ++ beBytes 2 flags ++ beBytes 8 correction ++ beBytes 4 0 ++ beBytes 10 (s.ptpId n) ++
    beBytes 2 seq ++ beBytes 1 0 ++ beBytes 1 interval ++ body
  if s.rd (FP_CTL_PTP_L2 n) = 1 then s.sendFrame n (s.etherFrame n (if peer then ptpPeerMac else ptpMac) 0x88F7 m)
  else
    let ip := if peer then ptpPeerGroup else ptpGroup
    let port := if type < 8 then 319 else 320
    s.sendUdp n (multicastMac ip) ip port port m

/-- LOG_SYNC or LOG_ANNOUNCE as a message carries it. -/
def logByte (v : Nat) : Nat := if v < 8 then v else 240 + v

/-- An Announce of a time transmitter, with its CLOCK_CLASS; the rest of its data set is PRESUMED (assumption 99). -/
def State.ptpAnnounce (s : State) (n : Nat) : State :=
  let p := s.ptp n
  let body := stampBytes 0 ++ beBytes 2 0 ++ beBytes 1 0 ++ beBytes 1 128 ++ beBytes 1 (s.rd (FP_PTP_CFG_CLOCK_CLASS n)) ++
    beBytes 3 0xFEFFFF ++ beBytes 1 128 ++ beBytes 8 (s.ptpId n / 65536) ++ beBytes 2 0 ++ beBytes 1 0xA0
  let log := s.rd (FP_PTP_CFG_LOG_ANNOUNCE n)
  (s.ptpSend n pmAnnounce 0 0 p.seqAnnounce (logByte log) body).setPtp n
    { p with seqAnnounce := (p.seqAnnounce + 1) % 65536, dueAnnounce := s.now + logCycles log }

/-- A two-step Sync of a time transmitter, and its Follow_Up with the calendar time at which it left. -/
def State.ptpSyncSend (s : State) (n : Nat) : State :=
  let p := s.ptp n
  let log := s.rd (FP_PTP_CFG_LOG_SYNC n)
  let s1 := s.ptpSend n pmSync 0x0200 0 p.seqSync (logByte log) (stampBytes 0)
  (s1.ptpSend n pmFollowUp 0 0 p.seqSync (logByte log) (stampBytes (stampNs s.cal))).setPtp n
    { p with seqSync := (p.seqSync + 1) % 65536, dueSync := s.now + logCycles log }

/-- The time receiver asks for its delay: from the transmitter, or from its peer. -/
def State.ptpAsk (s : State) (n : Nat) : State :=
  let p := s.ptp n
  let s1 := if s.rd (FP_CTL_PTP_P2P n) = 1 then s.ptpSend n pmPeerReq 0 0 p.seqAsk 0x7F (stampBytes 0 ++ beBytes 10 0)
    else s.ptpSend n pmDelayReq 0 0 p.seqAsk 0x7F (stampBytes 0)
  s1.setPtp n { p with seqAsk := (p.seqAsk + 1) % 65536, asked := some (p.seqAsk, stampNs s.cal), answer := none }

/-- A Delay_Req answered with the time it arrived at. -/
def State.delayAnswer (s : State) (n arrival : Nat) (m : List Byte) : State :=
  s.ptpSend n pmDelayResp 0 (beU m 8 8) (pmSequence m) 0 (stampBytes arrival ++ beBytes 10 (pmSource m))

/-- A Pdelay_Req answered in two steps: the times at which it arrived and at which the answer leaves. -/
def State.peerAnswer (s : State) (n arrival : Nat) (m : List Byte) : State :=
  let asker := beBytes 10 (pmSource m)
  (s.ptpSend n pmPeerResp 0x0200 0 (pmSequence m) 0x7F (stampBytes arrival ++ asker)).ptpSend n pmPeerFollowUp 0
    (beU m 8 8) (pmSequence m) 0x7F (stampBytes (stampNs s.cal) ++ asker)

/-! The best transmitter (IEEE 1588, 9.3). -/

/-- The data set of an Announce: priority1, class, accuracy, variance, priority2, identity, steps removed, and sender. -/
def announceRank (m : List Byte) : Nat := (beU m 47 6 * 2 ^ 64 + beU m 53 8) * 2 ^ 96 + beU m 61 2 * 2 ^ 80 + pmSource m

/-- A transmitter is qualified: two Announce messages within four announce intervals. -/
def PtpMaster.qualified (x : PtpMaster) (now interval : Nat) : Bool :=
  decide (2 ≤ (x.heard.filter (fun t => decide (now ≤ t + 4 * interval))).length)

/-- The transmitter of the best data set among the qualified ones. -/
def bestMaster (xs : List PtpMaster) (now interval : Nat) : Option Nat :=
  ((xs.filter (fun x => x.qualified now interval)).foldl (fun (a : Option PtpMaster) x =>
    match a with
    | none => some x
    | some y => if x.rank < y.rank then some x else some y) none).map PtpMaster.id

/-- The time receiver loses lock: F1 (R308). -/
def State.ptpUnlock (s : State) (n : Nat) : State :=
  if s.rd (FP_STAT_PTP_STATE n) = ptpLocked then
    let s1 := (s.wr (FP_STAT_PTP_STATE n) ptpListening).recordFault 1 bField 0 n
    if s1.rd CP_TIME_CTL_SOURCE = 1 then s1.wr CP_TIME_CTL_SOURCE 0 else s1
  else s

/-- The transmitter followed changes: what was measured against the old one is dropped. -/
def State.ptpFollow (s : State) (n : Nat) (parent : Option Nat) : State :=
  let p := s.ptp n
  if p.parent = parent then s
  else
    let s1 := s.ptpUnlock n
    s1.setFport n { s1.fport n with
      lockRun := 0, ptp := { p with parent := parent, sync := none, asked := none, answer := none, delay := 0, back := 0 } }

/-- The best master clock algorithm on a time receiver's port. -/
def State.ptpBest (s : State) (n : Nat) : State :=
  s.ptpFollow n (bestMaster (s.ptp n).masters s.now (logCycles (s.rd (FP_PTP_CFG_LOG_ANNOUNCE n))))

/-- An Announce at the time receiver. -/
def State.ptpHear (s : State) (n : Nat) (m : List Byte) : State :=
  if 255 ≤ beU m 61 2 then s
  else
    let p := s.ptp n
    let id := pmSource m
    let old := match p.masters.find? (fun x => x.id == id) with
      | some x => x.heard
      | none => []
    let x : PtpMaster := ⟨id, announceRank m, (s.now :: old).take 2⟩
    (s.setPtp n { p with masters := x :: p.masters.filter (fun y => y.id != id) }).ptpBest n

/-! Offset and delay. -/

/-- An offset in ns at the time receiver: it is shown, lock follows 8 in a row within ±1 µs, and the discipline acts unless a
valid 1PPS input takes precedence: by the correction it chooses, or by a step where more than 1 s is wrong (R438). -/
def State.ptpOffset (s : State) (n : Nat) (offsetNs correction : Int) : State :=
  let good := decide (offsetNs.natAbs ≤ 1000)
  let run := if good then (s.fport n).lockRun + 1 else 0
  let s1 := (s.setReg (FP_PTP_OFS n) (BitVec.ofInt 32 (clampSigned 32 offsetNs))).setFport n { s.fport n with lockRun := run }
  let s2 := if !good then s1.ptpUnlock n else if 8 ≤ run then s1.wr (FP_STAT_PTP_STATE n) ptpLocked else s1
  if s2.ppsValid then s2
  else
    let s3 := if s2.rd (FP_STAT_PTP_STATE n) = ptpLocked then s2.wr CP_TIME_CTL_SOURCE 1 else s2
    if offsetNs.natAbs ≤ 1000000000 then s3.discipline correction
    else if s3.calSet.isSome then s3 else s3.discipline (-(cyclesOfNs offsetNs))

/-- A Sync whose time of sending is known, and the next question for the delay. -/
def State.ptpSynced (s : State) (n arrival : Nat) (sent corr correction : Int) : State :=
  let p := s.ptp n
  let back := (arrival : Int) - sent - corr
  ((s.setPtp n { p with sync := none, back := back }).ptpOffset n (back - p.delay) correction).ptpAsk n

/-- A message from the transmitter that a time receiver follows, or an answer to its own question. -/
def State.ptpReceive (s : State) (n arrival : Nat) (correction : Int) (m : List Byte) : State :=
  let p := s.ptp n
  let type := pmType m
  let seq := pmSequence m
  let corr := pmCorrection m
  let peer := s.rd (FP_CTL_PTP_P2P n) == 1
  let mine := (match p.asked with
    | some (q, _) => q == seq && beU m 44 10 == s.ptpId n
    | none => false : Bool)
  let askedAt : Int := match p.asked with
    | some (_, t) => (t : Int)
    | none => 0
  if type = pmAnnounce then s.ptpHear n m
  else if type = pmPeerResp then
    if !peer || !mine then s
    else if pmTwoStep m then s.setPtp n { p with answer := some ((arrival : Int) - askedAt + stampOf m 34 - corr) }
    else s.setPtp n { p with delay := ((arrival : Int) - askedAt - corr) / 2, asked := none }
  else if type = pmPeerFollowUp then
    (match p.answer with
     | some t => if !peer || !mine then s
       else s.setPtp n { p with delay := (t - stampOf m 34 - corr) / 2, asked := none, answer := none }
     | none => s)
  else if p.parent ≠ some (pmSource m) then s
  else if type = pmSync then
    if pmTwoStep m then s.setPtp n { p with sync := some (seq, arrival, corr) }
    else s.ptpSynced n arrival (stampOf m 34) corr correction
  else if type = pmFollowUp then
    (match p.sync with
     | some (q, at_, c) => if q = seq then s.ptpSynced n at_ (stampOf m 34) (c + corr) correction else s
     | none => s)
  else if type = pmDelayResp && !peer && mine then
    s.setPtp n { p with delay := (p.back + stampOf m 34 - askedAt - corr) / 2, asked := none }
  else s

/-- A PTP message taken from the queue, by the role of the port; a port of either role answers its peer. -/
def State.ptpHandle (s : State) (n arrival : Nat) (correction : Int) (m : List Byte) : State :=
  let role := s.rd (FP_CTL_PTP_ROLE n)
  let peer := s.rd (FP_CTL_PTP_P2P n) == 1
  if !s.ptpSound n m || (role != ptpReceiver && role != ptpTransmitter) then s
  else if pmType m = pmPeerReq then (if peer then s.peerAnswer n arrival m else s)
  else if role = ptpReceiver then s.ptpReceive n arrival correction m
  else if pmType m = pmDelayReq && !peer then s.delayAnswer n arrival m
  else s

/-- What one port does by time: a transmitter sends its messages as they fall due, and a receiver whose transmitter has
been silent for three announce intervals follows another. -/
def State.ptpPortTick (s : State) (n : Nat) : State :=
  if s.rd (FP_CTL_EN n) = 0 ∨ s.rd (FP_STAT_LINK n) = 0 then s
  else if s.rd (FP_CTL_PTP_ROLE n) = ptpTransmitter then
    let s1 := if (s.ptp n).dueAnnounce ≤ s.now then s.ptpAnnounce n else s
    if (s1.ptp n).dueSync ≤ s1.now then s1.ptpSyncSend n else s1
  else if s.rd (FP_CTL_PTP_ROLE n) = ptpReceiver ∧ (s.ptp n).masters ≠ [] then
    let silent := 3 * logCycles (s.rd (FP_PTP_CFG_LOG_ANNOUNCE n))
    let p := s.ptp n
    let live := p.masters.filter (fun x => x.heard.any (fun t => decide (s.now ≤ t + silent)))
    if live.length = p.masters.length then s else (s.setPtp n { p with masters := live }).ptpBest n
  else s

/-- PTP by time on the four ports. -/
def State.ptpTick (s : State) : State := s.each (List.range 4) State.ptpPortTick

end Sys2Proof.Machine
end

