-- ==== Sys2Proof/Machine/Field.lean ====
section
/-! DEFINITION. Field exchange with substations (R284 to R309): ports and queues, the checks of a frame, sessions and
counters, reports, presence, orders, the waiting room, PTP, and the field part of the input image. -/

namespace Sys2Proof.Machine

/-! Presence states (R128), sessions (R296) and telegram types (R289). -/

def prUnused : Nat := 0
def prExpected : Nat := 1
def prPresent : Nat := 2
def prLate : Nat := 3
def prAbsent : Nat := 4
def prDisabled : Nat := 5

def seNone : Nat := 0
def seWelcomed : Nat := 1
def seOpen : Nat := 2
def seClosed : Nat := 3

def tgHello : Nat := 1
def tgWelcome : Nat := 2
def tgReport : Nat := 3
def tgOrder : Nat := 4
def tgWait : Nat := 5
def tgClose : Nat := 6

/-! Entries. -/

/-- A field of an entry written, within an update that counts in UPD_SEQ (R129). -/
def State.gput (s : State) (g off n v : Nat) : State := s.st (gazAddr g + off) n v

/-- The end of an update of an entry: UPD_SEQ has passed through an odd value (R129). -/
def State.gupd (s : State) (g : Nat) : State := s.gput g 0xFC 4 (s.gz g 0xFC 4 + 2)

/-- PRESENCE of an entry. -/
def State.presence (s : State) (g : Nat) : Nat := s.gz g 0x20 1 % 8

/-- SESSION set, with the count of OPEN sessions in FX_STAT. -/
def State.setSession (s : State) (g v : Nat) : State :=
  let n := s.rd FX_STAT_OPEN + b2n (v == seOpen) - b2n (s.gz g 0x22 1 == seOpen)
  (s.gput g 0x22 1 v).wr FX_STAT_OPEN n

/-- FIELD_ROOT is VALID (R384). -/
def State.rootValid (s : State) : Bool := s.rd (KS_SLOT_STATE 1) == 2

/-- The key of an entry's station is valid (R309, R394, R395). -/
def State.stationKeyOk (s : State) (g : Nat) : Bool := s.rootValid && !s.stations.revoked.contains g

/-- The reservation in force (R69). -/
def State.reservation (s : State) : Nat :=
  if s.rd CP_CTR_RESERVE_HI_VALID = 1 then
    (s.reg CP_CTR_RESERVE_LO).toNat + 2 ^ 32 * s.rd CP_CTR_RESERVE_HI_RESERVE
  else 0

/-- The unit may transmit (R302, R354): a single unit always, a unit of a pair while it holds authority. -/
def State.maySend (s : State) : Bool := !s.paired || s.rd GLOBAL_MODE_AUTH == 1

/-- IP6 as one number, its first byte most significant. -/
def State.ip6 (s : State) (a : Nat) : Nat := ofBeBytes (s.bytes a 16)

/-- The place of an entry in the link table (R306). -/
def linkAddr (g : Nat) : Nat := sd (0x2540000 + 8 * g)

/-- The station key of an address at a generation: a child of the field root key (R288, R380). -/
def State.stationKey (s : State) (addr gen : Nat) : List Byte :=
  kmac256 ((((s.keys.slots[1]?).bind KeySlot.value)).getD []) (ascii "KEIVIX-STATION" ++ beBytes 8 addr ++ beBytes 1 gen) 32
    "KEIVIX-KDF"

/-- The IV of a telegram: its direction and its counter (R288). -/
def telegramIv (dir ctr : Nat) : List Byte := beBytes 1 dir ++ beBytes 3 0 ++ beBytes 8 ctr

/-- The header of a telegram of this unit (R287). -/
def State.telegramHeader (s : State) (type addr keyGen ctr len : Nat) : List Byte :=
  let unit := b2n (s.paired && s.rd GLOBAL_MODE_ROLE == 1)
  beBytes 2 0x4E46 ++ beBytes 1 1 ++ beBytes 1 type ++ beBytes 8 addr ++ beBytes 1 keyGen ++ beBytes 1 unit ++ beBytes 2 len ++
    beBytes 8 ctr ++ beBytes 4 (s.reg PAIR_EPOCH).toNat ++ beBytes 4 0

/-- A telegram sealed, and sent on its port (R287, R288, R306). -/
def State.emit (s : State) (w : HeldTelegram) (ctr : Nat) : State :=
  let head := s.telegramHeader w.type w.addr w.keyGen ctr w.plain.length
  let sealed_ := gcmSeal (s.stationKey w.addr w.keyGen) (telegramIv 2 ctr) head w.plain
  (s.sendUdp w.port w.mac w.ip6 4810 4810 (head ++ sealed_)).bump (FP_CNT_TX_COUNT w.port) 1

/-- No telegram goes to an entry's station: without authority, on a stopped port (R284), with an invalid key (R309), or while
no address of it has been learned (R306; DEDUCED, assumption 98). -/
def State.mute (s : State) (g : Nat) : Bool :=
  !s.maySend || !s.stationKeyOk g || s.rd (FP_CTL_EN (s.gz g 0x1E 1)) == 0 || s.ld (linkAddr g + 6) 1 != 1

/-- A telegram to an entry's station as it is composed: under the entry's address, port and key generation. -/
def State.compose0 (s : State) (g floor type : Nat) (plain : List Byte) : HeldTelegram :=
  ⟨false, g, s.gz g 0x1E 1, ofBeBytes (s.bytes (linkAddr g) 6), s.ip6 (gazAddr g + 8), s.gz g 0 8, s.gz g 0x23 1, floor, type, plain⟩

/-- A telegram put behind those that wait for the reservation. -/
def State.hold (s : State) (w : HeldTelegram) : State := s.setField { s.field with waiting := s.field.waiting ++ [w] }

/-- The place of a waiting-room slot (R306). -/
def wrAddr (k : Nat) : Nat := sd (0x2560000 + 64 * k)

/-- Where TX_CTR of a telegram's entry or slot stands. -/
def HeldTelegram.ctrAt (w : HeldTelegram) : Nat := if w.room then wrAddr w.place + 0x38 else gazAddr w.place + 0x28

/-- The entry or slot still holds the station that a telegram is for. -/
def HeldTelegram.live (w : HeldTelegram) (s : State) : Bool :=
  s.ld (if w.room then wrAddr w.place else gazAddr w.place) 8 == w.addr

/-- An ORDER that waited is still the pending one. -/
def HeldTelegram.current (w : HeldTelegram) (s : State) : Bool :=
  let ctl := s.gz w.place 0x84 4
  w.type != tgOrder || (bitOf ctl 16 && ofBeBytes (w.plain.take 2) == ctl % 65536)

/-- An ORDER that leaves (R302): RESEND is set and counted where its ORDER_SEQ was sent before. -/
def State.countOrder (s : State) (g : Nat) : State :=
  let again := s.field.sent.contains g
  let ctl := s.gz g 0x84 4
  let s1 := if again then
      (s.gput g 0x84 4 (putBits ctl 23 20 (min 15 (bitsOf ctl 23 20 + 1)))).bump FX_RESEND_CNT_COUNT 1 else s
  s1.setField { s1.field with sent := addOnce s1.field.sent g }

/-- The flag RESEND put into the plaintext of an ORDER. -/
def State.marked (s : State) (w : HeldTelegram) : HeldTelegram :=
  if w.type = tgOrder then
    { w with plain := w.plain.take 2 ++ beBytes 1 (b2n (s.field.sent.contains w.place)) ++ w.plain.drop 3 }
  else w

/-- A telegram sent at once (R297): TX_CTR is raised to the least counter that it names and incremented, and the telegram
carries it. One of type 0 only raises TX_CTR; one whose entry or slot is gone carries the counter it was composed for. -/
def State.sendNow (s : State) (w : HeldTelegram) : State :=
  let live := w.live s
  let top := if live then max (s.ld w.ctrAt 8) w.floor else w.floor
  if w.type = 0 then (if live then s.st w.ctrAt 8 top else s)
  else if !w.current s then s
  else
    let s1 := if live then s.st w.ctrAt 8 (top + 1) else s
    let s2 := s1.emit (s1.marked w) (top + 1)
    if w.type = tgOrder then
      let s3 := s2.countOrder w.place
      s3.setFport w.port { s3.fport w.port with orders := (s3.fport w.port).orders + 1 }
    else s2

/-- A telegram sent, or held with those after it to the same station while its counter would pass the reservation in force
(R69). -/
def State.sendOrHold (s : State) (w : HeldTelegram) : State :=
  let before := s.field.waiting.filter (fun x => x.addr == w.addr)
  let top := max (max (s.ld w.ctrAt 8) w.floor) ((before.map (fun x => x.floor + 1)).foldl max 0)
  if before.isEmpty && decide (top + 1 ≤ s.reservation) then s.sendNow w else s.hold { w with floor := top }

/-- A telegram to an entry's station, after TX_CTR is raised to `floor`; where none may go, only the raise is made. -/
def State.telegramFrom (s : State) (g floor type : Nat) (plain : List Byte) : State :=
  if s.mute g then
    if floor ≤ s.gz g 0x28 8 then s
    else if floor ≤ s.reservation then s.gput g 0x28 8 floor
    else s.hold (s.compose0 g floor 0 [])
  else s.sendOrHold (s.compose0 g floor type plain)

/-- A telegram to an entry's station (R297). -/
def State.telegram (s : State) (g type : Nat) (plain : List Byte) : State := s.telegramFrom g 0 type plain

/-- The calendar time of the freeze edge of the present pass, from its image (R215). -/
def State.passTime (s : State) : Nat := s.ld (s.inBase + 0x10) 8

/-- WELCOME to an entry (R291), after TX_CTR is raised to `floor` (R296). -/
def State.welcome (s : State) (g floor echo : Nat) : State :=
  let slot := s.gz g 0x1C 2
  let us := s.rd PASS_PERIOD_PERIOD_MS * 1000
  s.telegramFrom g floor tgWelcome (beBytes 8 s.passTime ++ beBytes 4 us ++ beBytes 4 (slot * us / 4096) ++ beBytes 2 slot ++
    beBytes 2 (s.gz g 0x84 2) ++ beBytes 4 0 ++ beBytes 8 echo)

/-- RETRY_S of a CLOSE reason (R294). -/
def State.retryOf (s : State) (reason : Nat) : Nat :=
  if reason = 2 ∨ reason = 3 ∨ reason = 4 then s.rd FX_CFG_REFUSE_RETRY_S else 0

/-- The plaintext of a CLOSE. -/
def closeText (reason retry floor : Nat) : List Byte :=
  beBytes 1 reason ++ beBytes 1 0 ++ beBytes 2 retry ++ beBytes 4 0 ++ beBytes 8 floor

/-- CLOSE to an entry, at most one in any pass (R294). -/
def State.close (s : State) (g reason : Nat) : State :=
  if s.field.closed.contains g || s.mute g then s
  else
    let s1 := s.telegram g tgClose (closeText reason (s.retryOf reason) (s.gz g 0x30 8 + 1))
    s1.setField { s1.field with closed := g :: s1.field.closed }

/-! Counter reservation (R69). -/

/-- COUNTER_RESERVATION_WRITE (R69): the steward writes the highest TX_CTR of any used entry plus 2²⁴, above the one in
force; it lands in 122.1 µs. The counters that telegrams wait for count as well (DEDUCED, assumption 98). -/
def execCounterReservationWrite (s : State) : Out :=
  let top := (s.gzAll.map (fun g => s.gz g 0x28 8) ++ s.field.waiting.map HeldTelegram.floor).foldl max 0 + 2 ^ 24
  .next (
    if s.field.reserving.isSome || decide (top ≤ s.reservation) then s
    else s.setField { s.field with reserving := some (top, s.now + 146487) })

/-- A reservation put in force. -/
def State.setReservation (s : State) (v : Nat) : State :=
  (((s.setReg CP_CTR_RESERVE_LO (BitVec.ofNat 32 v)).wr CP_CTR_RESERVE_HI_RESERVE (v / 2 ^ 32))).wr CP_CTR_RESERVE_HI_VALID 1

/-- A telegram that waited may still go: with authority, on a port that runs, under a valid key. -/
def HeldTelegram.mayGo (w : HeldTelegram) (s : State) : Bool :=
  w.type == 0 || (s.maySend && s.rootValid && s.rd (FP_CTL_EN w.port) == 1 &&
    (w.room || !w.live s || !s.stations.revoked.contains w.place))

/-- The telegrams that waited for the reservation now in force are sent, in their order (R69), each as an update of its entry
(R129). -/
def State.sendWaiting (s : State) : State :=
  (s.setField { s.field with waiting := [] }).each s.field.waiting (fun t w =>
    if !w.mayGo t then t
    else
      let t1 := t.sendOrHold w
      if w.room || !w.live t then t1 else t1.gupd w.place)

/-- COUNTER_RESERVATION_LANDED (R69): what waited for it is sent. -/
def execCounterReservationLanded (s : State) : Out :=
  .next (
    match s.field.reserving with
    | none => s
    | some (v, due) =>
      if s.now < due then s
      else ((s.setReservation v).setField { s.field with reserving := none }).sendWaiting)

/-! Queues (R285, R305). -/

/-- The room a frame takes in a receive queue: 64-byte units behind a 16-byte descriptor. -/
def frameRoom (f : RxFrame) : Nat := (16 + f.bytes.length + 63) / 64 * 64

/-- The bytes in use of a port's queue. -/
def FieldPort.level (p : FieldPort) : Nat := sumN (p.queue.map frameRoom)

/-- FP_RXQ shows the level in whole KiB, rounded up, and the high-water mark. -/
def State.showQueue (s : State) (n : Nat) : State :=
  let k := ((s.fport n).level + 1023) / 1024
  (s.wr (FP_RXQ_LEVEL_KIB n) k).raise (FP_RXQ_HIGH_KIB n) k

/-- A dropped frame counted. -/
def State.drop (s : State) (n : Nat) (f : Fld) : State :=
  (s.bump f 1).setFport n { s.fport n with dropped := satAdd 32 (s.fport n).dropped 1 }

/-- A frame is a PAUSE frame (R284). -/
def isPause (bs : List Byte) : Bool := frameSound bs && frameDest bs == pauseMac && beU bs 12 2 == pauseType

/-- FRAME_RECEIVE (R284, R285, R305): a frame as it is on the wire, its FCS with it; a stopped port receives nothing. -/
def execFrameReceive (port : Fin 4) (frame : List Byte) (s : State) : Out :=
  let n := port.val
  let p := s.fport n
  let f : RxFrame := ⟨frame.take (frame.length - 4), s.cal⟩
  .next (
    if s.rd (FP_CTL_EN n) = 0 ∨ s.rd (FP_STAT_LINK n) = 0 then s
    else if isPause frame then s.drop n (FP_CNT_PAUSE_COUNT n)
    else if !frameSound frame || !s.macAdmitted n (frameDest frame) then s.drop n (FP_CNT_BAD_COUNT n)
    else if 0x200000 < p.level + frameRoom f then
      let s1 := s.drop n (FP_CNT_QDROP_COUNT n)
      if p.qdrop then s1 else (s1.recordFault 0 bField 0 n).setFport n { s1.fport n with qdrop := true }
    else ((s.setFport n { p with queue := p.queue ++ [f] }).bump (FP_CNT_RX_COUNT n) 1).showQueue n)

/-- The frame at the head leaves the queue. -/
def State.popFrame (s : State) (n : Nat) : State :=
  (s.setFport n { s.fport n with queue := (s.fport n).queue.drop 1 }).showQueue n

/-- LEN that a TYPE fixes at the controller; none for a type that fails the header check. -/
def lenOf (type : Nat) : Option Nat := if type = tgHello then some 32 else if type = tgReport then some 128 else none

/-- Step 4 of R295, of the payload of a datagram. -/
def headerOk (d : List Byte) (udpLen : Nat) : Bool :=
  let len := beU d 14 2
  beU d 0 2 == 0x4E46 && beU d 2 1 == 1 && lenOf (beU d 3 1) == some len && udpLen == 56 + len && beU d 13 1 == 0xFF &&
    beU d 24 8 == 0

/-- A telegram that has arrived (R287): type, station, key generation, counter, and its plaintext where its tag verifies
under the key derived for the station at that generation (R288). -/
structure Telegram where
  type : Nat
  addr : Nat
  keyGen : Nat
  ctr : Nat
  plain : Option (List Byte)
deriving DecidableEq, Repr

/-- The telegram of a payload. -/
def State.telegramOf (s : State) (d : List Byte) : Telegram :=
  let addr := beU d 4 8
  let gen := beU d 12 1
  let ctr := beU d 16 8
  ⟨beU d 3 1, addr, gen, ctr, gcmOpen (s.stationKey addr gen) (telegramIv 1 ctr) (d.take 32) (d.drop 32)⟩

/-- The entry of a station address. -/
def State.entryOf (s : State) (addr : Nat) : Option Nat :=
  if addr = 0 then none else s.gzAll.find? (fun g => s.gz g 0 8 == addr)

/-- What the checks of R295 make of a telegram: the counter of its drop, or the entry it passes for, or a HELLO from an
unknown station. -/
inductive Passed where
  | dropped (f : Fld)
  | known (g : Nat)
  | unknown
deriving DecidableEq, Repr

/-- Steps 5 to 8 of R295. -/
def State.checkStation (s : State) (n src : Nat) (t : Telegram) : Passed :=
  match s.entryOf t.addr with
  | none => if t.type = tgHello then .unknown else .dropped (FP_CNT_UNKNOWN_COUNT n)
  | some g =>
    if s.gz g 0x1E 1 ≠ n ∨ s.ip6 (gazAddr g + 8) ≠ src then .dropped (FP_CNT_SRC_COUNT n)
    else if t.keyGen ≠ s.gz g 0x23 1 ∨ !s.stationKeyOk g ∨ t.plain = none then .dropped (FP_CNT_AUTH_COUNT n)
    else if t.ctr ≤ s.gz g 0x30 8 then .dropped (FP_CNT_REPLAY_COUNT n)
    else .known g

/-- Steps 3 to 8 of R295. -/
def State.checkTelegram (s : State) (n : Nat) (p : Packet) : Passed :=
  if p.udpPort ≠ 4810 then .dropped (FP_CNT_OTHER_COUNT n)
  else if !p.udpOk || !headerOk p.udpData p.udpLen then .dropped (FP_CNT_BAD_COUNT n)
  else s.checkStation n p.src (s.telegramOf p.udpData)

/-- Frames at the head that fail the checks are dropped and counted, up to the first that passes. -/
def State.skipBad (s : State) (n : Nat) : Nat → State
  | 0 => s
  | k + 1 =>
    match (s.fport n).queue with
    | [] => s
    | f :: _ =>
      match s.carried n f.bytes with
      | .other => ((s.popFrame n).drop n (FP_CNT_OTHER_COUNT n)).skipBad n k
      | .udp p =>
        (match s.checkTelegram n p with
         | .dropped c => ((s.popFrame n).drop n c).skipBad n k
         | _ => s)
      | _ => s

/-- The engine of a port brought to the first frame that passes. -/
def State.portHead (s : State) (n : Nat) : State := s.skipBad n ((s.fport n).queue.length)

/-! Learning (R295, R306). -/

/-- Step 8 passed: RX_CTR and the source MAC address are recorded. -/
def State.learn (s : State) (g mac ctr : Nat) : State :=
  ((s.gput g 0x30 8 ctr).putBytes (linkAddr g) (beBytes 6 mac ++ [1, 0]))

/-! The waiting room (R303). -/

/-- STATION_ADDR of a slot; 0 where it is free. -/
def State.wrStation (s : State) (k : Nat) : Nat := s.ld (wrAddr k) 8

/-- The slots in use, ascending. -/
def State.wrUsed (s : State) : List Nat := (s.listedRecords (wrAddr 0) 64 256).filter (fun k => s.wrStation k != 0)

/-- A slot freed. -/
def State.wrFree (s : State) (k : Nat) : State :=
  let s1 := s.clearMem (wrAddr k) 64
  s1.wr FX_STAT_WR_USED s1.wrUsed.length

/-- A telegram from a slot's counters to the source of its last HELLO (DESIGN CHOICE for its MAC address, assumption 98);
it waits for the reservation like any other (R69). -/
def State.wrTelegram (s : State) (k type : Nat) (plain : List Byte) : State :=
  let a := wrAddr k
  let n := s.ld (a + 0x18) 1
  let mac := (s.field.roomMacs.lookup k).getD 0
  if !s.maySend || !s.rootValid || s.rd (FP_CTL_EN n) == 0 then s
  else s.sendOrHold ⟨true, k, n, mac, s.ip6 (a + 8), s.wrStation k, s.ld (a + 0x19) 1, 0, type, plain⟩

/-- A HELLO written into a slot. -/
def State.wrPut (s : State) (k n src mac : Nat) (t : Telegram) (plain : List Byte) : State :=
  let a := wrAddr k
  let s1 := ((((((s.putBytes (a + 8) (beBytes 16 src)).st (a + 0x18) 1 n).st (a + 0x19) 1 t.keyGen).putBytes (a + 0x1C)
    (leBytes 4 (ofBeBytes (plain.take 4)))).st (a + 0x28) 8 s.time).st (a + 0x30) 8 t.ctr)
  s1.setField { s1.field with roomMacs := (k, mac) :: s1.field.roomMacs.filter (fun x => x.1 != k) }

/-- WAIT from a slot (R294). -/
def State.wrWait (s : State) (k : Nat) : State :=
  s.wrTelegram k tgWait (beBytes 1 k ++ beBytes 1 0 ++ beBytes 2 30 ++ beBytes 4 0 ++ beBytes 8 0)

/-- A HELLO dropped with the room full is counted among the port's dropped frames (R307). -/
def State.wrFull (s : State) (n : Nat) : State :=
  let s1 := s.drop n FX_WR_CNT_FULL
  if s.field.fullSeen then s1 else (s1.recordFault 0 bField 0 0).setField { s1.field with fullSeen := true }

/-- A HELLO from an address with no used entry (R303). -/
def State.wrHello (s : State) (n src mac : Nat) (t : Telegram) : State :=
  match (if s.rootValid then t.plain else none) with
  | none => s.drop n (FP_CNT_AUTH_COUNT n)
  | some plain =>
    match (List.range 256).find? (fun k => s.wrStation k == t.addr) with
    | some k =>
      if t.ctr ≤ s.ld (wrAddr k + 0x30) 8 then s.drop n (FP_CNT_REPLAY_COUNT n)
      else (s.wrPut k n src mac t plain).wrWait k
    | none =>
      match (List.range 256).find? (fun k => s.wrStation k == 0) with
      | some k =>
        let s1 := ((s.wrPut k n src mac t plain).st (wrAddr k) 8 t.addr).st (wrAddr k + 0x20) 8 s.time
        let s2 := s1.st (wrAddr k + 0x38) 8 (ofBeBytes ((plain.drop 0x10).take 8) - 1)
        (((s2.bump FX_WR_CNT_ENTERED 1).wr FX_STAT_WR_USED s2.wrUsed.length).raiseVec false 4).wrWait k
      | none => s.wrFull n

/-- WAITING_ROOM_AGE_EXPIRY (R303): LAST_SEEN is more than WR_AGE_M minutes ago. -/
def execWaitingRoomAgeExpiry (slot : Fin 256) (s : State) : Out :=
  let k := slot.val
  .next (
    if s.wrStation k ≠ 0 ∧ s.ld (wrAddr k + 0x28) 8 + s.rd FX_CFG_WR_AGE_M * minuteUnits < s.time then s.wrFree k else s)

/-! Telegrams in sessions (R296, R300). -/

/-- The unit keeps its entries from its own reception: not as a standby or joining unit of a pair (R358). -/
def State.ownField (s : State) : Bool := !(s.prState == prStandby || s.prState == prJoining)

/-- An authentic HELLO to an entry: TX_CTR is raised to RX_FLOOR, with the WELCOME where a reservation must come first. -/
def State.helloTo (s : State) (g mac ctr : Nat) (plain : List Byte) : State :=
  let s1 := s.learn g mac ctr
  (if s1.presence g = prDisabled then s1.close g 4
   else (s1.setSession g seWelcomed).welcome g (ofBeBytes ((plain.drop 0x10).take 8)) ctr).gupd g

/-- The energy of a report of a billing entry (R345). -/
def State.billing (s : State) (g : Nat) (p : List Byte) : State :=
  let e (k : Nat) : Nat := ofBeBytes ((p.drop (0x38 + 12 * k)).take 12)
  let old (k : Nat) : Nat := s.gz g (0xA0 + 12 * k) 12
  let rev := ofBeBytes ((p.drop 0x34).take 4)
  if (List.range 6).all (fun k => decide (old k ≤ e k)) && decide (s.gz g 0xE8 4 ≤ rev) then
    let s1 := s.each (List.range 6) (fun t k =>
      let t1 := t.gput g (0xA0 + 12 * k) 12 (e k)
      if e k = 2 ^ 96 - 1 then t1.gput g 0xEC 4 (t1.gz g 0xEC 4 ||| 2 ^ k) else t1)
    (s1.gput g 0xE8 4 rev).gput g 0xF0 8 (ofBeBytes (p.take 8))
  else
    let s1 := s.bump MT_CNT_STEPBACK_COUNT 1
    if s.field.stepped.contains g then s1
    else (s1.recordFault 0 bMeter E_STEPBACK g).setField { s1.field with stepped := g :: s1.field.stepped }

/-- A REPORT applied to its entry as one update (R300). -/
def State.applyReport (s : State) (g n : Nat) (p : List Byte) : State :=
  let valid := ofBeBytes ((p.drop 0x28).take 4) % 256
  let s1 := s.each ((List.range 8).filter (fun i => bitOf valid i)) (fun t i =>
    t.gput g (0x38 + 4 * i) 4 (ofBeBytes ((p.drop (8 + 4 * i)).take 4)))
  let s2 := (s1.gput g 0x5C 1 valid).gput g 0x9C 4 (ofBeBytes ((p.drop 0x2C).take 4))
  let s3 := s2.gput g 0x24 4 (s2.reg GLOBAL_PASS_CNT_LO).toNat
  let ctl := s3.gz g 0x84 4
  let s4 := if bitOf ctl 16 && ofBeBytes ((p.drop 0x30).take 2) == ctl % 65536 then s3.gput g 0x84 4 (putBits ctl 16 16 0) else s3
  let s5 := if s4.gz g 0x1B 1 % 2 = 1 then s4.billing g p else s4
  let s6 := (s5.setSession g seOpen).gupd g
  (s6.setFport n { s6.fport n with accepted := (s6.fport n).accepted + 1 }).setField
    { (s6.setFport n { s6.fport n with accepted := (s6.fport n).accepted + 1 }).field with
      reported := addOnce s6.field.reported g }

/-- Passes have stopped for a power-fail save, and no report is applied (R65, R300). -/
def State.saving (s : State) : Bool := s.rd CP_BOOT_STAT_STAGE == 0xB || s.rd CP_BOOT_STAT_STAGE == 0xC

/-- An authentic REPORT to an entry. -/
def State.reportTo (s : State) (g n mac ctr : Nat) (plain : List Byte) : State :=
  let s1 := s.learn g mac ctr
  let se := s1.gz g 0x22 1
  if s1.presence g = prDisabled then (s1.drop n (FP_CNT_NOSESS_COUNT n)).gupd g
  else if se = seWelcomed ∨ se = seOpen then (if s1.saving then s1.gupd g else s1.applyReport g n plain)
  else (((s1.drop n (FP_CNT_NOSESS_COUNT n)).close g 1).setSession g seClosed).gupd g

/-- A standby's own reception feeds only its comparison image (R358, R359): the station has been heard. -/
def State.hear (s : State) (g : Nat) : State :=
  { s with pair := { s.pair with heard := (g, 0) :: s.pair.heard.filter (fun h => h.1 != g) } }

/-- The telegram at the head of a port's queue, if it is of a type, is taken and handled. -/
def State.takeTelegram (s : State) (n type : Nat) : State :=
  let s0 := s.portHead n
  match (s0.fport n).queue with
  | [] => s0
  | f :: _ =>
    match s0.carried n f.bytes with
    | .udp p =>
      let t := s0.telegramOf p.udpData
      let mac := frameSource f.bytes
      let plain := t.plain.getD []
      if t.type ≠ type then s0
      else
        let s1 := s0.popFrame n
        (match s0.checkTelegram n p with
         | .dropped _ => s1
         | .unknown => if s0.ownField then s1.wrHello n p.src mac t else s1
         | .known g =>
           if !s0.ownField then (if type = tgReport then s1.hear g else s1)
           else if type = tgHello then s1.helloTo g mac t.ctr plain
           else s1.reportTo g n mac t.ctr plain)
    | _ => s0

/-- HELLO (R296, R303). -/
def execHello (port : Fin 4) (s : State) : Out := .next (s.takeTelegram port tgHello)

/-- REPORT (R296, R300). -/
def execReport (port : Fin 4) (s : State) : Out := .next (s.takeTelegram port tgReport)

/-! Neighbor Discovery, MLD, Echo and PTP (R284, R286). -/

/-- NEIGHBOR_DISCOVERY (R284): a message for the port's addresses is answered. -/
def execNeighborDiscovery (port : Fin 4) (s : State) : Out :=
  let n := port.val
  let s0 := s.portHead n
  .next (
    match (s0.fport n).queue with
    | [] => s0
    | f :: _ =>
      match s0.carried n f.bytes with
      | .neighbor p => (s0.popFrame n).neighborReply n (frameSource f.bytes) p
      | .mld p => (s0.popFrame n).mldReply n p
      | _ => s0)

/-- ECHO_REQUEST (R284): answered to at most 10 per second; one beyond them is dropped. -/
def execEchoRequest (port : Fin 4) (s : State) : Out :=
  let n := port.val
  let s0 := s.portHead n
  .next (
    match (s0.fport n).queue with
    | [] => s0
    | f :: _ =>
      match s0.carried n f.bytes with
      | .echo p =>
        let s1 := s0.popFrame n
        let recent := (s1.fport n).echoes.filter (fun t => decide (s.now < t + cycPerS))
        if 10 ≤ recent.length then s1.setFport n { s1.fport n with dropped := satAdd 32 (s1.fport n).dropped 1 }
        else (s1.setFport n { s1.fport n with echoes := s.now :: recent }).echoReply n (frameSource f.bytes) p
      | _ => s0)

/-- PTP_MESSAGE (R286): handled with its arrival timestamp; the correction in SYS cycles is the one the discipline makes
where it corrects the calendar time (R438; the discipline's law is not given, assumption 99). -/
def execPtpMessage (port : PtpInput) (s : State) : Out :=
  let n := port.port.val
  let s0 := s.portHead n
  .next (
    match (s0.fport n).queue with
    | [] => s0
    | f :: _ =>
      match s0.carried n f.bytes with
      | .ptp m => (s0.popFrame n).ptpHandle n (stampNs f.time) port.correction m
      | _ => s0)

/-! Ports (R284, R308). -/

/-- EN goes to 1. -/
def State.portStart (s : State) (n : Nat) : State :=
  let role := s.rd (FP_CTL_PTP_ROLE n)
  ((s.wr (FP_CTL_EN n) 1).wr (FP_STAT_PTP_STATE n) (if role = 1 then ptpListening else if role = 2 then ptpMaster else ptpOff)).setFport
    n { s.fport n with enabledAt := s.now, lockRun := 0, ptp := { ptpPort0 with dueAnnounce := s.now, dueSync := s.now } }

/-- EN goes to 0: a stopped port receives and sends nothing. -/
def State.portStop (s : State) (n : Nat) : State :=
  let s1 := ((s.ptpUnlock n).wr (FP_CTL_EN n) 0).wr (FP_STAT_PTP_STATE n) ptpOff
  ((s1.wr (FP_STAT_LINK n) 0).wr (FP_STAT_AN_DONE n) 0).endFault bField 0 n

/-- PORT_LINK_UP (R308): the port's report group is joined on the link, by an MLD report (R284). -/
def execPortLinkUp (port : Fin 4) (anDone : Bool) (s : State) : Out :=
  let n := port.val
  .next (
    if s.rd (FP_CTL_EN n) = 0 then s
    else (((((s.wr (FP_STAT_LINK n) 1).wr (FP_STAT_AN_DONE n) (b2n (anDone && s.rd (FP_CTL_SPEED n) == 1))).wr
      (FP_STAT_LOS n) 0).wr (FP_STAT_MOD_ABS n) 0).endFault bField 0 n).mldReport n 4)

/-- PORT_LINK_DOWN (R308): an enabled port loses its link, which lasts as F1 until it comes up. -/
def execPortLinkDown (port : Fin 4) (los absent : Bool) (s : State) : Out :=
  let n := port.val
  let s1 := (s.wr (FP_STAT_LOS n) (b2n los)).wr (FP_STAT_MOD_ABS n) (b2n absent)
  .next (
    if s.rd (FP_CTL_EN n) = 0 ∨ s.rd (FP_STAT_LINK n) = 0 then s1
    else (((s1.ptpUnlock n).wr (FP_STAT_LINK n) 0).wr (FP_STAT_AN_DONE n) 0).startFault 1 bField 0 n)

/-- PORT_LINK_TIMEOUT (R308): the link has not come up within 2 s of EN. -/
def execPortLinkTimeout (port : Fin 4) (s : State) : Out :=
  let n := port.val
  .next (
    if s.rd (FP_CTL_EN n) = 1 ∧ s.rd (FP_STAT_LINK n) = 0 ∧ (s.fport n).enabledAt + 2 * cycPerS ≤ s.now ∧
        !s.active.contains ⟨1, bField, 0, n⟩ then s.startFault 1 bField 0 n
    else s)

/-! The freeze edge (R299, R130, R216, R307). -/

/-- Presence, MISSED and INPUT_AGE of one used entry at a freeze edge (R299). -/
def State.presenceStep (s : State) (g : Nat) : State :=
  let p := s.presence g
  if p = prUnused ∨ p = prDisabled then s
  else if s.field.reported.contains g then
    ((s.gput g 0x21 1 0).gput g 0x58 4 0).gput g 0x20 1 prPresent
  else
    let s1 := s.gput g 0x58 4 (satAdd 32 (s.gz g 0x58 4) 1)
    if p = prExpected then s1
    else
      let m := satAdd 8 (s1.gz g 0x21 1) 1
      let s2 := s1.gput g 0x21 1 m
      if s.gz g 0x1F 1 ≤ m then
        (if p = prAbsent then s2
         else ((s2.gput g 0x20 1 prAbsent).recordFault 0 bField 0 g).bump FX_ABSENT_CNT_COUNT 1)
      else if p = prAbsent then s2
      else s2.gput g 0x20 1 prLate

/-- The value and the substitution of input i that the image shows (R130). -/
def State.shown (s : State) (g i : Nat) : Nat × Bool :=
  let p := s.presence g
  let valid := bitOf (s.gz g 0x5C 4) i
  let mode := (s.gz g 0x80 2) / 4 ^ i % 4
  let v := s.gz g (0x38 + 4 * i) 4
  let sub := s.gz g (0x60 + 4 * i) 4
  if (p = prPresent ∨ p = prLate) && valid then (v, false)
  else if mode = 0 then (v, false)
  else if mode = 1 then (sub, true)
  else if valid && decide (s.gz g 0x58 4 ≤ s.gz g 0x82 2) then (v, false)
  else (sub, true)

/-- The input record of an entry (R216), with the substitutions written back to INPUT_VALID. -/
def State.gazFreezeOne (s : State) (base g : Nat) : State :=
  let xs := (List.range 8).map (s.shown g)
  let subs := sumN (xs.zipIdx.map (fun x => b2n x.1.2 * 2 ^ x.2))
  let p := s.presence g
  let ctl := s.gz g 0x84 4
  let w := b2n (p == prPresent || p == prLate) + 2 * p + 256 * subs + 65536 * bitsOf ctl 16 16 + 2 ^ 20 * bitsOf ctl 23 20
  let rec_ := (xs.map (fun x => leBytes 4 x.1)).flatten ++ leBytes 4 (s.gz g 0x58 4) ++ leBytes 4 w ++
    leBytes 4 (s.gz g 0x9C 4) ++ leBytes 4 (s.gz g 0x24 4) ++ leBytes 4 (s.gz g 0xE8 4) ++ leBytes 4 (s.gz g 0xEC 4) ++
    leBytes 8 0
  ((s.gput g 0x5D 1 subs).gupd g).putBytes (base + 0x30000 + 64 * g) rec_

/-- The status record of a port (R307). -/
def State.portRecord (s : State) (n : Nat) : List Byte :=
  let p := s.fport n
  let locked := s.rd (FP_STAT_PTP_STATE n) == ptpLocked
  let mine := s.gzAll.filter (fun g => s.gz g 0x1E 1 == n)
  let count (x : Nat) : Nat := (mine.filter (fun g => s.presence g == x)).length
  leBytes 4 (s.rd (FP_STAT_LINK n) + 2 * b2n locked + 4 * b2n (s.rd (FP_CTL_PTP_ROLE n) == 1)) ++
    leBytes 4 (s.rd (FP_RXQ_LEVEL_KIB n)) ++ leBytes 4 p.accepted ++ leBytes 4 p.dropped ++ leBytes 4 p.orders ++
    leBytes 4 (count prPresent) ++ leBytes 4 (count prLate) ++ leBytes 4 (count prAbsent) ++ leBytes 32 0

/-- The field part of a freeze: presence moves, the entries and the field block are placed in the image at `base`, and what
counts from edge to edge starts again. -/
def State.fieldFreeze (s : State) (base : Nat) : State :=
  let used := s.gzAll
  let s1 := if s.ownField then s.each used State.presenceStep else s
  let s2 := (s1.clearMem (base + 0x30000) 0x100000).each used (fun t g => t.gazFreezeOne base g)
  let s3 := (s2.clearMem (base + 0x1E0000) 0x10000).putBytes (base + 0x1E0000)
    (((List.range 4).map s2.portRecord).flatten ++ leBytes 4 s2.wrUsed.length)
  let s4 := s3.copyMem (wrAddr 0) (base + 0x1E1000) 0x4000
  s4.setField { s4.field with
    reported := [], closed := [], stepped := [], fullSeen := false,
    ports := s4.field.ports.map (fun p => { p with accepted := 0, dropped := 0, orders := 0, qdrop := false }) }

/-! Orders (R301, R302). -/

/-- One SEND of the output buffer taken (R301). -/
def State.takeOrder (s : State) (g : Nat) : State :=
  let a := s.outBase + 0x30000 + 32 * g
  if !s.gzUsed g || s.presence g == prDisabled || s.gz g 0x1B 1 / 2 % 2 == 0 then s.bump FX_ORD_CNT_REJECTED 1
  else
    let ctl := s.gz g 0x84 4
    let s1 := if bitOf ctl 16 then s.bump FX_ORD_CNT_SUPERSEDED 1 else s
    let s2 := (s1.putBytes (gazAddr g + 0x88) (s.bytes a 16)).gput g 0x84 4 ((ctl + 1) % 65536 + 65536)
    let s3 := (s2.gput g 0x98 4 (s.reg GLOBAL_PASS_CNT_LO).toNat).gupd g
    s3.setField { s3.field with sent := s3.field.sent.filter (fun x => x != g) }

/-- The orders of the output buffer taken, entry by entry. -/
def State.takeOrders (s : State) : State :=
  let recs := s.listedRecords (s.outBase + 0x30000) 32 16384
  s.each (recs.filter (fun g => s.ld (s.outBase + 0x30000 + 32 * g + 0x10) 1 % 2 == 1)) State.takeOrder

/-- One pending order sent, or withheld for its key (R302, R309). A unit that holds no authority updates its entry in the same
way and transmits nothing; an order that a stopped port or the reservation withholds is not counted as sent. -/
def State.sendOrder (s : State) (g : Nat) : State :=
  let n := s.gz g 0x1E 1
  if !s.stationKeyOk g then s.bump (FP_CNT_KEY_COUNT n) 1
  else if !s.maySend then (s.countOrder g).gupd g
  else
    (s.telegram g tgOrder (beBytes 2 (s.gz g 0x84 2) ++ beBytes 2 0 ++ beBytes 4 (s.gz g 0x98 4) ++
      (List.range 4).flatMap (fun k => beBytes 4 (s.gz g (0x88 + 4 * k) 4)) ++ beBytes 8 s.time)).gupd g

/-- The pending orders of every entry that may have one now (R302). -/
def State.sendOrders (s : State) : State :=
  s.each (s.gzAll.filter (fun g =>
    let p := s.presence g
    let se := s.gz g 0x22 1
    bitOf (s.gz g 0x84 4) 16 && (se == seWelcomed || se == seOpen) && (p == prPresent || p == prLate || p == prAbsent)))
    State.sendOrder

/-- The pending orders dropped at entry to STOP (R245, R302). -/
def State.dropOrders (s : State) : State :=
  s.each (s.gzAll.filter (fun g => bitOf (s.gz g 0x84 4) 16)) (fun t g =>
    (t.gput g 0x84 4 (putBits (t.gz g 0x84 4) 16 16 0)).gupd g)

/-! Changes at a headland and at a restart (R296, R297, R298, R395). -/

/-- An unsolicited WELCOME to each entry in OPEN, when PERIOD_MS takes effect (R298). -/
def State.welcomeAll (s : State) : State :=
  s.each (s.gzAll.filter (fun g => s.gz g 0x22 1 == seOpen)) (fun t g => (t.welcome g 0 0).gupd g)

/-- The new key generations and a new FIELD_ROOT take effect (R395, R296); the session of a DISABLED entry stays. -/
def State.stationHeadland (s : State) : State :=
  let s1 := s.each s.stations.rekey (fun t x =>
    if !t.gzUsed x.1 || t.gz x.1 0x23 1 == x.2 then t
    else
      let t1 := if t.presence x.1 = prDisabled then t else (t.close x.1 6).setSession x.1 seClosed
      (t1.gput x.1 0x23 1 x.2).gupd x.1)
  let s2 := if s.stations.newRoot then
      s1.each s1.gzAll (fun t g => (t.setSession g seNone).gupd g) else s1
  { s2 with stations := { s2.stations with rekey := [], newRoot := false } }

/-- GAZ_STAT and GAZ_PRESENT brought up to date (chapter 5, Registers). -/
def State.showGaz (s : State) : State :=
  let used := s.gzAll
  let count (p : Nat) : Nat := (used.filter (fun g => s.presence g == p)).length
  (((s.wr GAZ_STAT_USED used.length).wr GAZ_STAT_ABSENT (count prAbsent)).wr GAZ_PRESENT_PRESENT (count prPresent)).wr
    GAZ_PRESENT_LATE (count prLate)

end Sys2Proof.Machine
end

