-- ==== Sys2Proof/Machine/Modes.lean ====
section
/-! DEFINITION. The phases of a pass up to the end of output write, forced stops and the pass watchdog (R21 to R24, R214,
R215, R219, R220, R245 to R254). -/

namespace Sys2Proof.Machine

/-- The state with the pass replaced. -/
def State.setPass (s : State) (p : Pass) : State := { s with pass := p }

/-- PASS_PHASE.PHASE set. -/
def State.setPhase (s : State) (p : Nat) : State := s.wr PASS_PHASE_PHASE p

/-- CP_BOOT_STAT.STAGE set, with vector 2 where it changes (R41, R100). -/
def State.setStage (s : State) (n : Nat) : State :=
  if s.rd CP_BOOT_STAT_STAGE = n then s else (s.wr CP_BOOT_STAT_STAGE n).raiseVec false 2

/-- GLOBAL_PASS_CNT. -/
def State.passNo (s : State) : Nat := s.rd64 GLOBAL_PASS_CNT_LO GLOBAL_PASS_CNT_HI

/-! Forced stops (R246, R248, R251). -/

/-- Pending class-A values of one register discarded. -/
def State.dropPending (s : State) (off : Nat) : State :=
  { s with fabric := { s.fabric with
      pendA := s.fabric.pendA.filter (fun p => p.off != off),
      pendNow := s.fabric.pendNow.filter (fun p => p.off != off) } }

/-- Entry to STOP (R246, R251, R302): safe values in both buffers, pending orders dropped, ungated cores restarted. -/
def State.enterStop (s : State) (cause : Nat) : State :=
  ((((s.setMode modeStop).wr PASS_MODE_STAT_STOP_CAUSE cause).safeBuffers).dropOrders).each allCores
    (fun t n => t.restartCore n false)

/-- A forced STOP (R248): the pending request is discarded and REQ becomes STOP. -/
def State.forceStop (s : State) (cause : Nat) : State :=
  ((s.enterStop cause).dropPending PASS_MODE_CTL).wr PASS_MODE_CTL_REQ modeStop

def stopRequest : Nat := 0
def stopRestart : Nat := 1
def stopFault : Nat := 2
def stopWatchdog : Nat := 3
def stopFatal : Nat := 4
def stopPower : Nat := 5
def stopDefaulted : Nat := 6

/-! Output write (R219). -/

/-- The SEND bits of an output buffer cleared: plant bus requests and field orders. -/
def State.clearSends (s : State) (base : Nat) : State :=
  let s1 := s.each (s.listedRecords (base + 0x6000) 80 2048) (fun t k =>
    let a := base + 0x6000 + 80 * k
    t.putByte a (t.byte a &&& 0xFE))
  s1.each (s1.listedRecords (base + 0x30000) 32 16384) (fun t k =>
    let a := base + 0x30000 + 32 * k + 0x10
    t.putByte a (t.byte a &&& 0xFE))

/-- The buffer of the pass copied into the other one, which the next pass writes (R219). -/
def State.turnBuffers (s : State) : State :=
  let s1 := (s.copyMem s.outBase s.outBaseOther 0x200000).clearSends s.outBaseOther
  s1.setPass { s1.pass with outBuf := !s1.pass.outBuf }

/-- AUTH_OUT asserted at the output edge of a pass run as ACTIVE (R367, R369); never while a boundary-scan instruction
has the pins (R436). -/
def State.takeAuthority (s : State) : State :=
  if s.paired && s.prState == prActive && s.rd GLOBAL_MODE_AUTH == 0 && !s.scan then
    let s1 := (s.setAuth true).busTakeAuth
    match s1.pair.trigger with
    | none => s1
    | some t =>
      ((s1.bump PAIR_SWITCH_COUNT 1).wr PAIR_SWITCH_GAP_US (min ((s.now - t) / cycPerUs) 0xFFFFFF)).setPair
        { s1.pair with trigger := none }
  else s

/-- The logic phase ends after some µs, as PASS_LOGIC_TIME shows. -/
def State.logicTime (s : State) (us : Nat) : State :=
  let s1 := (s.wr PASS_LOGIC_TIME_LAST_US (min us 0xFFFF)).raise PASS_LOGIC_TIME_MAX_US us
  s1.setPass { s1.pass with lastLogicUs := us }

/-- The values of a pass go out (R219, R243, R245, R248): the output block and the requests of a pass of RUN without a
fault, nothing new in HOLD, safe values otherwise. A unit of a pair without authority drives and sends nothing (R354), but it
updates its entries in the same way (R302); a standby's hold committed state only (R358). -/
def State.sendOut (s : State) : State :=
  let used := s.rd PASS_MODE_STAT_MODE == modeRun && !s.pass.faulted && !s.pass.fatal
  let s1 := if used then s.loopsCommands else s
  if s.paired && s.prState == prStandby then s1
  else if !s.maySend then
    if used then s1.canTakeRequests.takeOrders.sendOrders
    else if s.rd PASS_MODE_STAT_MODE == modeHold && !s.pass.fatal then s1.sendOrders
    else s1
  else if used then ((s1.driveBlock (s1.bytes s1.outBase 112)).canTakeRequests).takeOrders.sendOrders
  else if s.rd PASS_MODE_STAT_MODE == modeHold && !s.pass.fatal then s1.sendOrders
  else s1.driveBlock s1.outputs.safe

/-- The logic phase has ended, and output write begins with the output edge (R21, R23, R219). -/
def State.beginOutput (s : State) : State :=
  let us := if s.rd PASS_PHASE_PHASE = phLogic then (s.now - s.pass.logicAt) / cycPerUs else 0
  let s0 := s.setPass { s.pass with outAt := s.now }
  ((((s0.logicTime us).setPhase phOutput).takeAuthority).sendOut).turnBuffers

/-- An F3 fault (R11, R12, R248, R279, R367): STOP at once, engines to FAULT, all outputs at safe values; a logic phase in
progress ends, no later pass runs the pass program, and a lesser fault of the pass decides nothing any more. -/
def State.fatalFault (s : State) (source code info : Nat) : State :=
  let s1 := (((s.recordFault 3 source code info).enginesFault causeFatal).allSafe.yieldOnFault).forceStop stopFatal
  let s2 := s1.setPass { s1.pass with fatal := true, faulted := false }
  if s2.rd PASS_PHASE_PHASE = phLogic then s2.beginOutput else s2

/-! Input freeze (R22, R214, R215). -/

/-- The input header at a freeze edge. -/
def State.header (s : State) (gpio : BitVec 64) (campaign : Nat) : List Byte :=
  let flags := b2n s.pass.first + 2 * s.rd CP_BOOT_STAT_RESTART_KIND + 8 * b2n (campaign != s.pass.lastCampaign) +
    16 * s.rd GLOBAL_MODE_AUTH + 32 * s.rd GLOBAL_MODE_ROLE + 64 * b2n s.pass.exchanged
  leBytes 8 s.passNo ++ leBytes 8 (s.rd64 PASS_MS_LO PASS_MS_HI) ++ leBytes 8 s.time ++ leBytes 4 s.pass.period ++
    leBytes 4 flags ++ leBytes 4 campaign ++ leBytes 4 (s.reg ATLAS_GEN).toNat ++ leBytes 8 gpio.toNat ++
    leBytes 4 s.pass.lastLogicUs ++ leBytes 204 0

/-- The image of the pass composed at `base` (R214); the set-point table stands in both buffers already (R206). -/
def State.compose (s : State) (gpio : BitVec 64) (base : Nat) : State :=
  let s1 := ((((s.fieldFreeze base).canFreeze base).meterFreeze base).loopsFreeze base).summaryFreeze base
  let s2 := s1.copyMem (s1.outBase + 0x1000) (base + 0x1F0000) 0x4000
  let campaign := s2.ld (base + 0x190004) 4
  let s3 := s2.putBytes base (s2.header gpio campaign)
  (s3.setPass { s3.pass with lastCampaign := campaign, first := false, exchanged := false }).showGaz

/-- The first freeze edge after a restart reaches RUNNING (R41, R43, R57). -/
def State.reachRunning (s : State) : State :=
  if s.pass.first then
    ((s.setStage 9).wr CP_BOOT_STAT_SEED_DEFAULTED 0).setReg CP_BOOT_TIME
      (BitVec.ofNat 32 ((s.now - s.boot.startAt) / cycPerUs))
  else s

/-- The pass count and PASS_MS at a freeze edge (R231): the time since the last freeze edge is added exactly. -/
def State.countPass (s : State) : State :=
  let p := s.pass
  let acc := if p.first then p.msAcc else p.msAcc + (s.now - p.freezeAt)
  let s1 := (s.wr64 GLOBAL_PASS_CNT_LO GLOBAL_PASS_CNT_HI (s.passNo + 1)).wr64 PASS_MS_LO PASS_MS_HI (acc / cycPerMs)
  s1.setPass { s1.pass with msAcc := acc, freezeAt := s.now, faulted := false }

/-- A pass starts at the freeze edge (R21, R22): the unit's own image is swapped in, the furrows advance, and the
active unit of a pair sends ALIGN (R355, R360). -/
def State.startPass (s : State) (gpio : BitVec 64) (tick : Nat) : State :=
  let s1 := s.reachRunning.countPass
  let s2 := s1.setPass { s1.pass with tickOf := tick, lateDue := none, inBuf := !s1.pass.inBuf }
  let s3 := ((s2.compose gpio s2.inBase).setPhase phFreeze).advancesDue
  if s3.paired && s3.prState == prActive && s3.rd PAIR_STAT_LINK_UP == 1 then s3.send (.pairFrame .align) else s3

/-- The unit runs passes of its own from its own timer (R354, R355). -/
def State.ownPasses (s : State) : Bool := !(s.paired && (s.prState == prStandby || s.prState == prJoining))

/-- PASS_TIMER_TICK (R21, R252): a tick of the grid starts a pass, or leaves it due while a pass is in progress. `gpio` is
what the balls of GPIO00 to GPIO63 read at the edge. -/
def execPassTimerTick (gpio : BitVec 64) (s : State) : Out :=
  .next (
    if !s.pass.timerOn || decide (s.now < s.pass.nextTick) || !s.ownPasses then s
    else
      let tick := s.pass.nextTick
      let period := s.pass.periodNext.getD s.pass.period
      let s1 := s.setPass { s.pass with period := period, periodNext := none, nextTick := tick + period * cycPerMs }
      if tick < s.pass.holdTicksUntil then s1
      else if s1.rd PASS_PHASE_PHASE = phRemainder then s1.startPass gpio tick
      else s1.setPass { s1.pass with lateDue := some tick })

/-- LATE_PASS_START (R21, R252): the pass whose tick came too early starts, counted and recorded. -/
def execLatePassStart (gpio : BitVec 64) (s : State) : Out :=
  .next (
    match s.pass.lateDue with
    | none => s
    | some tick =>
      if s.rd PASS_PHASE_PHASE = phRemainder && s.pass.timerOn then
        ((s.bump PASS_WD_CNT_LATE 1).recordFault 0 bPass 0 0).startPass gpio tick
      else s)

/-! The logic phase (R210, R220, R235). -/

/-- A core starts its strip (R210). ACTIVE stands from the first start of a strip of the program in force until the core
is restarted (R244, R251). DEDUCED. -/
def State.startCore (s : State) (n : Fin 4) : State :=
  match s.strip? n with
  | none => s
  | some st =>
    if (s.core n).gated then s
    else
      let s1 := (s.setCore n { clearedCore false with pc := st.entry }).wr (PASS_CORE_STAT_STATE n.val) coreRunning
      s1.wr (PASS_CORE_STAT_ACTIVE n.val) 1

/-- INPUT_FREEZE_COMPLETE (R22, R220, R245): in RUN every strip starts at ENTRY; otherwise output write follows at once. -/
def execInputFreezeComplete (s : State) : Out :=
  .next (
    if s.rd PASS_PHASE_PHASE ≠ phFreeze then s
    else if s.rd PASS_MODE_STAT_MODE = modeRun ∧ s.pass.fatal = false then
      let s1 := ((s.setPhase phLogic).each allCores State.startCore).showCores
      s1.setPass { s1.pass with logicAt := s.now }
    else s.beginOutput)

/-- No strip runs or waits. -/
def State.stripsDone (s : State) : Bool :=
  allCores.all (fun n => s.rd (PASS_CORE_STAT_STATE n.val) != coreRunning && s.rd (PASS_CORE_STAT_STATE n.val) != coreWaiting)

/-- LOGIC_PHASE_END (R21, R235): the last strip has ended or halted. -/
def execLogicPhaseEnd (s : State) : Out :=
  .next (if s.rd PASS_PHASE_PHASE = phLogic ∧ s.stripsDone then s.beginOutput else s)

/-! The pass watchdog (R252, R253). -/

/-- t_WD in SYS cycles. -/
def State.wdLimit (s : State) : Nat := s.pass.period * (100 + s.rd PASS_WD_CFG_MARGIN_PCT) * 12000

/-- What a headland in progress would have applied goes back to wait for the next one (R24, R253). -/
def State.abandonHeadland (s : State) : State :=
  let s1 := if s.requests.applying.isEmpty then s else s.letGo31
  { s1 with
    camp := { s1.camp with publishing := false },
    fabric := { s1.fabric with
      pendA := s.fabric.pendA.foldl addPend s.fabric.pendNow, pendNow := [] },
    requests := { s1.requests with
      accepted := s.requests.applying ++ s.requests.accepted, applying := [] } }

/-- The watchdog fires (R253, R279): every running engine enters FAULT; the outputs take their safe values, or in a pair with a
healthy standby follow the pair. -/
def State.watchdogFires (s : State) : State :=
  let phase := s.rd PASS_PHASE_PHASE
  let running := s.rd PASS_PHASE_RUNNING
  let healthy := s.healthyStandby
  let s1 := ((s.wr PASS_WD_LAST_PHASE phase).wr PASS_WD_LAST_RUNNING running).bump PASS_WD_CNT_FIRED 1
  let s2 := s1.abandonHeadland.recordFault 2 bPass F_WATCHDOG 0
  let s3 := if healthy then (s2.releaseAuth prFallow).enginesFault causeWatchdog else (s2.enginesFault causeWatchdog).allSafe
  let s4 := (s3.busAbandon.forceStop stopWatchdog).setPhase phRemainder
  s4.setPass { s4.pass with
    lateDue := none, faulted := false, holdTicksUntil := s.now + 200 * cycPerUs }

/-- PASS_WATCHDOG (R252, R253): the headland of the pass has not ended t_WD after its tick. -/
def execPassWatchdog (s : State) : Out :=
  .next (
    if s.pass.timerOn ∧ s.rd PASS_PHASE_PHASE ≠ phRemainder ∧ s.pass.tickOf + s.wdLimit ≤ s.now then s.watchdogFires
    else s)

end Sys2Proof.Machine
end

