-- ==== Sys2Proof/Machine/Steward.lean ====
section
/-! DEFINITION. What the steward's request channels share (R108, R109, R111): the words of a request, replies that wait
for room, the staging area, and the NOR devices (R45). -/

namespace Sys2Proof.Machine

/-- Replies posted in order while their direction has room for two words (R105). -/
def State.flushReplies (s : State) : State :=
  let s0 : State := { s with requests := { s.requests with replies := [] } }
  s.requests.replies.foldl (fun t r =>
    match dirOfData? r.1 with
    | none => t
    | some d =>
      if decide ((t.waiting r.1).length ≤ 30) && !t.requests.replies.any (fun q => q.1 == r.1) then
        (t.mbAccept d r.2.1).mbAccept d r.2.2
      else { t with requests := { t.requests with replies := t.requests.replies ++ [r] } }) s0

/-- Word 0 of a reply (R108): DETAIL is the block's code where CODE is outside the shared set. -/
def replyWord (op tag code : Nat) : Word :=
  BitVec.ofNat 32 (op * 2 ^ 24 + tag * 2 ^ 16 + code * 2 ^ 8 + (if 0x10 ≤ code then code else 0))

/-- A reply on a direction, by its DATA register. -/
def State.reply (s : State) (data op tag code w1 : Nat) : State :=
  State.flushReplies { s with requests := { s.requests with
    replies := s.requests.replies ++ [(data, replyWord op tag code, BitVec.ofNat 32 w1)] } }

/-- The words waiting on a direction. -/
def State.requestWords (s : State) (d : MbDir) : List Nat := (s.waiting d.data).map (fun w => w.word.toNat)

/-- The first n words of a direction popped (R105). -/
def State.popWords (s : State) (d : MbDir) (n : Nat) : State := s.each (List.range n) (fun t _ => (t.mbPop d).2)

/-! The staging area (R99). -/

/-- The base of the staging area: the last 64 MiB of the fitted SDRAM. -/
def State.stagingBase (s : State) : Nat := aSdram + s.sdramSize - 0x4000000

def stagingSize : Nat := 0x4000000

/-! The NOR devices (R45). -/

/-- Half the size of a NOR device: both have the same density. -/
def State.norHalf (s : State) : Nat :=
  let n := max (s.rd CP_XSPI_STAT_XN0 / 16) (s.rd CP_XSPI_STAT_XN1 / 16)
  if n = 0 then 0 else 2 ^ n * 0x100000 / 2

/-- A NOR device answered at NVM_BRINGUP. -/
def State.norAnswers (s : State) (n : Nat) : Bool :=
  (if n = 0 then s.rd CP_XSPI_STAT_XN0 else s.rd CP_XSPI_STAT_XN1) % 2 == 1

/-- The base of a seed slot: 0 slot A, 1 slot B. -/
def slotBase (n : Nat) : Nat := aNor + 0x10000000 * n

end Sys2Proof.Machine
end

