-- ==== Sys2Proof/Machine/Harrow.lean ====
section
/-! DEFINITION. The harrow (R412 to R416): scrubbing, the lane test rotation, the archive ring in NOR, and telemetry. -/

namespace Sys2Proof.Machine

/-! Scrubbing (R412). -/

/-- The area of an address that the harrow scrubs, as HR_UE_ADDR names it. -/
def State.scrubArea (s : State) (a : Nat) : Option Nat :=
  let inR (lo n : Nat) : Bool := decide (lo ≤ a) && decide (a < lo + n)
  if inR aSdram s.sdramSize then some 0
  else if inR aWork 0x8000000 && decide ((a - aWork) % 0x400000 < 0x300000) then some 1
  else if inR aPassMem 0x1000000 then some 2
  else if inR aImage 0xC00000 then some 3
  else if inR aQueues 0x800000 then some 4
  else if inR 0 0x400000 then some 5
  else none

/-- An uncorrectable error at an address of a scrubbed area is counted, captured and recorded (R412). -/
def State.uncorrectable (s : State) (addr area : Nat) : State :=
  let s1 := s.bump (if area = 0 then HR_ECC_SDRAM_UNCORR else HR_ECC_SRAM_UNCORR) 1
  let s2 := ((s1.wr HR_UE_ADDR_LO_ADDR (addr % 2 ^ 32)).wr HR_UE_ADDR_HI_AREA area).wr HR_UE_ADDR_HI_ADDR (addr / 2 ^ 32)
  let s3 := s2.recordFault 1 bHarrow 0 addr
  { (s3.setPair { s3.pair with eccBad := true }) with memBad := addOnce s3.memBad (addr / 8 * 8) }

/-- An uncorrectable error that the harrow finds in the workspace puts its lane out of service too, unless the lane is in
RUN and will read the word itself (R187). -/
def State.scrubSlice (s : State) (addr : Nat) : State :=
  let n := laneAt addr
  if s.rd (LANE_STAT_STATE n) = laneRun then s else s.sliceBad n

/-- SCRUB_STEP (R412): what the harrow finds at an address; an uncorrectable word is left as it stands. -/
def execScrubStep (addr : Nat) (found : ScrubFound) (s : State) : Out :=
  .next (
    match s.scrubArea addr with
    | none => s
    | some area =>
      match found with
      | .clean => s
      | .corrected =>
        let s1 := (s.bump (if area = 0 then HR_ECC_SDRAM_CORR else HR_ECC_SRAM_CORR) 1).setPair
          { s.pair with eccCorr := s.pair.eccCorr + 1 }
        if area = 1 then s1.bump (CL_ECC_CORR (laneAt addr / 8)) 1 else s1
      | .uncorrectable =>
        let s1 := s.uncorrectable addr area
        if area = 1 then s1.scrubSlice addr else s1)

/-! The rotation (R413). -/

/-- The lane that the rotation tests next, if one may be. -/
def State.nextTestLane (s : State) : Option Nat :=
  let last := s.rd HR_TEST_LAST_LANE
  ((List.range 256).map (fun k => (last + 1 + k) % 256)).find? (fun n =>
    s.rd (LANE_STAT_HELD n) == 0 && s.rd (LANE_STAT_STATE n) != laneRun && s.rd (LANE_STAT_STATE n) != laneDeliver &&
      s.rd (CL_CTL_TEST_EN (n / 8)) == 1)

/-- LANE_TEST_DUE (R413): TEST_S seconds have passed since the last test started, at a headland with no campaign in
flight. -/
def execLaneTestDue (s : State) : Out :=
  .next (
    if s.rd HR_CFG_TEST_S = 0 ∨ s.rd PASS_PHASE_PHASE ≠ phHeadland ∨ s.camp.inFlight.isSome ∨
        s.now < s.gleaner.lastTest + s.rd HR_CFG_TEST_S * cycPerS then s
    else
      match s.nextTestLane with
      | none => s
      | some n =>
        let s1 := ((s.wr HR_TEST_LAST_LANE n).bump HR_TEST_TESTS 1).startTest n
        { s1 with gleaner := { s1.gleaner with lastTest := s1.now } })

/-! The archive (R414). -/

/-- Records that the archive half of one device holds, and the ring. -/
def State.archPart (s : State) : Nat := s.norHalf / 128
def State.archCap (s : State) : Nat := 2 * s.archPart

/-- The device and the address of record SEQ s. -/
def State.archPlace (s : State) (seq : Nat) : Nat × Nat :=
  let pos := seq % s.archCap
  let dev := pos / s.archPart
  (dev, slotBase dev + s.norHalf + 128 * (pos % s.archPart))

/-- A record of the archive: KIND, station address or channel, time, the six registers, REVERSALS and SAT flags, SEQ. -/
def archRecord (kind ident time : Nat) (regs : List Byte) (reversals sat seq : Nat) : List Byte :=
  let body := leBytes 4 0x56435241 ++ leBytes 1 kind ++ leBytes 3 0 ++ leBytes 8 ident ++ leBytes 8 time ++ regs ++
    leBytes 4 reversals ++ leBytes 4 sat ++ leBytes 4 seq ++ leBytes 16 0
  body ++ leBytes 4 (crc32c body)

/-- ARCH_LOST counted, with F1. -/
def State.archLost (s : State) : State := (s.bump HR_ARCH_STAT_LOST 1).recordFault 1 bHarrow 0 0

/-- A record archived: its sector is erased before its first record is written, once everything in it has been
acknowledged. -/
def State.archive (s : State) (kind ident : Nat) (regs : List Byte) (reversals sat : Nat) : State :=
  let seq := s.rd HR_ARCH_WR_SEQ
  if s.archCap = 0 then s.archLost
  else
    let (dev, a) := s.archPlace seq
    let first := seq % 512 == 0
    let held := decide (s.archCap ≤ seq) && decide (s.rd HR_ARCH_ACK_SEQ ≤ seq - s.archCap + 511)
    if !s.norAnswers dev then s.archLost.bumpWrap HR_ARCH_WR_SEQ 1
    else if first && held then s.archLost
    else
      let sector := seq % s.archCap / 512
      let n := (s.gleaner.archErases.lookup sector).getD 0 + 1
      let s1 := if first then
          { (s.clearMem a 0x10000).raise HR_ARCH_STAT_ERASE_MAX n with gleaner := { s.gleaner with
            archErases := (sector, n) :: s.gleaner.archErases.filter (fun e => e.1 != sector) } }
        else s
      (s1.putBytes a (archRecord kind ident s.time regs reversals sat seq)).bumpWrap HR_ARCH_WR_SEQ 1

/-- A record SEQ is present: written, not overwritten, on a device that answers, its check word right. -/
def State.archPresent (s : State) (seq : Nat) : Bool :=
  let (dev, a) := s.archPlace seq
  decide (seq < s.rd HR_ARCH_WR_SEQ) && decide (s.rd HR_ARCH_WR_SEQ ≤ seq + s.archCap) && s.norAnswers dev &&
    s.ld a 4 == 0x56435241 && s.ld (a + 0x68) 4 == seq && s.ld (a + 0x7C) 4 == crc32c (s.bytes a 0x7C)

/-- ARCH_READ (R414): the request at the head of QCH_06 copies records to the export buffer; of two rules broken,
the lower code is answered (R10). While the Gleaner is frozen nothing is written there and the request waits (R407; DEDUCED,
assumption 104). -/
def execArchRead (s : State) : Out :=
  let d := qchXY 6
  let out := (qchYX 6).data
  .next (
    if s.rd GL_STAT_FROZEN = 1 then s else
    match s.requestWords d with
    | w0 :: w1 :: w2 :: _ =>
      let op := w0 / 2 ^ 24
      let tag := w0 / 2 ^ 16 % 256
      let s1 := s.popWords d 3
      let seqs := (List.range w2).map (w1 + ·)
      if op ≠ 1 then s1.reply out op tag E_UNKNOWN 0
      else if w0 % 2 ^ 16 ≠ 0 ∨ w2 = 0 ∨ 8192 < w2 then s1.reply out op tag E_RANGE 0
      else if ¬ seqs.all s.archPresent then s1.reply out op tag E_RANGE 0
      else if ¬ (s.rd CP_BOOT_STAT_STAGE = 9 ∨ s.rd CP_BOOT_STAT_STAGE = 0xA) then s1.reply out op tag E_STATE 0
      else
        let s2 := s1.each seqs.zipIdx (fun t q => t.putWhole (sd 0x2640000 + 128 * q.2) (s.bytes (s.archPlace q.1).2 128))
        s2.reply out op tag E_OK w2
    | _ => s)

/-! Telemetry (R416). -/

/-- A signed reading of a temperature sensor in 1/16 °C. -/
def tempOf (b : BitVec 16) : Int := b.toInt

/-- One sensor's reading: TEMP and MAX, F1 while hot, F3 at the tenth critical reading in a row. -/
def State.readTemp (s : State) (n : Nat) (b : BitVec 16) : State :=
  let t := tempOf b
  let s1 := s.wr (HR_TEMP_TEMP n) b.toNat
  let s2 := if toSigned 16 (s.rd (HR_TEMP_MAX n)) ≤ t then s1.wr (HR_TEMP_MAX n) b.toNat else s1
  let warn : Int := 16 * s.rd HR_CFG_TEMP_WARN
  let crit : Int := 16 * s.rd HR_CFG_TEMP_CRIT
  let hot := s.gleaner.warm.contains n
  let s3 :=
    if !hot && decide (warn ≤ t) then
      ({ s2 with gleaner := { s2.gleaner with warm := n :: s2.gleaner.warm } }).startFault 1 bDevice 0 n
    else if hot && decide (t ≤ warn - 32) then
      ({ s2 with gleaner := { s2.gleaner with warm := s2.gleaner.warm.filter (· != n) } }).endFault bDevice 0 n
    else s2
  let run := if crit ≤ t then (s.gleaner.critRuns.lookup n).getD 0 + 1 else 0
  let rest := s3.gleaner.critRuns.filter (fun e => e.1 != n)
  let s4 : State := { s3 with gleaner := { s3.gleaner with
    critRuns := if run = 0 then rest else (n, min run 11) :: rest } }
  if run = 10 then s4.fatalFault bDevice 0 n else s4

/-- The highest of the temperatures, once per second, for the definition that TEMP_HIST names. -/
def State.tempHist (s : State) (temps : List (BitVec 16)) : State :=
  let d := s.rd HR_HIST_TEMP_HIST
  if d = 0x3FF ∨ temps.isEmpty ∨ s.now < s.gleaner.tempHistAt then s
  else
    let top := (temps.map tempOf).foldl max (-0x8000)
    let s1 : State := { s with gleaner := { s.gleaner with tempHistAt := s.now + cycPerS } }
    s1.histValue d (f64 (mkRat top 16)) s.time

/-- TELEMETRY_READ (R416): the 12 temperatures and 20 supplies. -/
def execTelemetryRead (temps mv : List (BitVec 16)) (s : State) : Out :=
  let s1 := s.each ((temps.take 12).zipIdx) (fun t q => t.readTemp q.2 q.1)
  let s2 := s1.each ((mv.take 20).zipIdx) (fun t q => t.wr (HR_SUP_MV q.2) q.1.toNat)
  .next (s2.tempHist (temps.take 12))

/-- SUPPLY_WINDOW_FAULT (R416): a supply has been outside its window for 100 µs. -/
def execSupplyWindowFault (monitor : Fin 20) (s : State) : Out :=
  .next ((s.wr (HR_SUP_OUT monitor) 1).recordFault 1 bDevice 0 monitor)

end Sys2Proof.Machine
end

