-- ==== Sys2Proof/Machine/Gazetteer.lean ====
section
/-! DEFINITION. The gazetteer's changes (R127, R132 to R135, R296, R298, R304): checks of entries, and what writing,
deleting, admitting, substituting and enabling do to them. -/

namespace Sys2Proof.Machine

/-- A little-endian field of a record. -/
def recU (rec : List Byte) (off n : Nat) : Nat := ofLeBytes ((rec.drop off).take n)

/-- No input of a SUB_MODE has the value 0b11. -/
def subModeOk (m : Nat) : Bool := (List.range 8).all (fun i => m / 4 ^ i % 4 != 3)

/-- The host-set fields of one entry's record lie in their ranges (R127, R298). -/
def entryOk (rec : List Byte) : Bool :=
  let kind := recU rec 0x1A 1
  let node := recU rec 0x18 2
  decide (kind ≤ 1) && decide (recU rec 0x1B 1 < 4) && decide (recU rec 0x1C 2 < 4096) && decide (recU rec 0x1E 1 < 4) &&
    decide (1 ≤ recU rec 0x1F 1) && subModeOk (recU rec 0x80 2) &&
    (if kind = 1 then node == 0xFFFF else decide (node < 16384) || node == 0xFFFF)

/-- The rules over all used entries: no address twice, KIND 0 with a node, at most 16 entries in a slot of a port. -/
def State.gazRules (s : State) : List Nat :=
  let used := s.gzAll
  let slots := used.map (fun g => s.gz g 0x1C 2 + 4096 * s.gz g 0x1E 1)
  broken [
    (noRepeat (used.map (fun g => s.gz g 0 8)), E_CONFLICT),
    (used.all (fun g => s.gz g 0x1A 1 != 0 || s.gz g 0x18 2 != 0xFFFF), E_CONFLICT),
    (slots.all (fun x => decide ((slots.filter (· == x)).length ≤ 16)), E_CAPACITY)]

/-- The host-set bytes of an entry written; the rest is kept (R127). -/
def State.putH (s : State) (g : Nat) (rec : List Byte) : State :=
  (s.putBytes (gazAddr g) (rec.take 0x20)).putBytes (gazAddr g + 0x60) ((rec.drop 0x60).take 0x24)

/-- An applied amendment of an entry counted in AMEND_GEN, as one update (R127, R129). -/
def State.gamend (s : State) (g : Nat) : State := (s.gput g 0xF8 4 (s.gz g 0xF8 4 + 1)).gupd g

/-- Counters of an entry that nothing else supplies (R69): TX_CTR above the reservation, RX_CTR and KEY_GEN 0. -/
def State.freshCounters (s : State) (g : Nat) : State :=
  ((s.gput g 0x28 8 (s.reservation + 2 ^ 24)).gput g 0x30 8 0).gput g 0x23 1 0

/-- What is remembered of an entry since the last freeze edge, and of its order, forgotten with its station; its session ends
(R299, R302). -/
def State.forget (s : State) (g : Nat) : State :=
  let s1 := s.setSession g seNone
  let f := s1.field
  let less (xs : List Nat) : List Nat := xs.filter (fun x => x != g)
  s1.setField { f with reported := less f.reported, closed := less f.closed, stepped := less f.stepped, sent := less f.sent }

/-- A used entry made with its device-managed bytes as at sowing (R132): EXPECTED, energy registers zero. -/
def State.newEntry (s : State) (g : Nat) (rec : List Byte) : State :=
  let gen := s.gz g 0xF8 4
  let seq := s.gz g 0xFC 4
  let s1 := ((s.forget g).clearMem (gazAddr g) 256).putH g rec
  (((s1.gput g 0x20 1 prExpected).gput g 0x58 4 0xFFFFFFFF).gput g 0xF8 4 gen).gput g 0xFC 4 seq

/-- One record of GAZ_WRITE (R135): a new entry, or the host-set bytes of a used one; where IP6, PORT or SLOT changes the
session is closed under the old values first (R296). -/
def State.gazWrite (s : State) (g : Nat) (rec : List Byte) : State :=
  if recU rec 0 8 = 0 then s
  else if !s.gzUsed g then ((s.newEntry g rec).freshCounters g).gamend g
  else
    let moved := s.bytes (gazAddr g + 8) 16 != (rec.drop 8).take 16 || s.gz g 0x1E 1 != recU rec 0x1E 1 ||
      s.gz g 0x1C 2 != recU rec 0x1C 2
    let s1 := if moved && s.presence g != prDisabled then (s.close g 5).setSession g seClosed else s
    (s1.putH g rec).gamend g

/-- The six energy registers of an entry go to the archive (R68, R135). -/
def State.archiveEntry (s : State) (g : Nat) : State :=
  ((s.archive 0 (s.gz g 0 8) (s.bytes (gazAddr g + 0xA0) 72) (s.gz g 0xE8 4) (s.gz g 0xEC 4)).wr
    CP_RETAIN_FLAGS_ARCHIVED 1).recordFault 0 bAtlas 0 g

/-- One entry deleted (R135, R296): archived, closed, and UNUSED; an unused entry is left as it is. -/
def State.gazDelete (s : State) (g : Nat) : State :=
  if !s.gzUsed g then s
  else
    let s1 := ((s.archiveEntry g).close g 3).forget g
    let gen := s1.gz g 0xF8 4
    let seq := s1.gz g 0xFC 4
    let s2 := ((s1.clearMem (gazAddr g) 256).gput g 0xF8 4 gen).gput g 0xFC 4 seq
    (s2.clearMem (linkAddr g) 8).gamend g

/-- A station admitted from a waiting-room slot (R304); its HELLO's source stands in the link table (DESIGN CHOICE,
assumption 98). -/
def State.gazAdmit (s : State) (slot g : Nat) (rec : List Byte) : State :=
  let a := wrAddr slot
  let s1 := ((s.newEntry g rec).gput g 0x28 8 (s.ld (a + 0x38) 8)).gput g 0x30 8 (s.ld (a + 0x30) 8)
  let mac := (s.field.roomMacs.lookup slot).getD 0
  let s2 := (s1.gput g 0x23 1 (s.ld (a + 0x19) 1)).putBytes (linkAddr g) (beBytes 6 mac ++ [1, 0])
  (((s2.wrFree slot).welcome g 0 0).setSession g seWelcomed).gamend g

/-- A station refused (R304): CLOSE REFUSED from the slot's counters, and the slot is freed. -/
def State.gazRefuse (s : State) (slot : Nat) : State :=
  (s.wrTelegram slot tgClose (closeText 2 (s.retryOf 2) (s.ld (wrAddr slot + 0x30) 8 + 1))).wrFree slot

/-- GAZ_SUBST of an entry. -/
def State.gazSubst (s : State) (g mode age : Nat) (values : List Nat) : State :=
  (((s.putBytes (gazAddr g + 0x60) (values.flatMap (leBytes 4))).gput g 0x80 2 mode).gput g 0x82 2 age).gamend g

/-- GAZ_ENABLE of an entry (R135, R296): a disabled entry becomes EXPECTED, an enabled one DISABLED and is closed. Enabling an
entry that is not DISABLED leaves its PRESENCE. DESIGN CHOICE (assumption 90). -/
def State.gazEnable (s : State) (g : Nat) (on : Bool) : State :=
  let off := s.presence g == prDisabled
  let s1 :=
    if on && off then (s.gput g 0x20 1 prExpected).setSession g seNone
    else if !on && !off then ((s.close g 4).setSession g seClosed).gput g 0x20 1 prDisabled
    else s
  s1.gamend g

end Sys2Proof.Machine
end

