-- ==== Sys2Proof/Machine/PairLimit.lean ====
section
/-! DEFINITION. The size of what a pair copies at a headland (R364). -/

namespace Sys2Proof.Machine

/-- L(P) in KiB. -/
def pairLimit (period : Nat) : Nat := if period ≤ 100 then 16384 else 16384 * period / 100

/-- Areas 0x02, 0x03, 0x04, 0x06, 0x07 and 0x08 in bytes: the program's shares and instances, the output image, the used
entries with the link table and waiting room, the registers of R346, the engines, and the pass state. -/
def State.pairStaticBytes (s : State) : Nat :=
  let shares := match s.pass.prog with
    | none => 0
    | some p => sumN (p.strips.map (fun st => st.mLen + st.kLen + 32 * st.tCount + 16 * st.nCount + 8 * st.eCount)) +
        0x40000 + instOffset p p.insts.length
  shares + 0xF0000 + 264 * s.gzAll.length + 0x4000 + (120 * 16 + 16 * 8 + 8) + 32 * 64 + 64

/-- PAIR_LIMIT and PAIR_STATIC brought up to date. -/
def State.showPairLimit (s : State) : State :=
  (s.wr PAIR_LIMIT_KIB (pairLimit s.pass.period)).wr PAIR_STATIC_KIB ((s.pairStaticBytes + 1023) / 1024)

/-- The rule of R364 holds of a state for a period. -/
def State.pairFits (s : State) (period : Nat) : Bool :=
  !s.paired || decide (2 * s.pairStaticBytes ≤ 1024 * pairLimit period)

end Sys2Proof.Machine
end

