-- ==== Sys2Proof/Machine/Amend.lean ====
section
/-! DEFINITION. Amendments and steward commands (R108 to R111, R133 to R135, R193, R261, R304, R348, R402): requests taken
from their channels, checked against the candidate, grouped, and applied at a headland. -/

namespace Sys2Proof.Machine

/-- A program or erase failure reported by a NOR device (R110). -/
def E_NOR_FAIL : Nat := 0x11

/-! Opcodes. -/

/-- Inline words that an opcode takes, least and most, and whether it takes a staged payload; none where the opcode is not
assigned (R109, R133, R193, R261, R304, R348, R402). -/
def opForm (op : Nat) : Option (Nat × Nat × Bool) :=
  match op with
  | 0x01 => some (3, 3, true)
  | 0x02 => some (3, 3, false)
  | 0x03 => some (1, 29, false)
  | 0x04 => some (0, 0, true)
  | 0x10 => some (2, 2, true)
  | 0x11 => some (2, 2, false)
  | 0x12 => some (2, 2, true)
  | 0x13 => some (10, 10, false)
  | 0x14 => some (1, 29, false)
  | 0x15 => some (1, 1, false)
  | 0x20 => some (2, 2, true)
  | 0x21 => some (2, 2, false)
  | 0x22 => some (0, 0, false)
  | 0x23 => some (0, 0, false)
  | 0x28 => some (1, 1, true)
  | 0x30 => some (2, 2, true)
  | 0x31 => some (2, 2, false)
  | 0x38 => some (2, 2, true)
  | 0x39 => some (0, 0, false)
  | 0x40 => some (2, 2, true)
  | 0x41 => some (2, 2, true)
  | _ => none

/-- An atlas opcode. -/
def isAtlasOp (op : Nat) : Bool := decide (1 ≤ op) && decide (op ≤ 4)

/-- A gazetteer opcode. -/
def isGazOp (op : Nat) : Bool := decide (0x10 ≤ op) && decide (op ≤ 0x15)

/-- A steward command: carried out when it is checked. -/
def isStewardOp (op : Nat) : Bool := op == 0x40 || op == 0x41

/-- The opcode may be sent on the channel (R109). -/
def opOn (ch : ReqChannel) (op : Nat) : Bool :=
  (opForm op).isSome &&
    (match ch with
     | .qch00 => !isStewardOp op
     | .qch01 => isStewardOp op
     | .qch07 => true)

/-- Number of a channel. -/
def chNum : ReqChannel → Nat
  | .qch00 => 0
  | .qch01 => 1
  | .qch07 => 7

/-- A staged payload as a section of its own. -/
def State.paySec (s : State) (pay : List Byte) : Sec := ⟨({ s with mem := [] }).putBytes 0 pay, 0, pay.length⟩

/-! Checks, each against a candidate state (R111, R134). -/

/-- The records of a staged payload. -/
def payRec (pay : List Byte) (size k : Nat) : List Byte := (pay.drop (size * k)).take size

/-- Checks of a gazetteer request that its own words and records give. -/
def gazForm (a : Amend) : List Nat :=
  let w (n : Nat) : Nat := inlW a.inl n
  let inRange := decide (1 ≤ w 2) && decide (w 1 + w 2 ≤ 16384)
  match a.op with
  | 0x10 => broken [(inRange && decide (a.payload.length = 256 * w 2) &&
      (List.range (w 2)).all (fun k => entryOk (payRec a.payload 256 k)), E_RANGE)]
  | 0x11 => broken [(inRange, E_RANGE)]
  | 0x12 => broken [(decide (w 1 < 256) && decide (w 2 < 16384) && decide (a.payload.length = 256) &&
      entryOk a.payload, E_RANGE)]
  | 0x13 => broken [(decide (w 1 < 16384) && subModeOk (w 2 % 65536), E_RANGE)]
  | 0x14 => []
  | _ => broken [(decide (w 1 < 256), E_RANGE)]

/-- Checks of a gazetteer request against the candidate: what it names is there. -/
def State.gazNames (c : State) (a : Amend) : List Nat :=
  let w (n : Nat) : Nat := inlW a.inl n
  match a.op with
  | 0x10 => broken [((List.range (w 2)).all (fun k =>
      let g := w 1 + k
      !c.gzUsed g || c.gz g 0 8 == recU (payRec a.payload 256 k) 0 8), E_CONFLICT)]
  | 0x12 => broken [(c.wrStation (w 1) != 0, E_UNKNOWN), (!c.gzUsed (w 2), E_CONFLICT),
      (c.wrStation (w 1) == 0 || recU a.payload 0 8 == c.wrStation (w 1), E_CONFLICT)]
  | 0x13 => broken [(c.gzUsed (w 1), E_UNKNOWN)]
  | 0x14 => broken [(a.inl.all (fun x => c.gzUsed (x.toNat % 16384)), E_UNKNOWN)]
  | 0x15 => broken [(c.wrStation (w 1) != 0, E_UNKNOWN)]
  | _ => []

/-- A gazetteer request carried out. -/
def State.gazApply (s : State) (a : Amend) : State :=
  let w (n : Nat) : Nat := inlW a.inl n
  match a.op with
  | 0x10 => s.each (List.range (w 2)) (fun t k => t.gazWrite (w 1 + k) (payRec a.payload 256 k))
  | 0x11 => s.each (List.range (w 2)) (fun t k => t.gazDelete (w 1 + k))
  | 0x12 => s.gazAdmit (w 1) (w 2) a.payload
  | 0x13 => s.gazSubst (w 1) (w 2 % 65536) (w 2 / 65536) ((List.range 8).map (fun i => w (3 + i)))
  | 0x14 => s.each a.inl (fun t x => t.gazEnable (x.toNat % 16384) (bitOf x.toNat 31))
  | _ => s.gazRefuse (w 1)

/-- The program and library sections of an EXCH_LOAD payload: lengths and places (R261). -/
def exchParts (a : Amend) : Nat × Nat × Nat :=
  let pl := inlW a.inl 1
  (pl, inlW a.inl 2, (pl + 63) / 64 * 64)

/-- The library that an EXCH_LOAD puts beside its program: its own section, or the one in force. -/
def State.exchLib (c : State) (a : Amend) : Except Nat (List FbBlock × List FbInst × Nat) :=
  let (_, ll, lo) := exchParts a
  let v := c.paySec a.payload
  if ll = 0 then
    .ok ((c.pass.prog.map Program.blocks).getD [], (c.pass.prog.map Program.insts).getD [],
      (c.pass.prog.map Program.libLen).getD 0)
  else Sec.library ⟨v.s, v.base + lo, ll⟩

/-- The program of an EXCH_LOAD (R261): R241 against the library, then R258. -/
def State.exchProgram (c : State) (a : Amend) : Except Nat Program :=
  let (pl, ll, lo) := exchParts a
  let v := c.paySec a.payload
  let lv : Sec := ⟨v.s, v.base + lo, ll⟩
  let insts := match c.exchLib a with
    | .ok (_, i, _) => i
    | .error _ => if lv.libHeaderOk then lv.fbInsts else []
  match Sec.program ⟨v.s, v.base, pl⟩ [] insts 0, c.exchLib a with
  | .error e, _ => .error e
  | .ok _, .error e => .error e
  | .ok p, .ok (bs, is, n) => .ok { p with blocks := bs, insts := is, libLen := n }

/-- Checks of an exchange request (R261). -/
def State.exchCodes (c : State) (a : Amend) : List Nat :=
  match a.op with
  | 0x20 =>
    let (pl, ll, lo) := exchParts a
    if a.payload.length ≠ (if ll = 0 then pl else lo + ll) then [E_RANGE]
    else match c.exchProgram a with
      | .error e => [e]
      | .ok _ => []
  | 0x21 => match c.pass.staged with
    | none => [E_STATE]
    | some p => broken [(p.progId == inlW a.inl 1 + 2 ^ 32 * inlW a.inl 2, E_CONFLICT)]
  | 0x22 => broken [(c.pass.kept.isSome, E_STATE)]
  | _ => broken [(c.pass.staged.isSome, E_STATE)]

/-- An exchange request carried out (R261, R262). -/
def State.exchApply (s : State) (a : Amend) : State :=
  match a.op with
  | 0x20 =>
    let (pl, ll, lo) := exchParts a
    let v := s.paySec a.payload
    (match s.exchProgram a with
     | .error _ => s
     | .ok p => s.stage ⟨v.s, v.base, pl⟩ (if ll = 0 then none else some ⟨v.s, v.base + lo, ll⟩) p)
  | 0x21 => (match s.pass.staged with
    | some p => s.exchange p
    | none => s)
  | 0x22 => (match s.pass.kept with
    | some p => s.exchange p
    | none => s)
  | _ => ({ s with pass := { s.pass with staged := none } }).showExchange

/-- A profile factor lies in 0 to 10 (R193). -/
def factorsOk (pay : List Byte) : Bool :=
  (List.range (pay.length / 4)).all (fun k => f32In (recU pay (4 * k) 4) 0 10)

/-- Checks of the remaining amendments (R193, R348, R402). -/
def State.miscCodes (c : State) (a : Amend) : List Nat :=
  let v := c.paySec a.payload
  let w (n : Nat) : Nat := inlW a.inl n
  match a.op with
  | 0x28 => broken [(decide (1 ≤ w 1) && decide (w 1 ≤ 1024) && decide (a.payload.length = 16 * w 1) && v.breaksOk 0 (w 1),
      E_RANGE)]
  | 0x30 => broken [(decide (1 ≤ w 2) && decide (w 1 + w 2 ≤ 1024) && decide (a.payload.length = 32 * w 2) &&
      (List.range (w 2)).all (fun k => v.histDefOk (32 * k)), E_RANGE)]
  | 0x31 => broken [(decide (1 ≤ w 2) && decide (w 1 + w 2 ≤ 1024), E_RANGE)]
  | 0x38 => broken [(decide (1 ≤ w 2) && decide (w 1 + w 2 ≤ 256) && decide (a.payload.length = 256 * w 2) &&
      factorsOk a.payload, E_RANGE)]
  | _ => broken [(c.mayLaunch, E_STATE)]

/-- The remaining amendments carried out. -/
def State.miscApply (s : State) (a : Amend) : State :=
  let w (n : Nat) : Nat := inlW a.inl n
  match a.op with
  | 0x28 => s.putTariffs (w 1) a.payload
  | 0x30 => s.each (List.range (w 2)) (fun t k => t.amendDef (w 1 + k) (some (payRec a.payload 32 k)))
  | 0x31 => s.each (List.range (w 2)) (fun t k => t.amendDef (w 1 + k) none)
  | 0x38 => s.putBytes (sd 0x2500000 + 256 * w 1) a.payload
  | _ => s.setCamp { s.camp with asked := true }

/-! The candidate (R111, R114). -/

/-- A state being changed, and whether its spare bank already holds a changed atlas. -/
structure Draft where
  s : State
  dirty : Bool

/-- The bank that holds the atlas of a draft. -/
def Draft.bank (d : Draft) : Nat := if d.dirty then d.s.spareBank else d.s.rd ATLAS_STAT_IN_FORCE

/-- The draft with the bank in force copied into the spare, for a first change of the atlas. -/
def Draft.openAtlas (d : Draft) : Draft :=
  if d.dirty then d else ⟨d.s.copyBank (d.s.rd ATLAS_STAT_IN_FORCE) d.s.spareBank, true⟩

/-- One amendment carried out on a draft. -/
def Draft.apply (d : Draft) (a : Amend) : Draft :=
  if isAtlasOp a.op then
    let e := d.openAtlas
    ⟨e.s.atlasRaw e.s.spareBank a.op a.inl a.payload, true⟩
  else if isGazOp a.op then ⟨d.s.gazApply a, d.dirty⟩
  else if 0x20 ≤ a.op ∧ a.op ≤ 0x27 then ⟨d.s.exchApply a, d.dirty⟩
  else ⟨d.s.miscApply a, d.dirty⟩

/-- Amendments carried out one after another. -/
def Draft.applyAll (d : Draft) (xs : List Amend) : Draft := xs.foldl Draft.apply d

/-- The configuration in force with every amendment accepted and not yet applied (R111). -/
def State.draft (s : State) (group : List Amend) : Draft :=
  Draft.applyAll ⟨s, false⟩ (s.requests.applying ++ s.requests.accepted ++ group)

/-- Every rule that an amendment breaks by itself: its form, and what it names in a draft (R134). -/
def Draft.ownCodes (d : Draft) (a : Amend) : List Nat :=
  if isAtlasOp a.op then
    let c := d.openAtlas
    atlasOwn c.s c.s.spareBank a.op a.inl a.payload
  else if isGazOp a.op then gazForm a ++ d.s.gazNames a
  else if 0x20 ≤ a.op ∧ a.op ≤ 0x27 then d.s.exchCodes a
  else d.s.miscCodes a

/-- Every rule of the network model and of the pair's size that a draft breaks once changes have been carried out on the
draft `old` (R134, R364). -/
def Draft.fitCodes (d old : Draft) : List Nat :=
  let b := d.s.atlas d.bank
  b.codes (some (old.s.atlas old.bank)) ++ d.s.gazRules ++ b.gazCodes d.s (some old.s) ++
    broken [(d.s.pairFits d.s.pass.period, E_CAPACITY)]

/-- The rules of the whole that an amendment leaves broken: of the network model where it changes that, and of the pair's
size. -/
def Draft.leftCodes (d old : Draft) (a : Amend) : List Nat :=
  if isAtlasOp a.op || isGazOp a.op then d.fitCodes old
  else broken [(d.s.pairFits d.s.pass.period, E_CAPACITY)]

/-- Every rule that an amendment breaks against a draft (R134, R364). -/
def Draft.codes (d : Draft) (a : Amend) : List Nat :=
  let own := d.ownCodes a
  if own.contains E_RANGE then own else own ++ (d.apply a).leftCodes d a

/-! Answers. -/

/-- LAST_CODE of the block that an opcode belongs to (ATLAS_STAT, GAZ_GEN, PASS_EXCH_STAT). -/
def State.lastCode (s : State) (op code : Nat) : State :=
  if isAtlasOp op then s.wr ATLAS_STAT_LAST_CODE code
  else if isGazOp op then s.wr GAZ_GEN_LAST_CODE code
  else if 0x20 ≤ op ∧ op ≤ 0x27 then s.wr PASS_EXCH_STAT_LAST_CODE code
  else s

/-- A request turned away with a code. -/
def State.refuse (s : State) (ch op tag code : Nat) : State := (s.lastCode op code).reply (qchYX ch).data op tag code 0

/-- The spare bank as a draft holds it, once an atlas amendment has been accepted (R114). An advance that still runs in that
bank completes first (DESIGN CHOICE, assumption 86). -/
def State.takeSpare (s0 : State) (d : Draft) : State :=
  let s := s0.each (s0.survey.advances.filter (fun a => a.bank == s0.spareBank)) State.runAdvance
  let lo := bankBase s.spareBank
  if !d.dirty then s
  else { s with mem := smapSetAll memDefault (smapDrop s.mem lo (lo + 0x400000)) (smapRange d.s.mem lo (lo + 0x400000)) }

/-- Amendments accepted: they wait for a headland (R111). -/
def State.accept (s : State) (xs : List Amend) : State :=
  let swaps := xs.any (fun a => a.op == 0x21 || a.op == 0x22)
  let s1 : State := { s with requests := { s.requests with accepted := s.requests.accepted ++ xs } }
  let s2 := if swaps then s1.wr PASS_EXCH_STAT_PENDING 1 else s1
  if xs.any (fun a => isAtlasOp a.op) then s2.takeSpare (s2.draft []) else s2

/-! Taking a request (R108, R111). -/

/-- The open group of a channel. -/
def State.groupOn (s : State) (ch : Nat) : Option OpenGroup := s.requests.open_.find? (fun g => g.ch == ch)

/-- The open group of a channel replaced. -/
def State.setGroup (s : State) (ch : Nat) (g : Option OpenGroup) : State :=
  { s with requests := { s.requests with open_ := g.toList ++ s.requests.open_.filter (fun x => x.ch != ch) } }

/-- The steward sees SENDER_RESET: it clears it and drops the group that the sender had open (R107). -/
def State.seeReset (s : State) (ch : Nat) : State :=
  let d := qchXY ch
  if s.rd d.senderReset = 1 then (s.wr d.senderReset 0).setGroup ch none else s

/-- A request of a channel stays where it is: another channel has a group open, or QCH_00 comes first (R111). -/
def State.mustWait (s : State) (ch : Nat) : Bool :=
  ch != 1 && (s.requests.open_.any (fun g => g.ch != ch) ||
    (ch == 7 && (match s.requestWords (qchXY 0) with
      | w :: ws => decide (2 + min (w % 32) 29 ≤ ws.length)
      | [] => false)))

/-- Every rule of R44, R109, R111 and R373 that a request breaks before its opcode's own checks. -/
def State.formCodes (s : State) (ch : ReqChannel) (words : List Nat) (old : Bool) : List Nat :=
  let w (n : Nat) : Nat := (words[n]?).getD 0
  let op := w 0 / 2 ^ 24
  let n := w 0 % 32
  let stage := s.rd CP_BOOT_STAT_STAGE
  let standby := s.paired && (s.prState == prStandby || s.prState == prJoining)
  broken [
    (w 0 / 32 % 1024 == 0 && decide (n ≤ 29) && w 2 % 64 == 0 && decide (w 2 + w 1 ≤ stagingSize), E_RANGE),
    ((match opForm op with
      | some (lo, hi, pay) => decide (lo ≤ n) && decide (n ≤ hi) && (pay == (w 1 != 0))
      | none => true), E_RANGE),
    (!(isStewardOp op && decide (2 ≤ stage) && decide (stage ≤ 8)), E_BUSY),
    (!old, E_STATE),
    (stage == 9 || (stage == 0xA && isStewardOp op), E_STATE),
    (!standby || isStewardOp op, E_STATE),
    (opOn ch op, E_UNKNOWN)]

/-- The request of a group that decides its rejection, with its code: the first that broke a rule of its own, or the one
from which on the group's changes together break a rule (DESIGN CHOICE, assumption 84). -/
def OpenGroup.verdict (g : OpenGroup) : Option (Nat × Nat) :=
  match g.bad, g.unfit with
  | some b, _ => some b
  | none, some (k, cs) => (pickCode cs).map (fun c => (k, c))
  | none, none => none

/-- A group that has been closed is answered or accepted (R111). -/
def State.closeGroup (s : State) (g : OpenGroup) : State :=
  let s1 := s.setGroup g.ch none
  match g.verdict with
  | none => s1.accept g.members
  | some (k, code) =>
    s1.each g.members.zipIdx (fun t q => t.refuse g.ch q.1.op q.1.tag (if q.2 = k then code else E_CONFLICT))

/-- What a group's changes together break, brought up to date with its next request: the codes that have stood since an
earlier one go on, and otherwise the new request begins them. -/
def OpenGroup.unfitNow (g : OpenGroup) (codes : List Nat) : Option (Nat × List Nat) :=
  let still := ((g.unfit.map (fun u => u.2)).getD []).filter codes.contains
  match g.unfit with
  | some u => if !still.isEmpty then some (u.1, still) else if codes.isEmpty then none else some (g.members.length, codes)
  | none => if codes.isEmpty then none else some (g.members.length, codes)

/-- A request joins the group of its channel, which it closes where MORE is 0: `codes` are the rules it breaks itself, and
`left` those that the group's changes break with it, where it makes any. A 65th request breaks the limit of the group with
E_CAPACITY (DESIGN CHOICE, assumption 84). -/
def State.joinGroup (s : State) (ch : Nat) (a : Amend) (since : Nat) (codes : List Nat) (left : Option (List Nat)) (more : Bool) :
    State :=
  let g := (s.groupOn ch).getD ⟨ch, s.requests.groupNo, since, [], none, none⟩
  let k := g.members.length
  let bad := match g.bad with
    | some b => some b
    | none => (pickCode (codes ++ broken [(decide (k < 64), E_CAPACITY)])).map (fun c => (k, c))
  let unfit := match left with
    | some cs => g.unfitNow cs
    | none => g.unfit
  let g1 : OpenGroup := { g with members := g.members ++ [{ a with group := some g.no }], bad := bad, unfit := unfit }
  let s1 : State := { s with requests := { s.requests with groupNo := max s.requests.groupNo (g.no + 1) } }
  if more then s1.setGroup ch (some g1) else s1.closeGroup g1

/-- A request that is discarded unread: a member of its group, or answered by itself (R111). -/
def State.timeOut (s : State) (c h at_ : Nat) : State :=
  let a : Amend := ⟨c, h / 2 ^ 24, h / 2 ^ 16 % 256, [], [], none⟩
  if !isStewardOp a.op && (bitOf h 15 || (s.groupOn c).isSome) then s.joinGroup c a at_ [E_TIMEOUT] none (bitOf h 15)
  else s.refuse c a.op a.tag E_TIMEOUT

/-- Words that a request's header asks for in all. -/
def requestLen (h : Nat) : Nat := 3 + h % 32

/-- A request at the head of a channel of which 10 ms after its header not all words had come is discarded with those that
had (R111). -/
def State.expireWords (s : State) (c : Nat) : State :=
  let d := qchXY c
  match s.waiting d.data with
  | [] => s
  | w :: ws =>
    let h := w.word.toNat
    let come := (w :: ws).takeWhile (fun x => decide (x.at_ ≤ w.at_ + 10 * cycPerMs))
    if h % 32 ≤ 29 && decide (come.length < requestLen h) && decide (w.at_ + 10 * cycPerMs ≤ s.now) then
      (s.popWords d come.length).timeOut c h w.at_
    else s

/-- The open group of a channel is rejected whole where it was not closed within 100 ms of its first header: a request that
came in time is handled before (R111). -/
def State.expireGroup (s : State) (c : Nat) : State :=
  match s.groupOn c with
  | none => s
  | some g =>
    let inTime := (s.waiting (qchXY c).data).head?.any (fun w => decide (w.at_ < g.since + 100 * cycPerMs))
    if s.now < g.since + 100 * cycPerMs || inTime then s
    else (s.setGroup c none).each g.members (fun t a => t.refuse c a.op a.tag E_TIMEOUT)

/-- The checks of a steward command (R110): slot, offset, and a length of at least 1 inside the slot. -/
def State.norCodes (s : State) (inl : List Word) (len : Nat) : List Nat :=
  let off := inlW inl 2
  broken [(decide (inlW inl 1 < 2) && off % 0x10000 == 0 && decide (1 ≤ len) && decide (off + len ≤ s.norHalf), E_RANGE)]

/-- The steward handles the request at the head of a channel (R10, R108 to R111). A request that is not all there waits; one
that breaks a rule is answered with the lowest of their codes; `own` handles any other. A command names the opcode that it
carries out: a request with another assigned opcode of the channel is left to the command of that opcode. -/
def State.request (s : State) (ch : ReqChannel) (op : Nat)
    (own : State → Amend → State) : State :=
  let c := chNum ch
  let d := qchXY c
  let s0 := ((s.seeReset c).expireGroup c).expireWords c
  let words := s0.requestWords d
  let h := (words[0]?).getD 0
  let n := h % 32
  let oversize := decide (29 < n)
  if words.isEmpty || s0.mustWait c || (!oversize && decide (words.length < 3 + n)) then s0
  else if opOn ch (h / 2 ^ 24) && h / 2 ^ 24 != op then s0
  else
    let old := decide (0 < s0.rd d.preLevel)
    let since := (((s0.waiting d.data)[0]?).map QWord.at_).getD 0
    let s1 := s0.popWords d (min words.length (3 + n))
    let len := (words[1]?).getD 0
    let tag := h / 2 ^ 16 % 256
    let more := bitOf h 15
    let pay := if isStewardOp (h / 2 ^ 24) && h / 2 ^ 24 == 0x41 then [] else
      s1.bytes (s1.stagingBase + (words[2]?).getD 0) (if len ≤ stagingSize then len else 0)
    let a : Amend := ⟨c, h / 2 ^ 24, tag, ((words.drop 3).take n).map (BitVec.ofNat 32), pay, none⟩
    let form := s0.formCodes ch words old
    let readable := opOn ch a.op && !form.contains E_RANGE
    if isStewardOp a.op || !readable then
      let codes := form ++ (if readable then s1.norCodes a.inl len else [])
      if !isStewardOp a.op && (more || (s1.groupOn c).isSome) then s1.joinGroup c a since codes none more
      else
        match pickCode codes with
        | some code => s1.refuse c a.op tag code
        | none => own s1 { a with inl := a.inl ++ [BitVec.ofNat 32 len] }
    else if more || (s1.groupOn c).isSome then
      let base := s1.draft []
      let before := base.applyAll (((s1.groupOn c).map OpenGroup.members).getD [])
      s1.joinGroup c a since (form ++ before.ownCodes a) (some ((before.apply a).leftCodes base a)) more
    else
      match pickCode (form ++ (s1.draft []).codes a) with
      | some code => s1.refuse c a.op tag code
      | none => own s1 a

/-- An amendment's row: the request is checked and, where it stands alone and passes, accepted. -/
def State.amendment (s : State) (ch : ReqChannel) (op : Nat) : Out :=
  .next (s.request ch op (fun t a => t.accept [a]))

/-- REQUEST_WORDS_TIMEOUT (R111): 10 ms after its header a request is not all there; it is discarded. -/
def execRequestWordsTimeout (channel : ReqChannel) (s : State) : Out := .next (s.expireWords (chNum channel))

/-- GROUP_TIMEOUT (R111): a group not closed within 100 ms of its first header is rejected whole. -/
def execGroupTimeout (channel : ReqChannel) (s : State) : Out := .next (s.expireGroup (chNum channel))

/-! One command per opcode. -/

/-- ATLAS_WRITE (R133). -/
def execAtlasWrite (channel : ReqChannel) (s : State) : Out := s.amendment channel 0x01
/-- ATLAS_CLEAR (R133). -/
def execAtlasClear (channel : ReqChannel) (s : State) : Out := s.amendment channel 0x02
/-- ATLAS_SERVICE (R133). -/
def execAtlasService (channel : ReqChannel) (s : State) : Out := s.amendment channel 0x03
/-- ATLAS_REPLACE (R133). -/
def execAtlasReplace (channel : ReqChannel) (s : State) : Out := s.amendment channel 0x04
/-- GAZ_WRITE (R135). -/
def execGazWrite (channel : ReqChannel) (s : State) : Out := s.amendment channel 0x10
/-- GAZ_DELETE (R135). -/
def execGazDelete (channel : ReqChannel) (s : State) : Out := s.amendment channel 0x11
/-- GAZ_ADMIT (R304). -/
def execGazAdmit (channel : ReqChannel) (s : State) : Out := s.amendment channel 0x12
/-- GAZ_SUBST (R133). -/
def execGazSubst (channel : ReqChannel) (s : State) : Out := s.amendment channel 0x13
/-- GAZ_ENABLE (R135). -/
def execGazEnable (channel : ReqChannel) (s : State) : Out := s.amendment channel 0x14
/-- GAZ_REFUSE (R304). -/
def execGazRefuse (channel : ReqChannel) (s : State) : Out := s.amendment channel 0x15
/-- EXCH_LOAD (R261). -/
def execExchLoad (channel : ReqChannel) (s : State) : Out := s.amendment channel 0x20
/-- EXCH_SWAP (R261). -/
def execExchSwap (channel : ReqChannel) (s : State) : Out := s.amendment channel 0x21
/-- EXCH_REVERT (R265). -/
def execExchRevert (channel : ReqChannel) (s : State) : Out := s.amendment channel 0x22
/-- EXCH_DISCARD (R261). -/
def execExchDiscard (channel : ReqChannel) (s : State) : Out := s.amendment channel 0x23
/-- TARIFF_WRITE (R348). -/
def execTariffWrite (channel : ReqChannel) (s : State) : Out := s.amendment channel 0x28
/-- GL_DEF_WRITE (R402). -/
def execGlDefWrite (channel : ReqChannel) (s : State) : Out := s.amendment channel 0x30
/-- GL_DEF_CLEAR (R402). -/
def execGlDefClear (channel : ReqChannel) (s : State) : Out := s.amendment channel 0x31
/-- PROFILE_WRITE (R193). -/
def execProfileWrite (channel : ReqChannel) (s : State) : Out := s.amendment channel 0x38
/-- CAMPAIGN_NOW (R193). -/
def execCampaignNow (channel : ReqChannel) (s : State) : Out := s.amendment channel 0x39

/-! Steward commands (R110). Their inline words are followed by the staged length. -/

/-- NOR_WRITE (R110): the sectors that the payload covers are erased and the payload is programmed; a failure that the
device reports leaves the range as it may be. -/
def execNorWrite (channel : ReqChannel) (failed : Bool) (s : State) : Out :=
  .next (s.request channel 0x40 (fun t a =>
    let base := slotBase (inlW a.inl 1) + inlW a.inl 2
    let len := inlW a.inl 3
    let size := (len + 0xFFFF) / 0x10000 * 0x10000
    if failed || !t.norAnswers (inlW a.inl 1) then
      ((t.putBytes base ((List.range size).map (fun i => Config.norByte t.free (base + i)))).drawn).refuse a.ch a.op a.tag
        E_NOR_FAIL
    else ((t.clearMem base size).putBytes base a.payload).reply (qchYX a.ch).data a.op a.tag E_OK len))

/-- NOR_CHECK (R110): the CRC-32C of a range of a slot. -/
def execNorCheck (channel : ReqChannel) (s : State) : Out :=
  .next (s.request channel 0x41 (fun t a =>
    t.reply (qchYX a.ch).data a.op a.tag E_OK
      (crc32c (t.bytes (slotBase (inlW a.inl 1) + inlW a.inl 2) (inlW a.inl 3)))))

/-! The applying headland (R111, R114, R115, R135). -/

/-- The units that are applied whole: single amendments, and groups. -/
def unitsOf : List Amend → List (List Amend)
  | [] => []
  | a :: r =>
    match unitsOf r with
    | (b :: u) :: us => if a.group.isSome && a.group == b.group then (a :: b :: u) :: us else [a] :: (b :: u) :: us
    | us => [a] :: us

/-- Bytes of staged payload. -/
def payloadOf (xs : List Amend) : Nat := sumN (xs.map (fun a => a.payload.length))

/-- The units that fit beside some requests and bytes already chosen. -/
def takeUnits (n bytes : Nat) : List (List Amend) → List Amend
  | [] => []
  | u :: us =>
    if n + u.length ≤ 256 ∧ bytes + payloadOf u ≤ 0x400000 then u ++ takeUnits (n + u.length) (bytes + payloadOf u) us
    else []

/-- What one headland applies, of the amendments that wait: a unit above 4 MiB alone. -/
def headlandBatch (xs : List Amend) : List Amend :=
  match unitsOf xs with
  | [] => []
  | u :: us => if 0x400000 < payloadOf u then u else takeUnits 0 0 (u :: us)

/-- At the edge that begins a headland the steward takes semaphore 31, if it can, and the amendments to apply. -/
def State.takeBatch (s : State) : State :=
  let xs := s.requests.accepted
  let held := s.semHeld 31
  if xs.isEmpty || (held && s.semOwner 31 != mSteward) then s
  else
    let b := headlandBatch xs
    let s1 := if held then s else s.semTake 31 mSteward
    { s1 with requests := { s1.requests with applying := b, accepted := xs.drop b.length } }

/-- Amendments applied together on the edge that ends a headland. -/
def State.applyBatch (s : State) (xs : List Amend) : State :=
  let old := s.rd ATLAS_STAT_IN_FORCE
  let new := s.spareBank
  let d := Draft.applyAll ⟨s, false⟩ xs
  let s1 := if !d.dirty then d.s
    else
      let t := ((d.s.wr ATLAS_STAT_IN_FORCE new).replaceFurrows old new).membersChanged old new
      let u : State := { t with requests := { t.requests with spare := t.nextSpare old new } }
      (u.setReg ATLAS_GEN (u.reg ATLAS_GEN + 1)).showAtlas
  if xs.any (fun a => isGazOp a.op) then (s1.bumpWrap GAZ_GEN_GEN 1).showGaz else s1

/-- The block whose configuration an amendment changes. -/
def amendBlock (op : Nat) : Nat :=
  if isAtlasOp op then bAtlas else if isGazOp op then bField else if op < 0x28 then bPass else if op < 0x30 then bMeter
  else if op < 0x38 then bGleaner else bTiller

/-- An amendment applied is recorded in the Gleaner (R61); an exchange records itself. -/
def State.recordAmendment (s : State) (a : Amend) : State :=
  if a.op = 0x21 ∨ a.op = 0x22 then s else s.event (amendBlock a.op) 0 0

/-- The batch of the headland is applied and recorded, the semaphore released, and the replies are posted. -/
def State.applyAmendments (s : State) : State :=
  let xs := s.requests.applying
  if xs.isEmpty then s
  else
    let s1 := ((s.applyBatch xs).each xs State.recordAmendment).letGo31
    let s2 : State := { s1 with requests := { s1.requests with applying := [] } }
    s2.each xs (fun t a => t.reply (qchYX a.ch).data a.op a.tag E_OK (t.reg GLOBAL_PASS_CNT_LO).toNat)

end Sys2Proof.Machine
end

