-- ==== Sys2Proof/Machine/Pair.lean ====
section
/-! DEFINITION. The redundant pair (R351 to R374): the headland link and its frames, the headland set of the active unit,
shadow passes and commits of the standby, comparison and triangulation, authority, takeover and joining. -/

namespace Sys2Proof.Machine

def E_ROLE : Nat := 0x10
def E_UNRESOLVED : Nat := 0x11
def E_INCOMPATIBLE : Nat := 0x12

/-- A frame or control block sent to the partner. -/
def State.sendPair (s : State) (f : PairFrame) : State := s.send (.pairFrame f)

/-- The link is up. -/
def State.linkUp (s : State) : Bool := s.rd PAIR_STAT_LINK_UP == 1

/-- The field root key check value (R379): 0 while slot 1 is not VALID. -/
def State.kcv (s : State) : Nat :=
  if s.rootValid then
    ofLeBytes (kmac256 ((((s.keys.slots[1]?).bind KeySlot.value)).getD []) (ascii "KEIVIX-KCV") 8 "KEIVIX-KDF")
  else 0

/-- The HELLO of this unit (R361). -/
def State.hello (s : State) : PairHello :=
  ⟨s.rd GLOBAL_MODE_ROLE == 1, Config.uid.toNat, Config.pairVersion, s.pair.configDigest, s.kcv, s.prState,
    s.rd PAIR_STAT_READY == 1⟩

/-- The HELLO of this unit sent. -/
def State.tell (s : State) : State := (s.sendPair (.hello s.hello)).setPair { s.pair with told := some s.hello }

/-- What a paired unit sends on the link by time (R360, R363): ALIVE every 1 µs, and its HELLO when it starts and whenever what
it says has changed (DEDUCED: R354 and R368 speak of what a HELLO shows; assumption 100). -/
def State.pairTick (s : State) : State :=
  if !s.paired then s
  else
    let s1 := if s.linkUp && s.now % cycPerUs == 0 then
        s.sendPair (.alive (s.rd GLOBAL_MODE_AUTH == 1) (s.reg GLOBAL_PASS_CNT_LO).toNat) else s
    if s1.pair.told.isNone || (s1.linkUp && s1.pair.told != some s1.hello) then s1.tell else s1

/-- PASS of a frame: the low word of the pass count. -/
def State.pass32 (s : State) : Nat := (s.reg GLOBAL_PASS_CNT_LO).toNat

/-! Pass-critical state (R356). -/

/-- The memory areas: area, offset in it, address on this unit, length. -/
def State.copyRanges (s : State) : List (Nat × Nat × Nat × Nat) :=
  [(1, 0, s.inBase, 0x400000), (2, 0, areaM, 0x480000), (2, 0x1000000, instBank s.bank, 0x160000),
   (3, 0, s.outBaseOther, 0x200000), (4, 0, sd 0x2000000, 0x400000), (4, 0x400000, sd 0x2540000, 0x20000),
   (4, 0x420000, sd 0x2560000, 0x4000), (5, 0, furrowArea, 0x1400000)]

/-- Key of a byte of copied memory. -/
def copyKey (area off : Nat) : Nat := area * 2 ^ 32 + off

/-- The copied memory as it stands on this unit. -/
def State.copyView (s : State) : List Host.Cell :=
  s.copyRanges.flatMap (fun r => (smapRange s.mem r.2.2.1 (r.2.2.1 + r.2.2.2)).map (fun e =>
    (copyKey r.1 r.2.1 + (e.1 - r.2.2.1), e.2)))

/-- One range made to read as a copy. -/
def State.restoreRange (s : State) (v : List Host.Cell) (r : Nat × Nat × Nat × Nat) : State :=
  let k := copyKey r.1 r.2.1
  let bytes := (smapRange v k (k + r.2.2.2)).map (fun e => (e.1 - k + r.2.2.1, e.2))
  { s with mem := smapSetAll memDefault (smapDrop s.mem r.2.2.1 (r.2.2.1 + r.2.2.2)) bytes }

/-- The blocks in which two copies differ, by key / 64, ascending. -/
def viewDiff (a b : List Host.Cell) : List Nat :=
  let ks := (a.filter (fun e => !b.contains e) ++ b.filter (fun e => !a.contains e)).map (fun e => e.1 / 64)
  sortBy (fun x y => decide (x < y)) (ks.foldl addOnce [])

/-- A block of a copy. -/
def viewBlock (v : List Host.Cell) (k : Nat) : PairBlock :=
  .bytes (k / 2 ^ 26) (k % 2 ^ 26) ((List.range 64).map (fun i => smapGet (fun _ => 0) v (64 * k + i)))

/-- Blocks put into a copy. -/
def applyBlocks (v : List Host.Cell) (bs : List PairBlock) : List Host.Cell :=
  bs.foldl (fun m b =>
    match b with
    | .bytes a n xs => smapSetAll (fun _ => 0) m (xs.zipIdx.map (fun x => (copyKey a (64 * n) + x.2, x.1)))
    | _ => m) v

/-- A register with its fraction, in 2⁻³² of its unit. -/
def State.energyFine (s : State) (lo : Nat) : Nat := s.energy lo * 2 ^ 32 + smapGet (fun _ => 0) s.meter.frac lo

/-- A register with its fraction set. -/
def State.setEnergyFine (s : State) (lo v : Nat) : State :=
  if 2 ^ 128 ≤ v then s.putEnergy lo (2 ^ 96 - 1) true
  else
    let s1 := s.putEnergy lo (v / 2 ^ 32) false
    s1.setMeter { s1.meter with frac := smapSet (fun _ => 0) s1.meter.frac lo (v % 2 ^ 32) }

/-- The areas that are no memory, as they stand. -/
def State.recordBlocks (s : State) : List PairBlock :=
  [.flow s.survey.qhat s.survey.tnode s.survey.dEst] ++
    energyRegs.map (fun lo => .meter lo (s.energyFine lo / 2 ^ 32) (s.energyFine lo % 2 ^ 32)) ++
    (List.range 16).map (fun n => .dir n (s.rd (MT_HM_STAT_DIR n)) (s.reg (MT_HE_REV n)).toNat) ++ [.time s.cal] ++
    (List.range 32).map (fun n =>
      let e := s.engine n
      .engine n (s.acc n) e.e1 e.e2 e.f1 e.d1 e.z e.v (s.rd (LOOP_CTL_RUN n) == 1) (s.rd (LOOP_CTL_MANUAL n) == 1)) ++
    [.passState (s.rd64 PASS_MS_LO PASS_MS_HI) s.pass.msAcc (s.rd PASS_MODE_STAT_MODE) (s.rd PASS_MODE_STAT_STOP_CAUSE)
      ((s.pass.prog.map Program.progId).getD 0) s.pass.staged.isSome (s.rd PAIR_EPOCH_EPOCH) s.field.sent]

/-- The campaign block (R357). -/
def State.campaignBlock (s : State) : PairBlock :=
  .campaign (s.bytes (tableBase (s.rd CMN_STAT_BUF)) tableLen) s.survey.ests s.camp.store

/-- The digest of an output buffer (R357). -/
def State.outDigest (s : State) : Nat := ofBeBytes (shake256 (s.bytes s.outBaseOther 0xF0000) 16)

/-- A campaign published since the last look gives its digest (R357), with the pass and whether it was at the deadline. -/
def State.noteCampaign (s : State) : State :=
  let base := tableBase (s.rd CMN_STAT_BUF)
  let num := s.ld (base + 4) 4
  if num = s.pair.campSeen then s
  else s.setPair { s.pair with
    campSeen := num,
    campOut := true,
    ownCamp := some (s.pass32, ofBeBytes (shake256 (s.bytes (base + 0x40) (tableLen - 0x40)) 16),
      s.ld (base + 0x14) 4 % 2 == 1) }

/-- The campaign digest that the next DIGEST frame carries. -/
def State.campaignOut (s : State) : Option (Nat × Bool) :=
  if s.pair.campOut then s.pair.ownCamp.map (fun c => c.2) else none

/-! Forwarded changes and the journal (R372, R373). -/

/-- Bytes of payload of a change. -/
def writeBytes : PairWrite → Nat
  | .amend _ _ p => p.length
  | _ => 0

/-- The journal can take no more. -/
def State.journalFull (s : State) : Bool :=
  decide (16384 ≤ s.pair.journal.length) || decide (0x2000000 ≤ sumN (s.pair.journal.map writeBytes))

/-- Changes put into the journal while it has room. -/
def State.journalAdd (s : State) (ws : List PairWrite) : State :=
  s.each ws (fun t w => if t.journalFull then t else t.setPair { t.pair with journal := t.pair.journal ++ [w] })

/-- Changes that the active unit applies are forwarded and kept in its journal. -/
def State.forwardAll (s : State) (ws : List PairWrite) : State :=
  if !s.paired || s.prState != prActive || ws.isEmpty then s
  else (s.setPair { s.pair with forward := s.pair.forward ++ ws }).journalAdd ws

/-- An amendment as it is forwarded. -/
def forwarded (a : Amend) : PairWrite := .amend a.op (a.inl.map BitVec.toNat) a.payload

/-- The first and second index of a register within its family. -/
def regIndex (r : RegRow) (off k : Nat) : Nat := ((dimsIndex r.dims (off - r.base))[k]?).getD 0

/-- A bit goes from 0 to 1, or from 1 to 0. -/
def rises (old new : Word) (n : Nat) : Bool := !bitOf old.toNat n && bitOf new.toNat n
def falls (old new : Word) (n : Nat) : Bool := bitOf old.toNat n && !bitOf new.toNat n

/-- SLEEP_REQ set by a write (R324); whether a frame is past arbitration is not the write's to say (assumption 28). -/
def State.sleepAsked (s : State) (c : Nat) : State := ((s.mayStart c).endQueue c txAsleep).cbSleepIfAsked c

/-- What follows when a register of the RW fields of a block changes (R276, R281, R284, R314, R324, R331): engines, ports,
channels, pulse inputs and meters start and stop. -/
def State.configured (s : State) (r : RegRow) (off : Nat) (old : Word) : State :=
  let new := s.reg off
  let n := regIndex r off 0
  if r.base = LOOP_CTL 0 then
    let s1 := if rises old new 0 then s.engineStart n else if falls old new 0 then s.engineStop n else s
    if rises old new 2 then s1.holdSet n else if falls old new 2 then s1.holdClear n else s1
  else if r.base = LOOP_OUT 0 then (if s.leState n = leRunning then s else s.driveEngine n (s.safeCode n))
  else if r.base = FP_CTL 0 then (if rises old new 0 then s.portStart n else if falls old new 0 then s.portStop n else s)
  else if r.base = CB_CTL 0 then
    let s1 := if rises old new 0 then s.cbStart n else if falls old new 0 then s.cbStop n else s
    if rises old new 3 then s1.sleepAsked n else s1
  else if r.base = MT_PLS_CFG 0 then
    (if rises old new 0 then s.setPulse n { s.pulseIn n with edges := 0, started := 0, used := s.metNow } else s)
  else if r.base = MT_HM_SRC 0 then
    (if rises old new 31 then s.setHeatMeter n { s.heatMeter n with runFrom := s.cal } else s)
  else s

/-- A new pass period (R21, R298, R364): the next tick takes it, every open session learns it, and PAIR_LIMIT follows. -/
def State.applyPeriod (s : State) : State :=
  ((s.setPass { s.pass with periodNext := some (s.rd PASS_PERIOD_PERIOD_MS) }).welcomeAll).wr PAIR_LIMIT_KIB
    (pairLimit (s.rd PASS_PERIOD_PERIOD_MS))

/-- The lane whose LANE_CTL lies at an offset. -/
def laneOf? (off : Nat) : Option Nat :=
  if 0x80000 ≤ off ∧ off < 0x90000 ∧ off % 0x100 = 0 then some ((off - 0x80000) / 0x100) else none

/-- What follows when class-A fields of a register take effect at a headland. -/
def State.appliedA (s : State) (off : Nat) : State :=
  if off = PASS_PERIOD then s.applyPeriod
  else match laneOf? off with
    | some n => s.laneHold n
    | none => if off = PAIR_CFG then s.showHeld else s

/-- A forwarded register write applied, with what follows from it. -/
def State.applyWrite (s : State) (off mask value : Nat) : State :=
  let old := s.reg off
  let s1 := s.setReg off ((old &&& ~~~(BitVec.ofNat 32 mask)) ||| (BitVec.ofNat 32 value &&& BitVec.ofNat 32 mask))
  match regRow? off with
  | some r => (s1.configured r off old).appliedA off
  | none => s1

/-- Forwarded changes applied at the standby's headland: the amendments together, as the active unit applied them. -/
def State.applyWrites (s : State) (ws : List PairWrite) : State :=
  let amends := ws.filterMap (fun w =>
    match w with
    | .amend op inl p => some (Amend.mk 0 op 0 (inl.map (BitVec.ofNat 32)) p none)
    | _ => none)
  let s1 := s.each ws (fun t w =>
    match w with
    | .write off mask value => t.applyWrite off mask value
    | .commit r => t.setReg ACCESS_CFG_REF (BitVec.ofNat 32 r)
    | .amend _ _ _ => t)
  (if amends.isEmpty then s1 else s1.applyBatch amends).journalAdd ws

/-! Committing (R354, R358). -/

/-- READY shown (R354). -/
def State.showReady (s : State) : State :=
  let ok := s.prState == prStandby && s.pair.setOk && (s.pair.matched || s.rd PAIR_CFG_COMPARE_EN == 0) &&
    s.rd PAIR_STAT_UNTRUSTED == 0 && s.linkUp
  s.wr PAIR_STAT_READY (b2n ok)

/-- At its headland-begin edge the standby latches its metering registers and calendar time. -/
def State.latchMetering (s : State) : State :=
  s.setPair { s.pair with latch := energyRegs.map (fun lo => (lo, s.energyFine lo)), latchCal := s.cal }

/-- One record committed; a metering register takes the copied value and the unit's own increase since the latch. -/
def State.commitRecord (s : State) (b : PairBlock) : State :=
  match b with
  | .bytes _ _ _ => s
  | .flow q t d => { s with survey := { s.survey with qhat := q, tnode := t, dEst := d } }
  | .meter lo v f =>
    let copied := v * 2 ^ 32 + f
    let since := s.energyFine lo - (s.pair.latch.lookup lo).getD (s.energyFine lo)
    (s.setEnergyFine lo (copied + since)).setPair { s.pair with
      latch := (lo, copied) :: s.pair.latch.filter (fun x => x.1 != lo) }
  | .dir n d r => (s.wr (MT_HM_STAT_DIR n) d).setReg (MT_HE_REV n) (BitVec.ofNat 32 r)
  | .time c =>
    let since := if s.pair.latch.isEmpty then 0 else s.cal - s.pair.latchCal
    { s with cal := c + since, pair := { s.pair with latchCal := c } }
  | .engine n i e1 e2 f1 d1 z v run manual =>
    let s1 := (s.setEngine n { s.engine n with e1 := e1, e2 := e2, f1 := f1, d1 := d1, z := z, v := v, first := false }).setAcc n i
    ((s1.wr (LOOP_CTL_RUN n) (b2n run)).wr (LOOP_CTL_MANUAL n) (b2n manual)).wr (LOOP_STAT_STATE n)
      (if run then leRunning else if s1.leState n = leRunning then leStopped else s1.leState n)
  | .passState ms acc mode cause _ _ epoch sent =>
    let s1 := ((s.wr64 PASS_MS_LO PASS_MS_HI ms).setMode mode).wr PASS_MODE_STAT_STOP_CAUSE cause
    let s2 := (s1.setPass { s1.pass with msAcc := acc }).raise PAIR_EPOCH_EPOCH epoch
    s2.setField { s2.field with sent := sent }
  | .campaign table ests store =>
    let buf := s.rd CMN_STAT_BUF
    let s1 := (s.putBytes (tableBase buf) table).showTable buf
    { s1 with survey := { s1.survey with ests := ests }, camp := { s1.camp with store := store } }

/-- FX_STAT shows the sessions and the waiting room as they stand. -/
def State.showOpen (s : State) : State :=
  (s.wr FX_STAT_OPEN (s.gzAll.filter (fun g => s.gz g 0x22 1 == seOpen)).length).wr FX_STAT_WR_USED s.wrUsed.length

/-- A complete set committed: every area replaces the unit's own, and its forwarded changes are applied. -/
def State.commitSet (s : State) (r : PairSet) : State :=
  let s1 := (s.each s.copyRanges (fun t x => t.restoreRange r.mem x)).canCommit s.inBase
  let s2 := (s1.copyMem s1.outBaseOther s1.outBase 0x200000).clearSends s1.outBase
  let s3 := (s2.each r.blocks State.commitRecord).applyWrites r.writes
  (((s3.setPair { s3.pair with
    committed := some (r.pass, r.at_), acked := r.mem, setOk := true }).showPairLimit).showGaz).showOpen.showReady

/-! The headland link (R360 to R363). -/

/-- The part of a state that belongs to a pair link: the unit is paired. -/
def State.onLink (s : State) : Bool := s.paired && s.linkUp

/-- A frame whose CRC-32C fails is counted. -/
def State.crcFails (s : State) : State := s.bump PAIR_LINK_CRC_ERR 1

/-- ALIVE (R360). -/
def execAlive (auth : Bool) (pass : Nat) (s : State) : Out :=
  .next (
    if !s.onLink then s
    else (s.wr PAIR_LINK_ALIVE 1).setPair { s.pair with aliveAt := s.now, alive := some (auth, pass) })

/-- The end of the wait of the timed rule (R368): 1 period for unit A, 3 for unit B. -/
def State.startWait (s : State) : State :=
  if s.pair.waitEnd.isSome then s
  else
    let k := if s.rd GLOBAL_MODE_ROLE = 1 then 3 else 1
    s.setPair { s.pair with waitEnd := some (s.now + k * s.pass.period * cycPerMs) }

/-- The wait of the timed rule ends without a takeover. -/
def State.cancelWait (s : State) : State := s.setPair { s.pair with waitEnd := none }

/-- Nothing received or committed is kept. -/
def State.dropCopies (s : State) : State :=
  (s.setPair { s.pair with
    acked := [], recv := none, staged := none, shadow := none, committed := none, heard := [], status := [], diffs := [],
    latch := [], handover := false, setOk := false, matched := false, waitEnd := none }).wr PAIR_STAT_READY 0

/-- A pass in progress is abandoned: the cores are restarted, and what its headland would have applied waits. -/
def State.abandonPass (s : State) (runsNext : Bool) : State :=
  let s1 := ((s.each allCores (fun t n => t.restartCore n runsNext)).abandonHeadland).setPhase phRemainder
  s1.setPass { s1.pass with lateDue := none }

/-- The unit runs passes of its own again, from its own timer. -/
def State.resumeOwn (s : State) : State :=
  s.setPass { s.pass with nextTick := s.now + s.pass.period * cycPerMs, lateDue := none }

/-- The unit becomes FALLOW, or WAITING, without authority (R354). -/
def State.leaveStandby (s : State) (st : Nat) : State :=
  let slaved := !s.ownPasses
  let s1 := (s.wr PAIR_STAT_STATE st).dropCopies
  if slaved then (s1.abandonPass true).resumeOwn else s1

/-- The HELLOs agree (R372). -/
def State.agrees (s : State) (h : PairHello) : Bool :=
  let o := s.hello
  h.version == o.version && h.digest == o.digest && h.kcv == o.kcv && h.role != o.role

/-- A unit that is not ACTIVE joins, with the link up and AUTH_IN asserted (R372). -/
def State.tryJoin (s : State) : State :=
  match s.pair.hello with
  | none => s
  | some h =>
    if !s.linkUp || s.rd PAIR_STAT_AUTH_IN = 0 || s.prState = prActive then s
    else if s.agrees h then
      (((s.dropCopies).abandonPass true).wr PAIR_STAT_STATE prJoining).sendPair (.join .request)
    else (s.leaveStandby prFallow).recordFault 1 bPair E_INCOMPATIBLE 0

/-- A HELLO shows a partner of the unit's own role (R371). -/
def State.sameRole (s : State) : Bool :=
  s.pair.hello.any (fun h => h.role == (s.rd GLOBAL_MODE_ROLE == 1))

/-- The rows of R368 that do not depend on a fall of AUTH_IN. -/
def State.authRule (s : State) : State :=
  let st := s.prState
  let holds := s.pair.hello.any (fun h => h.state == prStandby || h.state == prActive)
  if !s.paired || st = prActive || st = prSingle || st = prFallow then s
  else if s.rd PAIR_STAT_AUTH_IN = 1 then (if st = prWaiting then s.cancelWait.tryJoin else s.cancelWait)
  else if (st = prWaiting || st = prStandby) && (!s.linkUp || !holds) && !s.sameRole then s.startWait
  else s

/-- The pair state after PAIRED has changed (R351, R354), and what it means for the plant bus (R315). -/
def State.pairedChanged (s : State) : State :=
  if s.paired && s.prState == prSingle then (s.wr PAIR_STAT_STATE prWaiting).busDropAuth.authRule
  else if !s.paired && s.prState != prSingle then
    ((s.setAuth false).dropCopies.wr PAIR_STAT_STATE prSingle).busTakeAuth
  else s

/-- LINK_FAILURE (R363): lanes without lock, or no ALIVE for 100 µs. -/
def execLinkFailure (lock : BitVec 2) (s : State) : Out :=
  let silent := decide (s.pair.aliveAt + 100 * cycPerUs ≤ s.now)
  .next (
    if !s.onLink || (lock == 3 && !silent) then s
    else
      let s1 := ((s.wr PAIR_STAT_LINK_UP 0).wr PAIR_STAT_PARTNER 0).wr PAIR_LINK_LOCK lock.toNat
      let s2 := (s1.wr PAIR_LINK_ALIVE (b2n (!silent))).bump PAIR_LINK_DOWN_CNT 1
      let s3 := ((s2.stopClock 6).startFault 1 bPair 0 0).setPair { s2.pair with
        hello := none, told := none, recv := none, handover := false }
      let s4 := s3.showReady
      (if s4.prState = prJoining then s4.leaveStandby prWaiting else s4).authRule)

/-- HEADLAND_LINK_UP (R363): both lanes lock and HELLOs have been exchanged. -/
def execHeadlandLinkUp (s : State) : Out :=
  .next (
    if !s.paired || s.linkUp || s.pair.hello.isNone then s
    else
      let s1 := ((s.wr PAIR_STAT_LINK_UP 1).wr PAIR_LINK_LOCK 3).wr PAIR_LINK_ALIVE 1
      let s2 := ((s1.clockFlag 6 false).endFault bPair 0 0).setPair { s1.pair with aliveAt := s.now }
      s2.showReady.authRule)

/-- PAIR_HELLO (R361, R371, R372): the unit answers the first HELLO of a link with its own. -/
def execPairHello (hello : PairHello) (crcOk : Bool) (s : State) : Out :=
  .next (
    if !s.paired then s
    else if !crcOk then s.crcFails
    else
      let s1 := if s.pair.hello.isNone then s.tell else s
      let s2 := (s1.wr PAIR_STAT_PARTNER 1).wr PAIR_STAT_PARTNER_ROLE (b2n hello.role)
      let s3 := s2.setPair { s2.pair with hello := some hello }
      if s3.sameRole then
        let s4 := s3.recordFault 2 bPair E_ROLE 0
        if s4.prState = prActive then s4 else s4.leaveStandby prFallow
      else s3.authRule)

/-! Status items (R359). -/

/-- Each item of the comparison: its record (section of R214 times 65,536 plus index), this unit's own value, and where and
under which mask the image shows it. -/
def State.statusItems (s : State) : List (Nat × Nat × Nat × Nat) :=
  let word (rec : List Byte) (off : Nat) : Nat := ofLeBytes ((rec.drop off).take 4)
  let heard (g : Nat) : Bool := s.presence g != prDisabled && (match s.pair.heard.lookup g with
    | some n => decide (n < s.gz g 0x1F 1)
    | none => false)
  s.gzAll.map (fun g => (4 * 65536 + g, b2n (heard g), 0x30024 + 64 * g, 1)) ++
    (List.range 4).map (fun n => (7 * 65536 + n, s.rd (FP_STAT_LINK n), 0x1E0000 + 64 * n, 1)) ++
    (List.range 8).filterMap (fun c =>
      if s.rd (CB_CTL_EN c) = 0 then none
      else ((List.range 256).find? (fun o => s.rd (OBJ_CFG_DIR c o) != 0)).map (fun o =>
        (3 * 65536 + c, s.cbWord c, 0x6000 + 80 * (256 * c + o) + 8, 0xFFFFFFFF))) ++
    (List.range 32).map (fun c => (65536 + c, word (s.adcRecord c) 8, 0x1040 + 16 * c + 8, 5)) ++
    (List.range 16).map (fun c => (65536 + 256 + c, word (s.rtdRecord c) 8, 0x1240 + 16 * c + 8, 7)) ++
    (List.range 32).map (fun c => (65536 + 512 + c, word (s.pulseRecord c) 8, 0x1340 + 16 * c + 8, 2)) ++
    (List.range 4).map (fun n => (65536 + 768 + n, word (s.feederRecord n) 0, 0x1600 + 256 * n, 1)) ++
    (List.range 16).map (fun n => (65536 + 1024 + n, word (s.meterRecord n) 0, 0x1A00 + 128 * n, 1))

/-- The standby's own items frozen, and the freeze edges since its stations were heard counted. -/
def State.freezeStatus (s : State) : State :=
  let s1 := s.setPair { s.pair with heard := s.pair.heard.map (fun h => (h.1, h.2 + 1)) }
  s1.setPair { s1.pair with status := s1.statusItems.map (fun x => (x.1, x.2.1 &&& x.2.2.2)) }

/-- The frozen items compared with an image: differing records are counted, and one that differs for the tenth pass in a
row records F0 with its section. -/
def State.compareStatus (s : State) (v : List Host.Cell) : State :=
  let shown (off : Nat) : Nat := ofLeBytes ((List.range 4).map (fun i => smapGet (fun _ => 0) v (copyKey 1 off + i)))
  let bad := s.statusItems.filter (fun x => match s.pair.status.lookup x.1 with
    | some y => shown x.2.2.1 &&& x.2.2.2 != y
    | none => false)
  let runs := bad.map (fun x => (x.1, (s.pair.diffs.lookup x.1).getD 0 + 1))
  let s1 := (s.bump PAIR_CNT_INDIFF_COUNT bad.length).setPair { s.pair with diffs := runs }
  s1.each (runs.filter (fun x => x.2 == 10)) (fun t x => t.recordFault 0 bPair 0 (x.1 / 65536))

/-! The active unit's headland (R361, R364, R365, R370). -/

/-- A list cut into parts of 64. -/
def chunks64 {α : Type} : Nat → List α → List (List α)
  | 0, _ => []
  | n + 1, xs => if xs.isEmpty then [] else xs.take 64 :: chunks64 n (xs.drop 64)

/-- Room that a block takes in a set. -/
def blockRoom : PairBlock → Nat
  | .campaign t _ _ => (t.length + 63) / 64 * 64
  | _ => 64

/-- The blocks that fit in some bytes, from the front. -/
def fitBlocks : Nat → List PairBlock → List PairBlock
  | _, [] => []
  | room, b :: bs => if blockRoom b ≤ room then b :: fitBlocks (room - blockRoom b) bs else []

/-- At headland begin the active unit sends its set: while the partner joins, up to half of L(P) goes as JOIN blocks
beside it. A set that leaves blocks waiting announces more frames than it has. -/
def State.sendSet (s : State) : State :=
  if !s.onLink || s.prState != prActive || !s.pair.serving then s
  else
    let p := s.pass32
    let view := s.copyView
    let room := 1024 * pairLimit s.pass.period
    let dif := viewDiff view s.pair.acked
    let n := if s.pair.joining then room / 128 else 0
    let early := (dif.take n).map (viewBlock view)
    let all := s.recordBlocks ++ (if s.pair.campDue then [s.campaignBlock] else []) ++ (dif.drop n).map (viewBlock view)
    let now := fitBlocks room all
    let ws := s.pair.forward
    let d := s.outDigest
    let k := b2n (!ws.isEmpty)
    let parts := chunks64 now.length now
    let bytes := sumN (now.map blockRoom)
    let s1 := if early.isEmpty then s else s.sendPair (.join (.blocks early))
    let s2 := if ws.isEmpty then s1 else s1.sendPair (.write p 0 ws)
    let s3 := s2.each parts.zipIdx (fun t x => t.sendPair (.blocks p (k + x.2) x.1))
    let s4 := (s3.sendPair (.digest p (k + parts.length) d s.campaignOut)).sendPair
      (.end_ p (k + (chunks64 all.length all).length + 1) (s.rd PAIR_EPOCH_EPOCH) (s.rd PASS_MODE_STAT_MODE))
    let s5 := (s4.wr PAIR_COPY_LAST_KIB (min ((bytes + 1023) / 1024) 0xFFFF)).raise PAIR_COPY_MAX_US (bytes / 2400)
    s5.setPair { s5.pair with
      acked := applyBlocks s.pair.acked early, sent := some (p, view, ws.length), own := (p, d) :: s.pair.own.take 3,
      campDue := false, campOut := false }

/-- The frames that a paired unit sends at headland begin: its verdict, HANDOVER where authority is to end, and its set. -/
def State.pairBegin (s : State) : State :=
  if !s.paired then s
  else
    let s1 := if s.pair.verdictDue && s.linkUp then
        (s.sendPair (.verdict (s.rd PAIR_TRI_OWN))).setPair { s.pair with verdictDue := false } else s
    let s2 := if s1.pair.leaving.isSome && s1.prState == prActive then
        (if s1.linkUp then s1.sendPair .handover else s1).setPair { s1.pair with ending := true }
      else s1
    let s3 := if s2.prState = prStandby then s2.latchMetering else s2
    (s3.forwardAll (s3.requests.applying.map forwarded)).sendSet

/-! Comparison (R365, R366). -/

/-- One comparison: a match clears CONSEC; a mismatch is counted and, with COMPARE_EN, starts triangulation. -/
def State.compared (s : State) (ok : Bool) : State :=
  if ok then (s.wr PAIR_STAT_CONSEC 0).setPair { s.pair with matched := true }
  else
    let s1 := (s.bump PAIR_CNT_MISMATCH_MISMATCH 1).setPair { s.pair with matched := false }
    if s1.rd PAIR_CFG_COMPARE_EN = 0 then s1 else s1.wr PAIR_STAT_TRI_BUSY 1

/-- Two campaign digests of the same publication differ, and neither was at its deadline. -/
def campaignsDiffer (own : Option (Nat × Nat × Bool)) (theirs : Option (Nat × Bool)) : Bool :=
  match own, theirs with
  | some (_, d, h), some (e, g) => !h && !g && d != e
  | _, _ => false

/-- The standby's headland: the shadow pass is compared, its set is committed, and the digest is sent. -/
def State.finishShadow (s : State) : State :=
  match s.pair.shadow with
  | none => s
  | some r =>
    let s0 := s.noteCampaign
    let d := s0.outDigest
    let s1 := s0.compared (r.digest == some d && !campaignsDiffer s0.pair.ownCamp r.campaign)
    let out := s1.campaignOut
    let s2 := s1.setPair { s1.pair with
      shadow := none, campOut := false, ownCamp := if r.campaign.isSome then none else s1.pair.ownCamp }
    let s3 := s2.commitSet r
    if s3.linkUp then s3.sendPair (.digest r.pass 0 d out) else s3

/-- The verdicts are resolved once those of both units are known (R366); this unit's own may still have to be sent. -/
def State.resolveVerdicts (s : State) : State :=
  match s.pair.verdict, s.pair.theirs with
  | some own, some other =>
    let s1 := s.setPair { s.pair with verdict := none, theirs := none }
    let active := s1.prState == prActive
    let aBad := if active then own != 0 else other != 0
    let sBad := if active then other != 0 else own != 0
    let unready (t : State) : State := (t.setPair { t.pair with matched := false }).showReady
    if aBad && !sBad then
      (if active then s1.setPair { s1.pair with leaving := some 2, ending := s1.rd PASS_PHASE_PHASE == phHeadland }
       else s1.setPair { s1.pair with handover := true })
    else if sBad && !aBad then (if active then unready s1 else (unready s1).recordFault 1 bPair 0 0)
    else if aBad && sBad then (unready s1).recordFault 1 bPair 0 0
    else
      let n := min 3 (s1.rd PAIR_STAT_CONSEC + 1)
      let s2 := (s1.bump PAIR_CNT_MISMATCH_UNRESOLVED 1).wr PAIR_STAT_CONSEC n
      if n < 3 then s2
      else if active then (unready s2).recordFault 1 bPair 0 0
      else (unready (s2.wr PAIR_STAT_UNTRUSTED 1)).recordFault 2 bPair E_UNRESOLVED 0
  | _, _ => s

/-- TRIANGULATION_COMPLETE (R188, R365): the lane kept for it has run the self-test, writing the bytes `wrong` otherwise than
a sound lane does, and `signatures` are the CRC-32C that the pass cores gave where they differ from the ROM reference. -/
def execTriangulationComplete (wrong : List (Nat × Byte)) (signatures : List (Fin 4)) (s : State) : Out :=
  .next (
    if s.rd PAIR_STAT_TRI_BUSY = 0 then s
    else
      let n := s.rd PAIR_CFG_TRI_LANE
      let s0 := (s.putBytes (sliceBase n) (benchWrong wrong)).testResult n (benchPasses wrong)
      let ecc := s.pair.eccBad || decide (s.rd PAIR_CFG_TRI_ECC_MAX < s.pair.eccCorr)
      let v := b2n (!benchPasses wrong) + 2 * b2n (!signatures.isEmpty) + 4 * b2n ecc
      let s1 := (s0.wr PAIR_STAT_TRI_BUSY 0).wr PAIR_TRI_OWN v
      (s1.setPair { s1.pair with eccCorr := 0, eccBad := false, verdict := some v, verdictDue := true }).resolveVerdicts)

/-- PAIR_VERDICT (R366): the verdicts are resolved once the unit has its own. -/
def execPairVerdict (tests : BitVec 3) (crcOk : Bool) (s : State) : Out :=
  .next (
    if !s.onLink then s
    else if !crcOk then s.crcFails
    else
      let s1 := s.wr PAIR_TRI_PARTNER tests.toNat
      (s1.setPair { s1.pair with theirs := some tests.toNat }).resolveVerdicts)

/-! Receiving a set (R361, R362, R372). -/

/-- The unit receives sets. -/
def State.receives (s : State) : Bool := s.onLink && (s.prState == prStandby || s.prState == prJoining)

/-- The set of a pass being received. -/
def State.recvOf (s : State) (pass : Nat) : PairSet :=
  match s.pair.recv with
  | some r => if r.pass = pass then r else ⟨pass, [], [], none, none, 0, false, 0, 0, s.pair.alignAt, []⟩
  | none => ⟨pass, [], [], none, none, 0, false, 0, 0, s.pair.alignAt, []⟩

/-- A frame of the set of a pass: it counts, and a broken one or one out of its place breaks the set. -/
def State.recvFrame (s : State) (pass seq : Nat) (crcOk : Bool) (f : PairSet → PairSet) : State :=
  if !s.receives then s
  else if !crcOk then (s.crcFails).setPair { s.pair with recv := some { s.recvOf pass with broken := true } }
  else
    let r := s.recvOf pass
    let r1 : PairSet := { f r with frames := r.frames + 1, broken := r.broken || seq != r.frames }
    s.setPair { s.pair with recv := some r1 }

/-- PAIR_BLOCKS (R361). -/
def execPairBlocks (pass seq : Nat) (blocks : List PairBlock) (crcOk : Bool) (s : State) : Out :=
  .next (s.recvFrame pass seq crcOk (fun r => { r with blocks := r.blocks ++ blocks }))

/-- PAIR_WRITE_FRAME (R373). -/
def execPairWriteFrame (pass seq : Nat) (writes : List PairWrite) (crcOk : Bool) (s : State) : Out :=
  .next (s.recvFrame pass seq crcOk (fun r => { r with writes := r.writes ++ writes }))

/-- The copy that a complete set is relative to: the newest one complete. -/
def State.latestCopy (s : State) : List Host.Cell :=
  match s.pair.staged, s.pair.shadow with
  | some r, _ => r.mem
  | none, some r => r.mem
  | none, none => s.pair.acked

/-- A set that failed (R362). -/
def State.setFails (s : State) (pass : Nat) : State :=
  let n := s.pair.failedRun + 1
  let s1 := ((s.bump PAIR_CNT_COPY_COUNT 1).setPair { s.pair with
    recv := none, failedRun := n, setOk := false, setEnded := true }).showReady.sendPair (.ack pass true)
  if n = 3 then s1.recordFault 1 bPair 0 0 else s1

/-- A complete set: a joining unit commits it at once and becomes STANDBY; a standby stages it and compares its items. -/
def State.setComes (s : State) (r : PairSet) : State :=
  let s1 := (s.raise PAIR_EPOCH_EPOCH r.epoch).sendPair (.ack r.pass false)
  let s2 := s1.setPair { s1.pair with recv := none, failedRun := 0, setEnded := true }
  if s2.prState = prJoining then (s2.wr PAIR_STAT_STATE prStandby).commitSet r
  else
    let before := match s2.pair.staged with
      | some q => q.writes
      | none => []
    (s2.setPair { s2.pair with staged := some { r with writes := before ++ r.writes } }).compareStatus r.mem

/-- PAIR_END (R361, R362): the set is complete when every frame is present and every CRC verifies. -/
def execPairEnd (pass frames epoch mode : Nat) (crcOk : Bool) (s : State) : Out :=
  .next (
    if !s.receives then s
    else
      let s0 := if crcOk then s else s.crcFails
      let r := s0.recvOf pass
      if crcOk && r.frames == frames && !r.broken then
        s0.setComes { r with epoch := epoch, mode := mode, mem := applyBlocks s0.latestCopy r.blocks }
      else s0.setFails pass)

/-- PAIR_ACK (R362). -/
def execPairAck (pass : Nat) (failed crcOk : Bool) (s : State) : Out :=
  .next (
    if !s.onLink || s.prState != prActive then s
    else if !crcOk then s.crcFails
    else if failed then
      let n := s.pair.failedRun + 1
      let s1 := (s.bump PAIR_CNT_COPY_COUNT 1).setPair { s.pair with sent := none, failedRun := n }
      if n = 3 then s1.recordFault 1 bPair 0 0 else s1
    else
      match s.pair.sent with
      | some (p, view, k) =>
        if p ≠ pass then s
        else
          let s1 := if s.pair.joining then s.sendPair (.join .complete) else s
          s1.setPair { s1.pair with
            acked := view, sent := none, forward := s1.pair.forward.drop k, failedRun := 0, joining := false }
      | none => s)

/-- PAIR_DIGEST (R365): part of a set on the standby, and the standby's digest on the active unit. -/
def execPairDigest (pass seq digest : Nat) (campaign : Option (Nat × Bool)) (crcOk : Bool) (s : State) : Out :=
  .next (
    if !s.onLink then s
    else if s.prState ≠ prActive then
      s.recvFrame pass seq crcOk (fun r => { r with digest := some digest, campaign := campaign })
    else if !crcOk then s.crcFails
    else
      match s.pair.own.lookup pass with
      | none => s
      | some d =>
        let mine := s.pair.ownCamp.filter (fun c => c.1 == pass)
        let bad := campaignsDiffer mine campaign
        let late := match mine, campaign with
          | some (_, _, h), some (_, g) => h || g
          | some _, none => true
          | none, _ => false
        let ok := d == digest && !bad
        let s1 := s.compared ok
        s1.setPair { s1.pair with
          campDue := s1.pair.campDue || bad || late,
          ownCamp := if mine.isSome then none else s1.pair.ownCamp })

/-! Shadow passes (R355). -/

/-- The shadow pass of a set starts on its image, in input buffer A. -/
def State.startShadow (s : State) (r : PairSet) : State :=
  let s1 := s.reachRunning.setPass { s.pass with inBuf := false }
  let s2 := s1.restoreRange r.mem (1, 0, aImage, 0x400000)
  let s3 := (s2.wr64 GLOBAL_PASS_CNT_LO GLOBAL_PASS_CNT_HI (s2.ld aImage 8)).wr64 PASS_MS_LO PASS_MS_HI (s2.ld (aImage + 8) 8)
  let s4 := s3.setPass { s3.pass with tickOf := s.now, freezeAt := s.now, first := false, faulted := false, exchanged := false }
  (s4.setPair { s4.pair with shadow := some r, staged := none }).setPhase phFreeze

/-- ALIGN (R355): the standby's freeze edge. Its own items are frozen; the shadow pass of the staged set starts where the
unit has the state before it, and otherwise that pass is skipped and its set is committed. A set that has not ended by
then is incomplete (R362). -/
def execAlign (s : State) : Out :=
  .next (
    if !s.onLink || s.prState ≠ prStandby then s
    else
      let s0 := if s.pair.setEnded then s else s.setFails (match s.pair.recv with | some r => r.pass | none => s.pass32)
      let s1 := (s0.setPair { s0.pair with alignAt := s.now, setEnded := false }).freezeStatus
      let s2 := s1.each (List.range 8) (fun t c => t.setCanCh c { t.canCh c with woke := false })
      if s2.rd PASS_PHASE_PHASE ≠ phRemainder then s2
      else
        match s2.pair.staged with
        | none => s2
        | some r =>
          if s2.pair.committed.any (fun c => (c.1 + 1) % 2 ^ 32 == r.pass) then s2.startShadow r
          else (s2.setPair { s2.pair with staged := none }).commitSet r)

/-! Takeover (R369, R370). -/

/-- The newest complete set adopted, or the committed state kept, with the time of the freeze edge of its pass; none
where there is no copy. -/
def State.adopt (s : State) : Option (State × Nat) :=
  match s.pair.staged, s.pair.shadow with
  | some r, some q => some (s.commitSet { r with writes := q.writes ++ r.writes }, r.at_)
  | some r, none => some (s.commitSet r, r.at_)
  | none, some q => some (s.commitSet q, q.at_)
  | none, none => s.pair.committed.map (fun c => (s, c.2))

/-- The smallest epoch above one whose bit 0 is the role. -/
def nextEpoch (e role : Nat) : Nat := if (e + 1) % 2 = role then e + 1 else e + 2

/-- A takeover, up to the unscheduled freeze edge: the unit is ACTIVE, and asserts AUTH_OUT at its output edge. -/
def State.takeOver (s : State) : State :=
  let s1 := s.abandonPass true
  let s2 := match s1.adopt with
    | some (t, at_) => t.reachRunning.setPass { t.pass with freezeAt := at_, first := false }
    | none => s1.recordFault 1 bPair 0 0
  let s3 := s2.wr PAIR_EPOCH_EPOCH (nextEpoch (s2.rd PAIR_EPOCH_EPOCH) (s2.rd GLOBAL_MODE_ROLE))
  let s4 := s3.each s3.gzAll (fun t g => (t.gput g 0x28 8 (t.gz g 0x28 8 + 2 ^ 24)).gupd g)
  let s5 := (s4.dropCopies).wr PAIR_STAT_STATE prActive
  (s5.setPair { s5.pair with
    serving := false, joining := false, sent := none, own := [], forward := [], leaving := none,
    ending := false, verdict := none, theirs := none, verdictDue := false, failedRun := 0, trigger := some s.now,
    freezeDue := true }).wr PAIR_STAT_TRI_BUSY 0

/-- AUTH_IN_FALL (R368). -/
def execAuthInFall (s : State) : Out :=
  .next (
    if s.rd PAIR_STAT_AUTH_IN = 0 then s
    else
      let s1 := s.wr PAIR_STAT_AUTH_IN 0
      if !s1.paired then s1
      else if s1.prState = prStandby ∧ s1.linkUp ∧ (s1.rd PAIR_STAT_READY = 1 ∨ s1.pair.handover = true) ∧ s1.sameRole = false
        then s1.takeOver
      else if s1.prState = prStandby ∧ s1.linkUp then s1.startWait
      else if s1.prState = prJoining then (s1.leaveStandby prWaiting).startWait
      else s1.authRule)

/-- AUTH_IN_RISE (R368). -/
def execAuthInRise (s : State) : Out :=
  .next (if s.rd PAIR_STAT_AUTH_IN = 1 then s else (s.wr PAIR_STAT_AUTH_IN 1).authRule)

/-- TAKEOVER_WAIT_EXPIRY (R368). -/
def execTakeoverWaitExpiry (s : State) : Out :=
  .next (
    match s.pair.waitEnd with
    | none => s
    | some t =>
      if s.now < t || s.rd PAIR_STAT_AUTH_IN = 1 || s.sameRole || s.prState = prActive then s else s.takeOver)

/-- UNSCHEDULED_FREEZE (R369): the taking unit freezes its own image, and its pass timer ticks on its own grid. -/
def execUnscheduledFreeze (gpio : BitVec 64) (s : State) : Out :=
  .next (
    if !s.pair.freezeDue || s.rd PASS_PHASE_PHASE ≠ phRemainder then s
    else
      let period := s.pass.periodNext.getD s.pass.period
      let s1 := s.setPair { s.pair with freezeDue := false }
      let s2 := s1.setPass { s1.pass with
        timerOn := true, period := period, periodNext := none, nextTick := s.now + period * cycPerMs }
      s2.startPass gpio s.now)

/-- HANDOVER (R370): the active unit releases authority at the end of this headland. -/
def execHandover (crcOk : Bool) (s : State) : Out :=
  .next (
    if !s.onLink || s.prState ≠ prStandby then s
    else if !crcOk then s.crcFails
    else s.setPair { s.pair with handover := true })

/-- The end of a headland in which authority ends (R367): the unit becomes FALLOW. -/
def State.pairRelease (s : State) : State :=
  if s.pair.ending then
    (s.releaseAuth prFallow).setPair { s.pair with ending := false, leaving := none, serving := false }
  else s

/-! Joining (R372). -/

/-- PAIR_JOIN_FRAME (R372). -/
def execPairJoinFrame (frame : PairJoin) (crcOk : Bool) (s : State) : Out :=
  .next (
    if !s.onLink then s
    else if !crcOk then s.crcFails
    else if s.prState = prActive then
      (match frame with
       | .request =>
         if s.journalFull then (s.sendPair (.join .refused)).recordFault 1 bPair E_CAPACITY 0
         else (s.sendPair (.join (.journal s.pair.journal))).setPair { s.pair with
           serving := true, joining := true, acked := [], sent := none, forward := [], campDue := true }
       | _ => s)
    else if s.prState = prJoining then
      (match frame with
       | .journal ws => s.applyWrites ws
       | .blocks bs => s.setPair { s.pair with acked := applyBlocks s.pair.acked bs }
       | .refused => s.leaveStandby prFallow
       | _ => s)
    else s)

/-! The commands of PAIR_CMD (R374). -/

/-- YIELD: authority is released at the end of the next headland. -/
def State.pairYield (s : State) : State := s.setPair { s.pair with leaving := some 0 }

/-- FALLOW: an active unit becomes FALLOW at the end of the next headland, any other at once. -/
def State.pairFallow (s : State) : State :=
  if s.prState = prActive then s.setPair { s.pair with leaving := some 1 } else s.leaveStandby prFallow

/-- CLEAR: UNTRUSTED is cleared. -/
def State.pairClear (s : State) : State := (s.wr PAIR_STAT_UNTRUSTED 0).showReady

end Sys2Proof.Machine
end

