-- ==== Sys2Proof/Machine/Record.lean ====
section
/-! DEFINITION. Retained records (R62 to R68, R346): what a checkpoint and a power-fail save hold, the sizes of the sets,
and the checkpoints. -/

namespace Sys2Proof.Machine

/-- The state with the boot replaced. -/
def State.setBoot (s : State) (b : Boot) : State := { s with boot := b }

/-- A retention device answered at NVM_BRINGUP. -/
def State.retAnswers (s : State) (n : Nat) : Bool :=
  (if n = 0 then s.rd CP_XSPI_STAT_XR0 else s.rd CP_XSPI_STAT_XR1) % 2 == 1

/-- The size of a retention device in MiB; 0 where it does not answer. -/
def State.retMib (s : State) (n : Nat) : Nat :=
  let size := (if n = 0 then s.rd CP_XSPI_STAT_XR0 else s.rd CP_XSPI_STAT_XR1) / 16
  if s.retAnswers n && size != 0 then 2 ^ size else 0

/-- Retention is in use: device 0 answers (R46). -/
def State.retained (s : State) : Bool := s.retAnswers 0

/-- The size of the save area in KiB (R46). -/
def State.saveKib (s : State) : Nat :=
  if s.retained then 1024 * min (s.retMib 0 - 5 + s.retMib 1) 59 else 0

/-- The last section of a sowing, PASS_PROGRAM (R56). -/
def secLast : Nat := 0x0030

/-- The sizes of the warm set, once every section is unpacked, and of the full set beyond it, in KiB; the full set is at most
57 MiB (R63). -/
def State.warmKib (s : State) : Nat := Config.warmKib s.boot.prehash secLast
def State.fullKib (s : State) : Nat := min (Config.fullKib s.boot.prehash) (57 * 1024)

/-- The full set fits the save area (R63). -/
def State.fullFits (s : State) : Bool := decide (s.warmKib + s.fullKib ≤ s.saveKib)

/-- t_hold in µs, rounded up (R70); 0 with no retention device in use (DESIGN CHOICE, assumption 30). -/
def State.holdup (s : State) : Nat :=
  let n := b2n (s.retAnswers 0) + b2n (s.retAnswers 1)
  let size := 1024 * (s.warmKib + (if s.rd CP_RETAIN_CFG_MODE = 2 then s.fullKib else 0))
  if s.retained then 1020 + (size + 380 * n - 1) / (380 * n) else 0

/-- CP_SAVE_SIZE and CP_HOLDUP brought up to date. -/
def State.showSizes (s : State) : State :=
  ((s.wr CP_SAVE_SIZE_WARM_KIB (min s.warmKib 0xFFF)).wr CP_SAVE_SIZE_FULL_KIB (min s.fullKib 0xFFFF)).wr
    CP_HOLDUP_HOLDUP_US (min s.holdup 0xFFFFFF)

/-- The sizes of the sets shown, and full retention given up where the full set does not fit (R63). -/
def State.checkFit (s : State) : State :=
  let s1 := s.wr CP_RETAIN_STAT_FULL_FITS (b2n s.fullFits)
  let s2 := if s.rd CP_RETAIN_CFG_MODE = 2 && !s.fullFits then
      ((s1.wr CP_RETAIN_CFG_MODE 1).wr CP_RETAIN_FLAGS_RETAIN_REDUCED 1).recordFault 1 bClockPower 0 0
    else s1
  s2.showSizes

/-! The sets (R62). -/

/-- The memory of the warm set: where it lies, where a sowing places it, and its length: the error log, the windows HOUR,
DAY and MONTH of each definition, the set-point table, and area K. -/
def State.warmRanges (s : State) : List (Nat × Nat × Nat) :=
  [(sd 0x2610000, sd 0x2610000, 0x20000), (tableBase (s.rd CMN_STAT_BUF), tableBase 0, tableLen),
   (areaK, areaK, 0x200000)] ++
    s.usedDefs.map (fun d => (sliceAddr d 114, sliceAddr d 114, 576))

/-- The memory of the full set beyond it: M, L, T, N, E, the instances, every histogram slice, and the output buffer last
written. -/
def State.fullRanges (s : State) : List (Nat × Nat × Nat) :=
  [(areaM, areaM, 0x200000), (areaT, areaT, 0x20000), (areaN, areaN, 0x10000), (areaE, areaE, 0x10000), (areaL, areaL, 0x40000),
   (instBank s.bank, instBank 0, 0x160000), (histBase, histBase, 0x1600000),
   (s.outBaseOther, aImage + 0x800000, 0x200000)]

/-- The listed bytes of a range, moved to where a sowing places it. -/
def State.lifted (s : State) (r : Nat × Nat × Nat) : List Host.Cell :=
  (smapRange s.mem r.1 (r.1 + r.2.2)).map (fun e => (e.1 - r.1 + r.2.1, e.2))

/-- The uncorrectable words of a range, moved likewise. -/
def State.liftedBad (s : State) (r : Nat × Nat × Nat) : List Nat :=
  (s.memBad.filter (fun a => decide (r.1 ≤ a) && decide (a < r.1 + r.2.2))).map (fun a => a - r.1 + r.2.1)

/-- The registers of the warm set: the energy registers with SAT, the reversal counters and DIR, the self-test history, the
log indices and the epoch. -/
def keptRegs : List Nat :=
  meterKept ++ (List.range 256).map LANE_TEST ++
    [GL_LOG_WR, GL_LOG_RD, PAIR_EPOCH]

/-- A record captured (R64, R65). -/
def State.capture (s : State) (isSave isFull : Bool) : Retained :=
  let top := ((s.boot.ckpt0.toList ++ s.boot.ckpt1.toList ++ s.boot.save.toList).map Retained.seq).foldl max 0
  let ranges := if isFull then s.warmRanges ++ s.fullRanges else s.warmRanges
  let b := s.atlasInForce
  let settled := s.each s.survey.late (fun t x => t.reseed x.region)
  { seq := top + 1, time := s.cal, meterTime := if s.meter.samples = 0 then s.cal else s.meter.lastAt, digest := s.boot.prehash.take 32, isSave := isSave, isFull := isFull,
    mode := s.rd PASS_MODE_STAT_MODE,
    regs := keptRegs.map (fun a => (a, s.reg a)) ++
      (if isFull then (List.range 32).flatMap (fun n => [LOOP_INT_LO n, LOOP_INT_HI n].map (fun a => (a, s.reg a))) else []),
    frac := s.meter.frac,
    stations := s.gzAll.map (fun g =>
      ⟨s.gz g 0 8, s.bytes (gazAddr g + 0xA0) 88, s.gz g 0x28 8, s.gz g 0x30 8, s.gz g 0x23 1⟩),
    mem := ranges.foldl (fun m r => smapSetAll memDefault m (s.lifted r)) [],
    bad := ranges.flatMap s.liftedBad, lastLog := s.gleaner.lastWritten, carried := s.gleaner.carried,
    msAcc := s.pass.msAcc,
    furrows := if isFull then (b.all tPipe).map (fun p =>
      ⟨p, s.bytes (b.addr tPipe p) 64, settled.bytes (b.furrowAddr p) (furrowBytes (b.u 1 p 0x30 2))⟩) else [],
    engines := if isFull then s.loops.engines else [],
    running := if isFull then (List.range 32).filter (fun n => s.leState n == leRunning) else [],
    qhat := if isFull then s.survey.qhat else [], tnode := if isFull then s.survey.tnode else [],
    dEst := if isFull then s.survey.dEst else [],
    defs := s.usedDefs.map (fun d => (d, s.defShape d)) }

/-! Checkpoints (R64). -/

/-- A checkpoint is captured at a headland that begins while one is due and none is being written. -/
def State.checkpoint (s : State) : State :=
  if s.boot.ckptDue && s.boot.writing.isNone && s.retained then
    s.setBoot { s.boot with ckptDue := false, writing := some (s.capture false false) }
  else s

/-- CHECKPOINT_DUE (R64): CHECKPOINT_S has elapsed; a defaulted controller and one without retention write none. -/
def execCheckpointDue (s : State) : Out :=
  .next (
    if s.rd CP_BOOT_STAT_STAGE = 9 && s.retained && !s.boot.ckptDue &&
        decide (s.boot.ckptAt + s.rd CP_RETAIN_CFG_CHECKPOINT_S * cycPerS ≤ s.now) then
      s.setBoot { s.boot with ckptDue := true, ckptAt := s.now }
    else s)

/-- CHECKPOINT_WRITE_COMPLETE (R64): the record and its commit word stand in the area whose turn it is. -/
def execCheckpointWriteComplete (s : State) : Out :=
  .next (
    match s.boot.writing with
    | none => s
    | some r =>
      let b := { s.boot with writing := none, nextArea := 1 - s.boot.nextArea }
      s.setBoot (if s.boot.nextArea = 0 then { b with ckpt0 := some r } else { b with ckpt1 := some r }))

end Sys2Proof.Machine
end

