-- ==== Sys2Proof/Machine/Headland.lean ====
section
/-! DEFINITION. The headland (R24, R111, R248, R262, R440): the edge that begins it and the edge that ends it. -/

namespace Sys2Proof.Machine

/-- Class-A fields of this register take effect at a boundary of its own block: a loop engine's tick (R269) or a metering
sample (R350). -/
def isLoopReg (off : Nat) : Bool := decide (0x140000 ≤ off) && decide (off < 0x148000)
def isMeterReg (off : Nat) : Bool := decide (0x200000 ≤ off) && decide (off < 0x204000)

/-- A mode request takes effect (R247, R249): STOP is entered with cause 0, the mode in force changes nothing, and after an
F3 fault the unit stays in STOP (R248). -/
def State.applyMode (s : State) : State :=
  let m := s.rd PASS_MODE_CTL_REQ
  if s.pass.fatal || m == s.rd PASS_MODE_STAT_MODE then s
  else if m = modeStop then s.enterStop stopRequest
  else s.setMode m

/-- A class-A value takes effect, with what follows from it; a mode request acts after an exchange (R262). -/
def State.landA (s : State) (p : PendA) : State :=
  let s1 := s.landReg p
  if p.off = CP_RETAIN_CFG then s1.checkFit
  else if p.off = PAIR_CFG then s1.pairedChanged.showReady.showHeld
  else s1.appliedA p.off

/-- The class-A values of the headland take effect; those of the metering front end at its next sample (R350). -/
def State.landHeadland (s : State) : State :=
  let xs := s.fabric.pendNow
  let s1 : State := { s with fabric := { s.fabric with
    pendNow := [], armed := (xs.filter (fun p => isMeterReg p.off)).foldl addPend s.fabric.armed } }
  s1.each (xs.filter (fun p => !isMeterReg p.off)) State.landA

/-- A publication prepared takes effect (R203, R206). -/
def State.publishDue (s : State) : State :=
  if s.camp.publishing then
    match s.camp.inFlight with
    | some c => (s.publish c).setCamp { (s.publish c).camp with publishing := false }
    | none => s.setCamp { s.camp with publishing := false }
  else s

/-- HEADLAND_END (R24, R111, R248, R262): on the edge that ends the headland everything it applies takes effect together; a
mode request applies after an exchange; a program fault of the pass forces STOP over any request; and the cores are gated for
the next pass (R251). -/
def execHeadlandEnd (s : State) : Out :=
  .next (
    if s.rd PASS_PHASE_PHASE ≠ phHeadland then s
    else
      let s0 := if s.prState = prStandby && s.paired then s.finishShadow.checkFit else s
      let asked := s0.fabric.pendNow.any (fun p => p.off == PASS_MODE_CTL)
      let s1 := (((s0.landHeadland).applyAmendments).stationHeadland).publishDue
      let s2 := if s1.pass.faulted then s1.forceStop stopFault else if asked then s1.applyMode else s1
      let s3 := if s2.paired then s2.noteCampaign else s2
      ((((s3.pairRelease).regate).showCores).showSizes).setPhase phRemainder)

end Sys2Proof.Machine
end

