-- ==== Sys2Proof/Machine/HostLink.lean ====
section
/-! DEFINITION. The host link beside its register accesses (R91 to R103, R106): the SDRAM aperture, MSI-X, the resets of
the link and of a function, power states, and the waking of a gated core. -/

namespace Sys2Proof.Machine

/-! The aperture (R96 to R98, R113). -/

/-- The SDRAM areas, as offset and length, that discard BAR2 writes: the tables of R112, the link table and the waiting
room (R306), and the Gleaner's areas (R400). -/
def apertureGuarded : List (Nat × Nat) :=
  [(0, 0x2400000), (0x2540000, 0x20000), (0x2560000, 0x4000), (0x2600000, 0x8000), (0x2610000, 0x20000),
   (0x2640000, 0x100000), (0x2800000, 0x1600000)]

/-- The SDRAM offset that an offset in BAR2 of a function stands for (R96). -/
def State.apertureOff (s : State) (fn : Bool) (offset : Nat) : Nat :=
  (if fn then s.rd (HL_WIN_BASE 1) else s.rd (HL_WIN_BASE 0)) * 2 ^ 30 + offset % 2 ^ 30

/-- Bytes waiting in the posted-write buffer of a function. -/
def PcieFn.postedBytes (p : PcieFn) : Nat := sumN (p.posted.map (fun w => w.2.length))

/-- One byte of a BAR2 write, where its enable is set. -/
def State.putEnabled (s : State) (a : Nat) : List (Option Byte) → State
  | [] => s
  | b :: bs => State.putEnabled (match b with
      | some v => s.putByte a v
      | none => s) (a + 1) bs

/-- One posted write reaches SDRAM; a protected word written whole gets fresh check bits (R412). -/
def State.drainOne (s : State) (w : Nat × List (Option Byte)) : State :=
  let s1 := s.putEnabled w.1 w.2
  let whole (a : Nat) : Bool := decide (w.1 ≤ a) && decide (a + 8 ≤ w.1 + w.2.length) &&
    ((w.2.drop (a - w.1)).take 8).all Option.isSome
  { s1 with memBad := s1.memBad.filter (fun a => !whole a) }

/-- A read of SDRAM through the aperture answered (R97): unmapped space reads 0 and is logged; an uncorrectable word poisons
the data and is reported to the harrow. -/
def State.answerBar2 (s : State) (fn : Bool) (a len : Nat) : State :=
  if s.sdramSize < a - aSdram + len then
    (s.reject (fnMaster fn) a E_UNKNOWN false).send (.completion (b2n fn) 0 (List.replicate len 0))
  else
    let hit := s.memBad.filter (fun w => decide (a / 8 * 8 ≤ w) && decide (w < a + len))
    let s2 := s.each hit (fun t w => t.uncorrectable w 0)
    s2.send (.completion (b2n fn) (if hit.isEmpty then 0 else 1) (s.bytes a len))

/-- The first posted writes of a function drain, oldest first, and the reads that waited behind them are served (R97). -/
def State.drainPosted (s : State) (fn : Bool) (count : Nat) : State :=
  let p := s.fn fn
  let n := min count p.posted.length
  let left := p.reads.map (fun r => { r with ahead := r.ahead - n })
  let s1 := ((p.posted.take n).foldl State.drainOne s).setFn fn
    { p with posted := p.posted.drop n, reads := left.filter (fun r => r.ahead != 0) }
  s1.each (left.filter (fun r => r.ahead == 0)) (fun t r => t.answerBar2 fn r.addr r.len)

/-- Everything a function has posted drains: what a later mailbox post waits for (R98, R99). -/
def State.drainAll (s : State) (fn : Bool) : State := s.drainPosted fn (s.fn fn).posted.length

/-- The link is up and the unit out of reset (R102). -/
def State.hostUp (s : State) : Bool := s.rd HL_LINK_STAT_LINK_UP == 1 && s.boot.aon && !s.boot.porst

/-- A function answers BAR requests: the link is up, PORST_N is high, and the function is not in D3hot (R101, R102). -/
def State.fnUp (s : State) (fn : Bool) : Bool := s.hostUp && !(s.fn fn).d3hot

/-- BAR2_WRITE (R97, R101, R113): unsupported in D3hot; discarded and logged where it leaves the fitted SDRAM or touches an
area that discards BAR2 writes; dropped and counted where the buffer of 64 KiB has no room. -/
def execBar2Write (fn : Bool) (offset : Nat) (bytes : List (Option Byte)) (s : State) : Out :=
  .next (
    let p := s.fn fn
    let off := s.apertureOff fn offset
    let n := bytes.length
    if !s.fnUp fn then s
    else if s.sdramSize < off + n || apertureGuarded.any (fun r => decide (r.1 < off + n) && decide (off < r.1 + r.2)) then
      s.reject (fnMaster fn) (sd off) E_UNKNOWN true
    else if 0x10000 < p.postedBytes + n then s.bump HL_BAR2_STAT_WR_DROP 1
    else s.setFn fn { p with posted := p.posted ++ [(sd off, bytes)] })

/-- BAR2_READ (R97, R101): served once the function's earlier writes have drained, and at once where there are none; in D3hot
it completes as Unsupported Request, and with the link down there is no read. -/
def execBar2Read (fn : Bool) (offset len : Nat) (s : State) : Out :=
  .next (
    let p := s.fn fn
    let a := sd (s.apertureOff fn offset)
    if !s.hostUp then s
    else if p.d3hot then s.send (.completion (b2n fn) 3 [])
    else if p.posted.isEmpty then s.answerBar2 fn a len
    else s.setFn fn { p with reads := p.reads ++ [⟨offset, a, len, s.now, p.posted.length⟩] })

/-- BAR2_READ_TIMEOUT (R97): a read that has waited TMO_MS is withdrawn and completed with Completer Abort. -/
def execBar2ReadTimeout (fn : Bool) (offset : Nat) (s : State) : Out :=
  .next (
    let p := s.fn fn
    let late (r : WaitingRead) : Bool :=
      r.offset == offset && decide (r.since + s.rd HL_BAR2_CFG_TMO_MS * cycPerMs ≤ s.now)
    match p.reads.find? late with
    | none => s
    | some r =>
      (((s.setFn fn { p with reads := p.reads.erase r }).bump HL_BAR2_STAT_RD_TIMEOUT 1).reject (fnMaster fn) r.addr E_TIMEOUT
        false).send (.completion (b2n fn) 2 []))

/-- POSTED_WRITE_DRAIN (R97, R98). -/
def execPostedWriteDrain (fn : Bool) (count : Nat) (s : State) : Out := .next (s.drainPosted fn count)

/-! The configuration identity (R92). -/

/-- What identifies a function: Vendor ID and Subsystem Vendor ID, Device ID and Subsystem ID, Revision ID, class code and the
number of MSI-X vectors. -/
structure PcieIdent where
  vendor : Nat
  device : Nat
  revision : Nat
  classCode : Nat
  vectors : Nat
deriving DecidableEq, Repr

/-- The identity of PF0 and of PF1 (true). -/
def pcieIdent (fn : Bool) : PcieIdent :=
  if fn then ⟨0x1E7A, 0x0961, 0xC2, 0x108000, 16⟩ else ⟨0x1E7A, 0x0960, 0xC2, 0x0B4000, 64⟩

/-! MSI-X (R100, R103). -/

/-- The causes that are levels: a direction towards the function that is not empty or whose sender was reset, a word mailbox
towards it that is full, CFG_MISMATCH, a confirmed PWR_WARN, and an error log three-quarters full. The other causes are
events. -/
def State.causeSet (s : State) (fn : Bool) (v : Nat) : Bool :=
  let filled (d : MbDir) : Bool := s.mbUnread d || s.rd d.senderReset == 1
  allDirs.any (fun d => d.fillVec == some (fn, v) && filled d) ||
    (!fn && ((v == 5 && s.rd ACCESS_CFG_STAT_CFG_MISMATCH == 1) || (v == 6 && s.boot.confirmed) ||
      (v == 7 && decide (3072 ≤ s.logLevel))))

/-- The vectors of a function that are open and have their cause or their pending bit set, among those listed, fire once. -/
def State.fireOpen (s : State) (fn : Bool) (vs : List Nat) : State :=
  s.each vs (fun t v =>
    let p := t.fn fn
    if p.d3hot || !p.msix.open_ v then t
    else if p.msix.pba.contains v || t.causeSet fn v then
      (t.setFn fn { p with msix := { p.msix with pba := p.msix.pba.filter (· != v) } }).sendMsi fn v
    else t)

/-- The vectors of a function (R92). -/
def vectorsOf (fn : Bool) : List Nat := List.range (pcieIdent fn).vectors

/-- A vector unmasked: with its cause or its pending bit set it fires once. -/
def State.unmaskVec (s : State) (fn : Bool) (n : Nat) : State :=
  let p := s.fn fn
  if p.msix.unmasked.contains n || !(vectorsOf fn).contains n then s
  else (s.setFn fn { p with msix := { p.msix with unmasked := n :: p.msix.unmasked } }).fireOpen fn [n]

/-- A vector masked. -/
def State.maskVec (s : State) (fn : Bool) (n : Nat) : State :=
  let p := s.fn fn
  s.setFn fn { p with msix := { p.msix with unmasked := p.msix.unmasked.filter (· != n) } }

/-- One double word of an MSI-X table entry: the low and the high half of its address, its data, and its vector control,
whose bit 0 masks the vector. -/
def State.bar4Word (s : State) (fn : Bool) (off : Nat) : Nat :=
  let m := (s.fn fn).msix
  let n := off / 16
  let e := (m.table[n]?).getD ⟨0, 0⟩
  if off < 0x2000 then
    (if !(vectorsOf fn).contains n then 0
     else if off % 16 = 0 then e.address % 2 ^ 32
     else if off % 16 = 4 then e.address / 2 ^ 32 % 2 ^ 32
     else if off % 16 = 8 then e.data
     else b2n (!m.unmasked.contains n))
  else
    sumN ((List.range 32).map (fun k => b2n (m.pba.contains (32 * ((off - 0x2000) / 4) + k) &&
      (vectorsOf fn).contains (32 * ((off - 0x2000) / 4) + k)) * 2 ^ k))

/-- An access to BAR4 of the sizes that the MSI-X structures take: one or two aligned double words (R93). -/
def bar4Ok (off width : Nat) : Bool :=
  (width == 32 && off % 4 == 0 || width == 64 && off % 8 == 0) && decide (off < 0x4000)

/-- BAR4 as a function reads it (R93). -/
def State.bar4Read (s : State) (fn : Bool) (off width : Nat) : Nat :=
  if !bar4Ok off width then 0
  else s.bar4Word fn off + (if width = 64 then 2 ^ 32 * s.bar4Word fn (off + 4) else 0)

/-- One double word written to the MSI-X table; the Pending Bit Array is not written. -/
def State.bar4Put (s : State) (fn : Bool) (off w : Nat) : State :=
  let n := off / 16
  let p := s.fn fn
  let e := (p.msix.table[n]?).getD ⟨0, 0⟩
  let put (x : MsixEntry) : State := s.setFn fn { p with msix := { p.msix with table := p.msix.table.set n x } }
  if 0x2000 ≤ off || !(vectorsOf fn).contains n then s
  else if off % 16 = 0 then put { e with address := e.address / 2 ^ 32 * 2 ^ 32 + w }
  else if off % 16 = 4 then put { e with address := e.address % 2 ^ 32 + 2 ^ 32 * w }
  else if off % 16 = 8 then put { e with data := w }
  else if w % 2 = 1 then s.maskVec fn n
  else s.unmaskVec fn n

/-- A write to BAR4 (R93). -/
def State.bar4Write (s : State) (fn : Bool) (off width data : Nat) : State :=
  if !bar4Ok off width then s
  else
    let s1 := s.bar4Put fn off (data % 2 ^ 32)
    if width = 64 then s1.bar4Put fn (off + 4) (data / 2 ^ 32 % 2 ^ 32) else s1

/-- An access to BAR4 while the function answers BAR requests (R101, R102). -/
def State.bar4Access (s : State) (fn : Bool) (a : Bar4Access) : State :=
  if !s.hostUp then s
  else match a with
    | .write off width data => if (s.fn fn).d3hot then s else s.bar4Write fn off width data
    | .read off width =>
      if (s.fn fn).d3hot then s.send (.completion (b2n fn) 3 [])
      else s.send (.completion (b2n fn) 0 (leBytes (width / 8) (s.bar4Read fn off width)))

/-- MSIX_UNMASK (R93, R100, R101): the enable and the function mask stand in configuration space, which a function in D3hot
still answers; the vector masks stand in BAR4. -/
def execMsixUnmask (fn : Bool) (what : MsixTarget) (s : State) : Out :=
  .next (
    let p := s.fn fn
    let m := p.msix
    if !s.hostUp then s
    else match what with
    | .enable => (s.setFn fn { p with msix := { m with enable := true } }).fireOpen fn (if m.enable then [] else vectorsOf fn)
    | .function => (s.setFn fn { p with msix := { m with fmask := false } }).fireOpen fn (if m.fmask then vectorsOf fn else [])
    | .vector n => if p.d3hot then s else s.unmaskVec fn n
    | .bar4 a => s.bar4Access fn a)

/-- MSIX_MASK (R93, R100, R101). -/
def execMsixMask (fn : Bool) (what : MsixTarget) (s : State) : Out :=
  .next (
    let p := s.fn fn
    let m := p.msix
    if !s.hostUp then s
    else match what with
    | .enable => s.setFn fn { p with msix := { m with enable := false } }
    | .function => s.setFn fn { p with msix := { m with fmask := true } }
    | .vector n => if p.d3hot then s else s.maskVec fn n
    | .bar4 a => s.bar4Access fn a)

/-! Resets of the link and of a function (R101, R107). -/

/-- The configuration space, the window and the MSI-X state of a function reset; what it has posted still drains. -/
def State.resetFn (s : State) (fn : Bool) : State :=
  (s.setFn fn { pcieFn0 with posted := (s.fn fn).posted }).wr (if fn then (HL_WIN_BASE 1) else (HL_WIN_BASE 0)) 0

/-- The link goes down: both functions are reset, and their ends of the channels. -/
def State.linkDown (s : State) : State :=
  let s1 := if s.rd HL_LINK_STAT_LINK_UP = 1 then s.bump HL_LINK_STAT_DOWN_CNT 1 else s
  let s2 := ((s1.wr HL_LINK_STAT_LINK_UP 0).wr HL_LINK_STAT_WIDTH 0).wr HL_LINK_STAT_SPEED 0
  ((s2.resetFn false).resetFn true).mbEndReset [mPF0, mPF1]

/-- PCIE_RESET (R101): passes continue. -/
def execPcieReset (cause : PcieResetCause) (s : State) : Out :=
  .next (
    let s1 := s.linkDown
    match cause with
    | .perst => { s1 with host := { s1.host with perst := false } }
    | .hotReset => s1
    | .linkDown => s1)

/-- A width and a speed that the endpoint supports (R91): ×1, ×2 and ×4, and 2.5 to 16.0 GT/s as HL_LINK_STAT numbers
them. -/
def linkForm (width speed : Nat) : Bool := (width == 1 || width == 2 || width == 4) && within 1 4 speed

/-- PCIE_LINK_UP (R91, R101, R102): the link trains to a width and a speed of R91; it stays down until NVM_BRINGUP has ended
and while PORST_N is low. -/
def execPcieLinkUp (width speed : Nat) (s : State) : Out :=
  .next (
    if s.boot.porst || !s.boot.aon || !s.host.bringupDone || !linkForm width speed then s
    else
      let s1 := ((s.wr HL_LINK_STAT_LINK_UP 1).wr HL_LINK_STAT_WIDTH width).wr HL_LINK_STAT_SPEED speed
      { s1 with host := { s1.host with perst := true } })

/-- FUNCTION_LEVEL_RESET (R86, R101, R107). -/
def execFunctionLevelReset (fn : Bool) (s : State) : Out :=
  .next (
    let m := fnMaster fn
    let s1 := (((s.resetFn fn).semAbandon m)).mbEndReset [m]
    { s1 with fabric := { s1.fabric with unlocks := s1.fabric.unlocks.filter (fun u => u.1 != m) } })

/-! Power states (R101, R103). -/

/-- D3HOT_ENTRY. -/
def execD3hotEntry (fn : Bool) (s : State) : Out := .next (s.setFn fn { s.fn fn with d3hot := true })

/-- D0_ENTRY: a vector whose pending bit was set in D3hot fires once MSI-X is usable. -/
def execD0Entry (fn : Bool) (s : State) : Out :=
  .next (
    let p := s.fn fn
    if p.d3hot then (s.setFn fn { p with d3hot := false }).fireOpen fn p.msix.pba else s)

/-! Waking (R106). -/

/-- PASS_CORE_WAKE: a gated pass core for which something waits is powered up; the security core (`none`) has no state that
its gating changes. -/
def execPassCoreWake (core : Option (Fin 4)) (s : State) : Out :=
  .next (
    match core with
    | some n =>
      if (s.core n).gated && s.mbWoken (mPassCore n.val) then (s.setCore n { s.core n with gated := false }).showCores else s
    | none => s)

end Sys2Proof.Machine
end

