-- ==== Sys2Proof/Machine/Reset.lean ====
section
/-! DEFINITION. Restarts (R39, R62, R101, R107) and the power-fail save (R65, R66). -/

namespace Sys2Proof.Machine

/-! What a restart keeps beside the retained record. -/

/-- A register that keeps its value: the always-on ones (mailboxes, the counter reservation, the archive indices), the
epoch (R370), and through any restart but PORST_N the link state and the windows (R101). -/
def keptReg (porst : Bool) (off : Nat) : Bool :=
  (decide (0x20000 ≤ off) && decide (off < 0x40000)) ||
    [CP_CTR_RESERVE_LO, CP_CTR_RESERVE_HI, HR_ARCH_WR, HR_ARCH_ACK, PAIR_EPOCH].contains off ||
    (!porst && [HL_LINK_STAT, HL_WIN 0, HL_WIN 1].contains off)

/-- The bytes of the host image that CP_HOST_IMG and CP_HOST_IMG_LEN name: SDRAM address and length (R58). -/
def State.hostImage (s : State) : Nat × Nat :=
  (sd (s.rd CP_HOST_IMG_BASE * 0x10000), s.rd CP_HOST_IMG_LEN_LENGTH)

/-- An address whose content outlasts a restart: the NOR and retention devices, and the host image that is to be sown. -/
def keptAddr (img : Option (Nat × Nat)) (a : Nat) : Bool :=
  (decide (aNor ≤ a) && decide (a < aWork)) ||
    (match img with
      | some r => decide (r.1 ≤ a) && decide (a < r.1 + r.2)
      | none => false)

/-- The key store at a restart: the fuses and the records in retention. -/
def KeyStore.restarted (k : KeyStore) : KeyStore := { keys0 with lc := k.lc, area := k.area }

/-- Everything at its reset state but what outlasts the restart. SEED_DEFAULTED clears only when a later sowing reaches RUNNING
(R57), or at PORST_N as its Reset entry says. CP_HOST_IMG and its length are kept for a sowing of the
host image, which R58 reads after the restart. -/
def State.restartBase (s : State) (porst fromHost : Bool) : State :=
  let img := if fromHost then some s.hostImage else none
  let kept (off : Nat) : Bool := keptReg porst off || (fromHost && (off == CP_HOST_IMG || off == CP_HOST_IMG_LEN))
  let b : State := { State.reset with
    pending := s.pending, now := s.now, free := s.free, cal := s.cal, queues := s.queues, jtag := s.jtag,
    outbox := s.outbox, keys := s.keys.restarted,
    regs := s.regs.filter (fun e => kept e.1),
    mem := s.mem.filter (fun e => keptAddr img e.1),
    memBad := s.memBad.filter (fun a => keptAddr img a),
    gleaner := { gleaner0 with archErases := s.gleaner.archErases },
    host := if porst then { host0 with perst := s.host.perst } else { s.host with bringupDone := false },
    boot := { boot0 with
      aon := s.boot.aon, porst := s.boot.porst, testMode := s.boot.testMode, wasOut := s.boot.wasOut, startAt := s.now, ckpt0 := s.boot.ckpt0, ckpt1 := s.boot.ckpt1,
      save := s.boot.save, nextArea := s.boot.nextArea } }
  (((b.wr CP_RETAIN_STAT_LAST_SAVE_CODE (s.rd CP_RETAIN_STAT_LAST_SAVE_CODE)).wr GLOBAL_MODE_ROLE
    (s.rd GLOBAL_MODE_ROLE)).wr PAIR_STAT_AUTH_IN (s.rd PAIR_STAT_AUTH_IN)).wr CP_BOOT_STAT_SEED_DEFAULTED
    (if porst then 0 else s.rd CP_BOOT_STAT_SEED_DEFAULTED)

/-- A surveyor has work in progress: an advance, a snapshot, or a field of the campaign in flight that no lane has. -/
def State.surveyorWorks (s : State) (r : Nat) : Bool :=
  s.survey.advances.any (fun a => a.region == r) || s.survey.snapDue.contains r ||
    s.camp.inFlight.any (fun c => c.fields.any (fun f => f.region == r && f.pending && !f.estGo && !f.optGo))

/-- The F1 of each surveyor whose work a device restart has interrupted (R138); PORST_N leaves nothing to tell it by.
DEDUCED (assumption 95). -/
def State.noteSurveyors (s old : State) (porst : Bool) : State :=
  s.each ((List.range 8).filter (fun r => !porst && old.surveyorWorks r)) (fun t r => t.recordFault 1 bSurveyor 0 r)

/-- A restart (R39): AUTH_OUT is released, the ends of the channels that reset are reset (R107), and sowing starts over with
the kind requested (3 the configured kind). -/
def State.restart (s : State) (porst : Bool) (kind : Nat) (fromHost : Bool) : State :=
  let s1 := ((s.setAuth false).setMode modeStop).setStage 0
  let s2 := s1.mbEndReset [mSteward, mSecurity, mPassCore 0, mPassCore 1, mPassCore 2, mPassCore 3]
  let b := ((if porst then s2.linkDown else s2).restartBase porst fromHost).noteSurveyors s porst
  b.setBoot { b.boot with kind := kind, fromHost := fromHost }

/-- A restart other than PORST_N waits for a power-fail save in progress (R66). -/
def State.restartOrHold (s : State) (warm : Bool) (kind : Nat) (fromHost : Bool) : State :=
  if s.boot.saving.isSome then s.setBoot { s.boot with held := some ⟨warm, kind, fromHost⟩ }
  else s.restart false kind fromHost

/-- PAIR_ROLE sampled. -/
def State.sampleRole (s : State) (role : Bool) : State := s.wr GLOBAL_MODE_ROLE (b2n role)

/-- A power-fail save that the supplies cut short leaves nothing valid in the save area (R64, R66). -/
def State.dropSave (s : State) : State :=
  if s.boot.saving.isSome then s.setBoot { s.boot with saving := none, save := none } else s

/-- The loss of the always-on domain (R40, R69, R414, R437). -/
def State.loseAon (s : State) : State :=
  let s1 := (s.dropSave).restart true 3 false
  { s1 with cal := 0, regs := [], queues := [], boot := { s1.boot with aon := false, wasOut := false } }

/-- POWER_UP (R39): VDD_AON rises. While TEST_MODE reads high the unit stays in reset (R421). -/
def execPowerUp (role : Straps) (s : State) : Out :=
  let test := role.testMode
  .next (
    let s1 := s.loseAon
    let s2 := s1.setBoot { s1.boot with aon := true, porst := test, testMode := test, wasOut := !test }
    if test then s2 else s2.sampleRole role.role)

/-- AON_POWER_LOSS (R40). -/
def execAonPowerLoss (s : State) : Out := .next s.loseAon

/-- PORST_ASSERT (R39, R66, R101, R102). -/
def execPorstAssert (s : State) : Out :=
  .next (
    if s.boot.porst || !s.boot.aon then s
    else
      let s1 := (s.dropSave).restart true 3 false
      s1.setBoot { s1.boot with porst := true })

/-- PORST_RELEASE (R41): PAIR_ROLE is sampled and sowing begins; while TEST_MODE reads high the unit does not leave reset
(R421). -/
def execPorstRelease (role : Straps) (s : State) : Out :=
  .next (
    if !s.boot.porst || !s.boot.aon then s
    else if role.testMode then s.setBoot { s.boot with testMode := true }
    else (s.setBoot { s.boot with porst := false, testMode := false, wasOut := true, startAt := s.now }).sampleRole role.role)

/-- WARM_RESET (R39, R66): WARM_N low has no effect while PORST_N is low. -/
def execWarmReset (s : State) : Out :=
  .next (if s.boot.porst || !s.boot.aon then s else s.restartOrHold true 3 false)

/-! The power-fail save. -/

/-- PWR_WARN_ASSERT (R65); asserted again during a save it is ignored (R66). -/
def execPwrWarnAssert (s : State) : Out :=
  .next (
    if s.boot.porst || !s.boot.aon || s.boot.warnAt.isSome || s.boot.confirmed then s
    else s.setBoot { s.boot with warnAt := some s.now })

/-- PWR_WARN_GLITCH (R65): an assertion shorter than 20 µs. -/
def execPwrWarnGlitch (s : State) : Out :=
  .next (
    match s.boot.warnAt with
    | none => s
    | some t =>
      if s.boot.confirmed || decide (t + 20 * cycPerUs ≤ s.now) then s
      else ((s.wr CP_RETAIN_FLAGS_PWR_WARN_GLITCH 1).event bDevice 0 0).setBoot { s.boot with warnAt := none })

/-- Every running engine stops, and the tick timer with it (R279). -/
def State.quiesceLoops (s : State) : State :=
  let s1 := s.each (List.range 32) (fun t n =>
    if t.leState n = leRunning then (t.wr (LOOP_STAT_STATE n) leStopped).setEngine n { t.engine n with due := none } else t)
  { s1 with loops := { s1.loops with nextTick := none } }

/-- Class-A values pending when the pass timer stops take effect (R82). -/
def State.landAtStop (s : State) : State :=
  let xs := (s.fabric.pendA.foldl addPend s.fabric.pendNow).foldl addPend s.fabric.armed
  let s1 : State := { s with fabric := { s.fabric with pendA := [], pendNow := [], armed := [] } }
  (xs.filter (fun p => p.off != PASS_MODE_CTL)).foldl State.landA s1

/-- The pass timer and the pass in progress stop for good (R65). -/
def State.stopPasses (s : State) : State :=
  let s1 := ((s.abandonHeadland.forceStop stopPower).setPhase phRemainder).landAtStop
  s1.setPass { s1.pass with timerOn := false, lateDue := none, faulted := false }

/-- The steps of R65: metering closes, the record is captured as things stood, passes and engines stop, the outputs go safe
or authority is released, and the save begins. -/
def State.beginSave (s : State) : State :=
  let s1 := s.closeMetering
  let r := s1.capture true (s1.rd CP_RETAIN_CFG_MODE == 2 && s1.fullFits)
  let s2 := s1.stopPasses.quiesceLoops
  let s3 := if s2.paired then s2.releaseAuth prFallow else s2.allSafe
  (s3.setBoot { s3.boot with
    writing := none, ckptDue := false, saving := if s.retained then some r else none }).setStage 0xB

/-- PWR_WARN_CONFIRMED (R65, R66): outside RUNNING no save is made. -/
def execPwrWarnConfirmed (s : State) : Out :=
  .next (
    match s.boot.warnAt with
    | none => s
    | some t =>
      if s.boot.confirmed || decide (s.now < t + 20 * cycPerUs) then s
      else
        let s1 := (s.setBoot { s.boot with confirmed := true, released := false }).raiseVec false 6
        if s1.rd CP_BOOT_STAT_STAGE = 9 then s1.beginSave else s1.calIdle)

/-- A save has ended: the restart held is acted on, or PWR_WARN has been released and the unit restarts (R66). -/
def State.afterSave (s : State) : State :=
  match s.boot.held with
  | some h => s.restart false h.kind h.fromHost
  | none => if s.boot.released then s.restart false 3 false else s

/-- POWER_FAIL_SAVE_COMMIT (R65), once the last sample is in the record (R346). -/
def execPowerFailSaveCommit (s : State) : Out :=
  .next (
    match s.boot.saving with
    | none => s
    | some r =>
      if s.meter.closing then s
      else (((s.setBoot { s.boot with saving := none, save := some r }).wr CP_RETAIN_STAT_LAST_SAVE_CODE E_OK).setStage
        0xC).afterSave)

/-- SAVE_ERROR (R66): a retention device failed or timed out, or the record does not fit; nothing is committed. -/
def execSaveError (capacity : Bool) (s : State) : Out :=
  .next (
    if s.rd CP_BOOT_STAT_STAGE ≠ 0xB then s
    else
      (((s.dropSave).wr CP_RETAIN_FLAGS_SAVE_INCOMPLETE 1).wr CP_RETAIN_STAT_LAST_SAVE_CODE
        (if capacity then E_CAPACITY else E_TIMEOUT)).afterSave)

/-- PWR_WARN_RELEASE (R39, R66). -/
def execPwrWarnRelease (s : State) : Out :=
  .next (
    if s.boot.saving.isSome then s.setBoot { s.boot with released := true }
    else if s.boot.confirmed && (s.rd CP_BOOT_STAT_STAGE = 0xC || s.rd CP_BOOT_STAT_STAGE = 0xB) then
      s.restart false 3 false
    else if s.boot.confirmed then s.setBoot { s.boot with warnAt := none, confirmed := false }
    else s)

end Sys2Proof.Machine
end

