-- ==== Sys2Proof/Machine/KeyStore.lean ====
section
/-! DEFINITION. The key store (chapter 16): derivation, slot states, the commands of PF1, update messages, attestation and
the life cycle. -/

namespace Sys2Proof.Machine

/-- E_TAG of R386: OPEN or an unwrap fails its tag. -/
def E_TAG : Nat := 0x10

/-- The state with the key store replaced. -/
def State.setKeys (s : State) (k : KeyStore) : State := { s with keys := k }

/-! Slots (R379 to R384). -/

/-- A slot as the security core holds it. -/
def State.slot (s : State) (n : Nat) : KeySlot := (s.keys.slots[n]?).getD noSlot

/-- The state with a slot replaced. -/
def State.setSlot (s : State) (n : Nat) (k : KeySlot) : State := s.setKeys { s.keys with slots := s.keys.slots.set n k }

/-- BOUND keys are available (R380): the chain is closed, the unit is not defaulted and no debug scope is open. -/
def State.boundOk (s : State) : Bool := s.keys.closed && s.rd CP_BOOT_STAT_SEED_DEFAULTED == 0 && s.scopes == 0

/-- A BOUND slot is unavailable (R380): also a written one wrapped under another measurement. -/
def State.unbound (s : State) (k : KeySlot) : Bool :=
  k.bound && (!s.boundOk || (!k.derived && k.boundTo != s.keys.measure))

/-- The state of a slot (R384). -/
def State.slotState (s : State) : Nat → Nat → Nat
  | 0, _ => 4
  | fuel + 1, n =>
    let k := s.slot n
    if !k.policy || (decide (2 ≤ n) && s.rd CP_BOOT_STAT_SEED_DEFAULTED == 1) then 0
    else if s.rd KS_STAT_SECURE_DEBUG = 1 then 6
    else if k.revoked || (n == 0 && s.keys.lc == 3) then 3
    else if !k.derived && k.value.isNone then 1
    else if k.derived && k.parent != 0xFF && s.slotState fuel k.parent != 2 then 4
    else if s.unbound k then 5
    else 2

/-- STATE of a slot as it follows from its policy and its ancestors. -/
def State.stateOf (s : State) (n : Nat) : Nat := s.slotState 65 n

/-- The derivation of R379. -/
def derive (parent label : List Byte) (n : Nat) : List Byte := kmac256 parent label n "KEIVIX-KDF"

/-- The root secret. -/
def rootKey : List Byte := leBytes 32 Config.rootSecret.toNat

/-- The value of a slot: written, or derived from its parent (R379, R381). -/
def State.slotKey (s : State) : Nat → Nat → List Byte
  | 0, _ => []
  | fuel + 1, n =>
    let k := s.slot n
    if n = 0 then derive rootKey (ascii "KEIVIX-IDENTITY") 57
    else if !k.derived then k.value.getD []
    else
      let parent := if k.parent = 0xFF then rootKey else s.slotKey fuel k.parent
      derive parent (ascii "KEIVIX-SLOT" ++ leBytes 1 n ++ k.label ++ (if k.bound then s.keys.measure else []))
        (if k.type = 3 then 57 else 32)

/-- The key in a slot. -/
def State.keyOf (s : State) (n : Nat) : List Byte := s.slotKey 65 n

/-- KS_SLOT_nn. -/
def State.slotWord (s : State) (n : Nat) : Word :=
  let k := s.slot n
  let st := s.stateOf n
  if st = 0 then BitVec.ofNat 32 (0xFF * 2 ^ 24)
  else BitVec.ofNat 32 (k.parent * 2 ^ 24 + k.use * 2 ^ 20 + k.type * 2 ^ 16 + b2n k.bound * 2 ^ 7 + b2n k.derived * 2 ^ 6 + st)

/-- Every register that shows the key store and the scopes brought up to date. -/
def State.showKeys (s : State) : State :=
  let s1 := s.each (List.range 64) (fun t n => t.setReg (KS_SLOT n) (s.slotWord n))
  let s2 := ((s1.wr KS_STAT_LC s.keys.lc).wr KS_STAT_PENDING_LC (b2n s.keys.area.target.isSome)).wr KS_STAT_BOUND_OK
    (b2n s.boundOk)
  let s3 := (s2.wr KS_STAT_DEBUG_OPEN (b2n (!s.keys.tokens.isEmpty))).wr DBG_STAT_SCOPE s.scopes
  (s3.wr KS_STN_REVOKED_COUNT s.stations.revoked.length).wr64 KS_FR_KCV_LO KS_FR_KCV_HI s3.kcv

/-- KS_CTR. -/
def State.keyCtr (s : State) : Nat := s.rd64 KS_CTR_LO KS_CTR_HI

/-- The records written to the key store area, where it can be reached, the unit is not defaulted, and the storage key that
seals it can be derived (R57, R392, R397). -/
def State.storeKeys (s : State) : State :=
  let k := s.keys
  if k.stored && s.rd CP_BOOT_STAT_SEED_DEFAULTED == 0 && s.rd KS_STAT_SECURE_DEBUG == 0 then
    s.setKeys { k with area := ⟨k.slots, k.owner, s.keyCtr, s.rd KS_FLOOR_FLOOR, s.stations.revoked, none⟩ }
  else s

/-- The slots that take a new value with the slots of a list: the derived slots below them, which lie at higher numbers
(R382, R393). -/
def State.descendants (s : State) (ns : List Nat) : List Nat :=
  (List.range 64).foldl (fun l n =>
    if (s.slot n).policy && (s.slot n).derived && l.contains (s.slot n).parent then addOnce l n else l) ns

/-- REVOKED cleared in the derived slots that take a new value (R384). -/
def State.renewed (s : State) (ns : List Nat) : State :=
  s.each ns (fun t n => if (t.slot n).derived then t.setSlot n { t.slot n with revoked := false } else t)

/-- A new value written into a slot (R393, R395): its descendants take their new values at once, and a new FIELD_ROOT clears
every station revocation. -/
def State.writeSlot (s : State) (n : Nat) (key : List Byte) : State :=
  let s1 := s.setSlot n { s.slot n with value := some key, revoked := false, boundTo := s.keys.measure }
  let s2 := s1.renewed (s1.descendants [n])
  if n = 1 then { s2 with stations := { s2.stations with revoked := [], newRoot := true } } else s2

/-- A slot destroyed (R391): a written one becomes EMPTY, a derived one REVOKED. -/
def State.destroySlot (s : State) (n : Nat) : State :=
  let k := s.slot n
  s.setSlot n (if k.derived then { k with revoked := true } else { k with value := none, revoked := false })

/-- A slot revoked. -/
def State.revokeSlot (s : State) (n : Nat) : State := s.setSlot n { s.slot n with revoked := true }

/-- STATION (R395): action 0 revokes the key of an entry, action 1 clears that and gives it a KEY_GEN at the next
headland. -/
def State.station (s : State) (action gen index : Nat) : State :=
  let st := s.stations
  let others := st.revoked.filter (· != index)
  { s with stations :=
      if action = 0 then { st with revoked := index :: others }
      else { st with revoked := others, rekey := st.rekey.filter (fun x => x.1 != index) ++ [(index, gen)] } }

/-! The life cycle (R375 to R378). -/

/-- The records of a slot erased by a transition (R378): a written slot is EMPTY, a derived one destroyed. -/
def KeySlot.erased (k : KeySlot) : KeySlot :=
  if k.derived then { k with revoked := k.policy } else { k with value := none, revoked := false }

/-- Steps 2 to 5 of R377. -/
def State.transition (s : State) (target : Nat) (owner : List Byte) : State :=
  let k := s.keys
  let slots := match k.slots with
    | [] => []
    | id :: r => id :: r.map KeySlot.erased
  let s1 := s.setKeys { k with
    lc := target, slots := slots, owner := if target = 1 then owner else if target = 3 then [] else k.owner,
    area := { k.area with target := none } }
  let s2 : State := { s1 with stations := { s1.stations with revoked := [] } }
  let s3 := if target = 2 then s2 else (s2.wr64 KS_CTR_LO KS_CTR_HI 0).wr KS_FLOOR_FLOOR 0
  (s3.storeKeys.showKeys).raiseVec true 0

/-- Step 1 of R377: the pending record stands. -/
def State.pendTransition (s : State) (target : Nat) (owner : List Byte) : State :=
  s.setKeys { s.keys with area := { s.keys.area with target := some (target, owner) } }

/-! Commands (R385 to R387). -/

/-- The bytes of KS_IN. -/
def State.ksInput (s : State) (len : Nat) : List Byte :=
  ((List.range ((len + 3) / 4)).flatMap (fun k => leBytes 4 (s.reg (KS_IN k)).toNat)).take len

/-- The output of a command put into KS_OUT; what it does not reach is 0. -/
def State.ksOutput (s : State) (out : List Byte) : State :=
  s.each (List.range 256) (fun t k => t.setReg (KS_OUT k) (BitVec.ofNat 32 (ofLeBytes ((out.drop (4 * k)).take 4))))

/-- A byte and a little-endian field of an input. -/
def inU (bs : List Byte) (off n : Nat) : Nat := ofLeBytes ((bs.drop off).take n)

/-- The input bytes of a range are all 0. -/
def inZero (bs : List Byte) (off n : Nat) : Bool := ((bs.drop off).take n).all (· == 0)

/-- A list cut or filled with zeros to a length. -/
def fitTo (n : Nat) (bs : List Byte) : List Byte := bs.take n ++ List.replicate (n - bs.length) 0

/-- What a command does: the codes its checks give, and its effect with its output. -/
structure KsWork where
  codes : List Nat
  effect : State × List Byte

/-- A command answered (R385): reply, KS_STAT, KS_OUT, and a rejection counted. -/
def State.ksAnswer (s : State) (op tag code : Nat) (out : List Byte) : State :=
  let s1 := ((s.wr KS_STAT_LAST_OP op).wr KS_STAT_LAST_CODE code).ksOutput out
  let s2 := if code = E_OK then s1 else s1.bump KS_CNT_REJECT_COUNT 1
  s2.reply (sqchYX 0).data op tag code out.length

/-- A command of PF1 is executing: its reply has not been posted (R385). -/
def State.ksBusy (s : State) : Bool := s.requests.replies.any (fun r => r.1 == (sqchYX 0).data)

/-- The command at the head of SQCH_00 is carried out if its OP is this one or one that is not assigned; commands are executed
one at a time. -/
def State.ksCommand (s : State) (op : Nat) (work : State → List Byte → KsWork) : State :=
  let d := sqchXY 0
  match s.requestWords d with
  | w0 :: len :: _ =>
    let o := w0 / 2 ^ 24
    let tag := w0 / 2 ^ 16 % 256
    let known := decide (1 ≤ o) && decide (o ≤ 9)
    if (o ≠ op ∧ known) ∨ s.ksBusy then s
    else
      let s1 := s.popWords d 2
      if !known then s1.ksAnswer o tag E_UNKNOWN []
      else if w0 % 2 ^ 16 ≠ 0 ∨ 1024 < len then s1.ksAnswer o tag E_RANGE []
      else
        let w := work s1 (s1.ksInput len)
        match w.codes with
        | [] => w.effect.1.ksAnswer o tag E_OK w.effect.2
        | c :: cs => s1.ksAnswer o tag ((pickCode (c :: cs)).getD c) []
  | _ => s

/-- An effect without output, stored and shown. -/
def State.ksDone (s : State) : State × List Byte := (s.storeKeys.showKeys, [])

/-- The length of a key of a type. -/
def keyLen (type : Nat) : Nat := if type = 3 then 57 else 32

/-- Clear keys are refused (R387). -/
def State.noClear (s : State) : Bool := s.keys.signedOnly || s.keys.lc == 3

/-- The policy rules of a WRITE (R387). -/
def State.writeConflict (s : State) (n type : Nat) : Bool := (s.slot n).derived || (s.slot n).type != type

/-- KS_WRITE (R386, R387). -/
def execKsWrite (s : State) : Out :=
  .next (s.ksCommand 1 (fun t bs =>
    let n := inU bs 0 1
    let type := inU bs 1 1
    { codes := broken [
        (decide (4 ≤ bs.length) && decide (n < 64) && decide (1 ≤ type) && decide (type ≤ 3) && inZero bs 2 2 &&
          decide (bs.length = 4 + keyLen type), E_RANGE),
        (!t.noClear, E_STATE), (t.stateOf n != 0, E_UNKNOWN), (!t.writeConflict n type, E_CONFLICT)],
      effect := (t.writeSlot n (bs.drop 4)).ksDone }))

/-- KS_DESTROY (R386, R387, R391). -/
def execKsDestroy (s : State) : Out :=
  .next (s.ksCommand 3 (fun t bs =>
    let n := inU bs 0 1
    { codes := broken [(decide (bs.length = 1) && decide (n < 64), E_RANGE), (n != 0, E_STATE), (t.stateOf n != 0, E_UNKNOWN)],
      effect := (t.destroySlot n).ksDone }))

/-- KS_REVOKE (R386, R387, R393). -/
def execKsRevoke (s : State) : Out :=
  .next (s.ksCommand 4 (fun t bs =>
    let n := inU bs 0 1
    { codes := broken [(decide (bs.length = 1) && decide (n < 64), E_RANGE), (n != 0, E_STATE), (t.stateOf n != 0, E_UNKNOWN)],
      effect := (t.revokeSlot n).ksDone }))

/-- KS_STATION (R386, R387, R395). -/
def execKsStation (s : State) : Out :=
  .next (s.ksCommand 5 (fun t bs =>
    let action := inU bs 0 1
    let gen := inU bs 1 1
    let g := inU bs 2 2
    { codes := broken [(decide (bs.length = 4) && decide (action ≤ 1), E_RANGE), (action == 0 || !t.noClear, E_STATE),
        (t.gzUsed g, E_UNKNOWN), (action == 0 || t.gz g 0x23 1 != gen, E_CONFLICT)],
      effect := (t.station action gen g).ksDone }))

/-- The operations of USE, in the order of R386: 0 SEAL, 1 OPEN, 2 MAC, 3 SIGN (DESIGN CHOICE, assumption 32). -/
def useBit (operation : Nat) : Nat := if operation ≤ 1 then 0 else operation - 1

/-- What USE gives for the input behind its four bytes (R386): SEAL and OPEN take the IV, `aad` bytes of AAD and the data;
none where OPEN's tag fails. -/
def State.useOutput (s : State) (n f aad : Nat) (rest : List Byte) : Option (List Byte) :=
  let key := s.keyOf n
  let iv := rest.take 12
  let add := (rest.drop 12).take aad
  let data := rest.drop (12 + aad)
  if f = 0 then some (gcmSeal key iv add data)
  else if f = 1 then gcmOpen key iv add data
  else if f = 2 then some (kmac256 key rest 32 "KEIVIX-MAC")
  else some (edSign key "KEIVIX-HOST" rest)

/-- KS_USE (R386, R387). -/
def execKsUse (_tagOk _out : Computed) (s : State) : Out :=
  .next (s.ksCommand 6 (fun t bs =>
    let n := inU bs 0 1
    let f := inU bs 1 1
    let aad := inU bs 2 2
    let len := bs.length
    let sized := if f = 0 then decide (16 + aad ≤ len) else if f = 1 then decide (32 + aad ≤ len)
      else if f = 2 then aad == 0 else aad == 0 && len == 68
    { codes := broken [(decide (4 ≤ len) && decide (n < 64) && decide (f ≤ 3) && sized, E_RANGE), (t.stateOf n != 0, E_UNKNOWN),
        (decide (2 ≤ n) && bitOf (t.slot n).use (useBit f), E_CONFLICT), (t.stateOf n == 2, E_KEY_REVOKED),
        (f != 1 || (t.useOutput n f aad (bs.drop 4)).isSome, E_TAG)],
      effect := (t, (t.useOutput n f aad (bs.drop 4)).getD []) }))

/-- The device's private transport key, and the identity and transport public keys (R381). -/
def transportPrivate : List Byte := derive rootKey (ascii "KEIVIX-TRANSPORT") 56
def identityPublic : List Byte := edPublic (derive rootKey (ascii "KEIVIX-IDENTITY") 57)
def transportPublic : List Byte := x448 transportPrivate base448

/-- The digest of the owner key; zeros where there is none (DESIGN CHOICE, assumption 32). -/
def State.ownerDigest (s : State) : List Byte :=
  if s.keys.owner.isEmpty then List.replicate 32 0 else shake256 s.keys.owner 32

/-- m, 64 bytes (R60); zeros before the chain begins. -/
def State.measured (s : State) : List Byte := fitTo 64 s.keys.measure

/-- KS_PUBLIC (R386). -/
def execKsPublic (s : State) : Out :=
  .next (s.ksCommand 7 (fun t bs =>
    { codes := broken [(bs.isEmpty, E_RANGE)],
      effect := (t, identityPublic ++ transportPublic ++ t.measured ++ t.ownerDigest) }))

/-- The attestation statement for a nonce (R396). -/
def State.statement (s : State) (nonce : List Byte) : List Byte :=
  let flags := s.rd CP_BOOT_STAT_SEED_DEFAULTED + 2 * b2n (s.scopes != 0) + 4 * s.rd KS_STAT_SECURE_DEBUG
  leBytes 4 0x5454414B ++ leBytes 2 1 ++ leBytes 1 s.keys.lc ++ leBytes 1 flags ++ leBytes 8 Config.uid.toNat ++ s.measured ++
    leBytes 8 (s.rd64 CP_SEED_SEQ_LO CP_SEED_SEQ_HI) ++ leBytes 4 (s.rd KS_FLOOR_FLOOR) ++ leBytes 4 0 ++ leBytes 8 s.keyCtr ++
    leBytes 8 s.time ++ nonce ++ leBytes 8 s.kcv ++ leBytes 8 0

/-- KS_ATTEST (R396): the statement, and slot 0's Ed448ph signature over it. -/
def execKsAttest (_signature : Computed) (s : State) : Out :=
  .next (s.ksCommand 8 (fun t bs =>
    { codes := broken [(bs.length == 32, E_RANGE), (t.stateOf 0 == 2, E_KEY_REVOKED)],
      effect := (t, t.statement bs ++ edSign (t.keyOf 0) "KEIVIX-ATTEST" (shake256 (t.statement bs) 64)) }))

/-- KS_LIFECYCLE (R376, R377): with `cut` the power is lost after step 1. -/
def execKsLifecycle (cut : Bool) (s : State) : Out :=
  .next (
    let s1 := s.ksCommand 9 (fun t bs =>
      let target := inU bs 0 1
      { codes := broken [(decide (target ≤ 3) &&
          bs.length == (if target = 1 then 58 else 1), E_RANGE), (t.keys.lc == 0 && (target == 1 || target == 3), E_STATE)],
        effect := ((if cut then (t.pendTransition target (bs.drop 1)).showKeys else t.transition target (bs.drop 1)), []) })
    if cut && s1.keys.area.target != s.keys.area.target then ((s.popWords (sqchXY 0) 2).setKeys s1.keys).showKeys
    else if s1.keys.lc = 3 ∧ s.keys.lc ≠ 3 then s1.restartOrHold false 0 false else s1)

/-! The update message (R388 to R391). -/

/-- The action of a message names a slot. -/
def updSlot (action : Nat) : Bool := decide (1 ≤ action) && decide (action ≤ 3)

/-- The length of the key that a message wraps: of its TYPE, or an owner public key. -/
def updKeyLen (bs : List Byte) : Nat := if inU bs 4 1 = 6 then 57 else keyLen (inU bs 6 1)

/-- The form of a message (R388, R390): the ciphertext of a wrapped key is followed by zeros (DEDUCED from "padded with 0",
assumption 31). -/
def updForm (bs : List Byte) : Bool :=
  let action := inU bs 4 1
  let wraps := action == 1 || action == 6
  bs.length == 312 && inU bs 0 4 == 0x5055534B && decide (1 ≤ action) && decide (action ≤ 8) &&
    (if updSlot action then decide (inU bs 5 1 < 64) else inU bs 5 1 == 0) &&
    (if action = 1 then decide (1 ≤ inU bs 6 1) && decide (inU bs 6 1 ≤ 3) else inU bs 6 1 == 0) && inZero bs 7 1 &&
    (if wraps then inZero bs (0x70 + updKeyLen bs) (64 - updKeyLen bs) else inZero bs 0x38 136) && inZero bs 0x132 6

/-- The conflicts of a message (R387, R390). -/
def State.updConflict (s : State) (bs : List Byte) : Bool :=
  let action := inU bs 4 1
  let n := inU bs 5 1
  let arg0 := inU bs 0x30 4
  let arg1 := inU bs 0x34 4
  ((bs.drop 0x10).take 32 != shake256 identityPublic 32) ||
    (action == 1 && s.writeConflict n (inU bs 6 1)) || ((action == 2 || action == 3) && n == 0) ||
    (action == 4 && bitOf arg1 8 && s.gz arg0 0x23 1 == arg1 % 256) ||
    (action == 5 && (decide (arg0 ≤ s.rd KS_FLOOR_FLOOR) || decide (s.keys.rollback < arg0)))

/-- The signature of a message verifies under the owner key (R388). -/
def State.updSigned (s : State) (bs : List Byte) : Bool :=
  edVerify s.keys.owner "KEIVIX-KEYS" (shake256 (bs.take 0xC0) 64) ((bs.drop 0xC0).take 114)

/-- The key material that a message wraps, where its tag verifies (R389). -/
def updUnwrap (bs : List Byte) : Option (List Byte) :=
  let eph := (bs.drop 0x38).take 56
  let key := kmac256 (x448 transportPrivate eph) (eph ++ transportPublic) 32 "KEIVIX-WRAP"
  gcmOpen key ((bs.drop 8).take 8 ++ List.replicate 4 0) (bs.take 0x70)
    ((bs.drop 0x70).take (updKeyLen bs) ++ (bs.drop 0xB0).take 16)

/-- KS_UPDATE (R388 to R391). -/
def execKsUpdate (_sigOk _tagOk _key : Computed) (s : State) : Out :=
  .next (
    let s1 := s.ksCommand 2 (fun t bs =>
      let action := inU bs 4 1
      let n := inU bs 5 1
      let ctr := inU bs 8 8
      let arg0 := inU bs 0x30 4
      let arg1 := inU bs 0x34 4
      let form := updForm bs
      let u := t.wr64 KS_CTR_LO KS_CTR_HI ctr
      { codes := broken [(form, E_RANGE), ((t.keys.lc == 1 || t.keys.lc == 2) && (action != 7 || t.keys.lc == 1), E_STATE),
          ((!updSlot action || t.stateOf n != 0) && (action != 4 || t.gzUsed arg0), E_UNKNOWN), (!t.updConflict bs, E_CONFLICT),
          (t.updSigned bs, E_SIGNATURE), (decide (t.keyCtr < ctr), E_COUNTER),
          ((action != 1 && action != 6) || (updUnwrap bs).isSome, E_TAG)],
        effect :=
          let key := (updUnwrap bs).getD []
          if action = 1 then (u.writeSlot n key).ksDone
          else if action = 2 then (u.destroySlot n).ksDone
          else if action = 3 then (u.revokeSlot n).ksDone
          else if action = 4 then (u.station (b2n (bitOf arg1 8)) (arg1 % 256) arg0).ksDone
          else if action = 5 then (u.wr KS_FLOOR_FLOOR arg0).ksDone
          else if action = 6 then (u.setKeys { u.keys with owner := key }).ksDone
          else (u.transition (if action = 7 then 2 else 3) [], []) })
    if s1.keys.lc = 3 ∧ s.keys.lc ≠ 3 then s1.restartOrHold false 0 false else s1)

/-- KS_COMMAND_TIMEOUT (R385): word 0 has waited 10 ms alone. -/
def execKsCommandTimeout (s : State) : Out :=
  .next (
    match s.waiting (sqchXY 0).data with
    | [w] =>
      if w.at_ + 10 * cycPerMs ≤ s.now then
        (s.popWords (sqchXY 0) 1).ksAnswer (w.word.toNat / 2 ^ 24) (w.word.toNat / 2 ^ 16 % 256) E_TIMEOUT []
      else s
    | _ => s)

/-- KS_STAT with BUSY. -/
def State.ksStat (s : State) : Word := BitVec.ofNat 32 (putBits (s.reg KS_STAT).toNat 3 3 (b2n s.ksBusy))

/-- KS_STATUS_QUERY (R385): a post to SMBW_00 is answered on SMBW_04 with KS_STAT once that is free; posts to SMBW_01 to
SMBW_03 are popped and logged. -/
def execKsStatusQuery (s : State) : Out :=
  .next (
    let s1 := if s.mbUnread (smbwDir 0) && !s.mbBusy (smbwDir 4) then
        (s.mbPop (smbwDir 0)).2.mbAccept (smbwDir 4) s.ksStat
      else s
    s1.each [1, 2, 3] (fun t n =>
      if t.mbUnread (smbwDir n) then (t.mbPop (smbwDir n)).2.reject mPF1 (SMBW_DATA n) E_UNKNOWN true else t))

end Sys2Proof.Machine
end

