-- ==== Sys2Proof/Machine/Debug.lean ====
section
/-! DEFINITION. Debug access and JTAG (R397, R398, R434): challenges, tokens, scopes, and the instructions of the TAP. -/

namespace Sys2Proof.Machine

/-- E_DEBUG of R386 and R398: the unit is decommissioned. -/
def E_DEBUG : Nat := 0x11

/-- The state with the TAP replaced. -/
def State.setJtag (s : State) (j : Jtag) : State := { s with jtag := j }

/-! Tokens (R398). -/

/-- A fresh challenge. -/
def State.newChallenge (s : State) (chal : Nat) : State :=
  let s1 := s.each (List.range 8) (fun t k => t.setReg (DBG_CHAL k) (BitVec.ofNat 32 (chal / 2 ^ (32 * k))))
  (s1.wr DBG_STAT_CHAL_VALID 1).setKeys { s1.keys with chalAt := s1.now }

/-- The bytes of the challenge in force. -/
def State.challenge (s : State) : List Byte := (List.range 8).flatMap (fun k => leBytes 4 (s.reg (DBG_CHAL k)).toNat)

/-- The signature of a token verifies under the owner key (R398). -/
def State.tokenSigned (s : State) (bs : List Byte) : Bool :=
  edVerify s.keys.owner "KEIVIX-DEBUG" (shake256 (bs.take 0x40) 64) ((bs.drop 0x40).take 114)

/-- The codes of a token's checks, E_DEBUG apart. -/
def State.tokenCodes (s : State) (bs : List Byte) : List Nat :=
  let scope := inU bs 4 1
  broken [
    (bs.length == 184 && inU bs 0 4 == 0x4742444B && decide (scope < 8) && inZero bs 5 3 && inZero bs 0x38 8 &&
      inZero bs 0xB2 6, E_RANGE),
    ((s.keys.lc == 1 || s.keys.lc == 2) && (!bitOf scope 2 || s.keys.lc == 1), E_STATE),
    (inU bs 8 8 == Config.uid.toNat, E_CONFLICT), (s.tokenSigned bs, E_SIGNATURE),
    (s.rd DBG_STAT_CHAL_VALID == 1 && decide (s.now ≤ s.keys.chalAt + 60 * cycPerS) && (bs.drop 0x18).take 32 == s.challenge &&
      decide (s.time ≤ inU bs 0x10 8), E_TIMEOUT)]

/-- A token presented: the challenge is consumed, and a token that passes opens its scopes; opening scope [2] blocks every
slot until the next restart (R397). -/
def State.present (s : State) (bs : List Byte) : State :=
  let code := if s.keys.lc = 3 then E_DEBUG else (pickCode (s.tokenCodes bs)).getD E_OK
  let s1 := (s.wr DBG_STAT_LAST_CODE code).wr DBG_STAT_CHAL_VALID 0
  if code ≠ E_OK then s1
  else
    let scope := inU bs 4 1
    let s2 := s1.setKeys { s1.keys with tokens := (scope, inU bs 0x10 8) :: s1.keys.tokens }
    (if bitOf scope 2 then s2.wr KS_STAT_SECURE_DEBUG 1 else s2).showKeys

/-- Every scope opened by a token closed. -/
def State.closeScopes (s : State) : State := (s.setKeys { s.keys with tokens := [] }).showKeys

/-- The bytes of DBG_TOKEN. -/
def State.tokenBytes (s : State) : List Byte := (List.range 46).flatMap (fun k => leBytes 4 (s.reg (DBG_TOKEN k)).toNat)

/-- DEBUG_SCOPE_EXPIRY (R398): the scopes of every token whose NOT_AFTER has passed close. -/
def execDebugScopeExpiry (s : State) : Out :=
  .next (
    if s.keys.tokens.any (fun t => decide (t.2 < s.time)) then
      (s.setKeys { s.keys with tokens := s.keys.tokens.filter (fun t => !decide (t.2 < s.time)) }).showKeys
    else s)

/-! The TAP (R434). -/

/-- IDCODE. -/
def execIdcode (s : State) : Out := .next ((s.setJtag { s.jtag with ir := 0x01 }).send (.tdo 0x209604BB))

/-- SAMPLE_PRELOAD: the boundary register is read, its update latch takes `preload`, and `sampled` is what the environment gives
the cells whose level State does not hold; without boundary scan it acts as BYPASS (R397). -/
def execSamplePreload (sampled preload : Nat) (s : State) : Out :=
  .next (
    let s1 := s.setJtag { s.jtag with ir := 0x02 }
    if bitOf s.scopes 0 then (s1.setJtag { s1.jtag with latch := preload % 2 ^ 835 }).send (.tdo (s1.boundary sampled))
    else s1.send (.tdo 0))

/-- EXTEST. -/
def execExtest (s : State) : Out := .next (s.setJtag { s.jtag with ir := 0x03 })

/-- An instruction selected; while it is in force AUTH_OUT is never asserted (R434). -/
def State.selectScan (s : State) (ir : Nat) : State :=
  let s1 := s.setJtag { s.jtag with ir := ir }
  if s1.scan && s1.rd GLOBAL_MODE_AUTH == 1 then s1.releaseAuth prFallow else s1

/-- CLAMP. -/
def execClamp (s : State) : Out := .next (s.selectScan 0x04)

/-- HIGHZ. -/
def execHighz (s : State) : Out := .next (s.selectScan 0x05)

/-- INTEST. -/
def execIntest (s : State) : Out := .next (s.setJtag { s.jtag with ir := 0x06 })

/-- JTAG_TOKEN (R398, R434): the token shifted in is presented. -/
def execJtagToken (token : List Byte) (_sigOk : Computed) (s : State) : Out :=
  .next ((s.setJtag { s.jtag with ir := 0x20 }).present token)

/-- JTAG_CHALLENGE (R434): the challenge in force, 256 bits. -/
def execJtagChallenge (s : State) : Out := .next ((s.setJtag { s.jtag with ir := 0x21 }).send (.tdo (ofLeBytes s.challenge)))

/-- DEBUG_ACCESS (R397, R434): the instruction is selected. What the debug port of an open scope [1] or [2] shifts out is
not given and is free (assumption 20); with neither open the port reaches nothing and shifts out 0. -/
def execDebugAccess (s : State) : Out :=
  .next (
    let s1 := s.setJtag { s.jtag with ir := 0x30 }
    if 2 ≤ s.scopes then s1.drawn.send (.tdo s1.freshVal.toNat) else s1.send (.tdo 0))

/-- BYPASS. -/
def execBypass (s : State) : Out := .next ((s.setJtag { s.jtag with ir := 0xFF }).send (.tdo 0))

/-- TAP_RESET: TRST_N selects IDCODE. -/
def execTapReset (s : State) : Out := .next (s.setJtag { s.jtag with ir := 0x01 })

end Sys2Proof.Machine
end

