-- ==== Sys2Proof/Machine/Checks.lean ====
section
/-! DEFINITION. What a register write is checked for on acceptance (R77, R82): the range and E_CONFLICT checks of every
block, made on the state `c` whose registers read as they would after the write, pending values included. -/

namespace Sys2Proof.Machine

/-- A signed 4-bit field lies in a range. -/
def s4In (lo hi : Int) (v : Nat) : Bool := decide (lo ≤ toSigned 4 v) && decide (toSigned 4 v ≤ hi)

/-! Masters. -/

def isHost (m : Nat) : Bool := m == mPF0 || m == mPF1
def isPassCore (m : Nat) : Bool := decide (2 ≤ m) && decide (m ≤ 5)
def isSurveyor (m : Nat) : Bool := decide (6 ≤ m) && decide (m ≤ 13)

/-! CLOCKPOWER. -/

/-- The host image region breaks a rule of CP_HOST_IMG_LEN or R59. -/
def State.hostImageOk (s : State) : Bool :=
  let a := s.rd CP_HOST_IMG_BASE * 0x10000
  let n := s.rd CP_HOST_IMG_LEN_LENGTH
  decide (n % 64 = 0) && within 4096 (0x8000000 - 64) n && decide (0x40000000 ≤ a) &&
    decide (a + n + 0xC000000 ≤ s.sdramSize)

/-- Checks of the CLOCKPOWER registers; `act` is the data written to WO and W1S bits. -/
def State.checkClock (s c : State) (master off act : Nat) : List Nat :=
  if off = HL_WIN 0 ∨ off = HL_WIN 1 then
    broken [(decide (bitsOf (c.reg off).toNat 3 0 * 2 ^ 30 < s.sdramSize), E_RANGE),
      (!(off == HL_WIN 1 && master == mPF0), E_SECURE)]
  else if off = HL_BAR2_CFG then broken [(within 1 50 (c.rd HL_BAR2_CFG_TMO_MS), E_RANGE)]
  else if off = CP_RETAIN_CFG then
    broken [(c.rd CP_RETAIN_CFG_FURROW_MAX_AGE != 0 && within 1 60 (c.rd CP_RETAIN_CFG_CHECKPOINT_S) &&
      c.rd CP_RETAIN_CFG_MODE != 3, E_RANGE)]
  else if off = CP_RESTART then
    broken [(within 9 12 (s.rd CP_BOOT_STAT_STAGE), E_STATE), (!bitOf act 2 || s.hostImageOk, E_RANGE)]
  else if off = CP_TIME_CTL then broken [(!(bitOf act 0 && s.rd CP_TIME_CTL_TIME_BUSY == 1), E_BUSY)]
  else []

/-! ACCESS. -/

/-- Checks of the ACCESS registers. -/
def State.checkAccess (s c : State) (master off act : Nat) : List Nat :=
  if off = ACCESS_CFG_CTL then broken [(c.rd ACCESS_CFG_CTL_EDIT_MAX != 0, E_RANGE)]
  else if off = ACCESS_SEM_FORCE then
    broken [(master == mSteward || master == mPF1, E_SECURE), (s.semHeld (act % 32), E_STATE)]
  else if ACCESS_SEM 0 ≤ off ∧ off < ACCESS_SEM 32 then
    let n := (off - ACCESS_SEM 0) / 4
    if !bitOf act 16 then [] else if !s.semHeld n then [E_STATE] else broken [(s.semOwner n == master, E_LOCKED)]
  else []

/-! SURVEYOR and TILLER. -/

/-- Checks of the SURVEYOR registers. -/
def checkSurveyor (c : State) (base i : Nat) : List Nat :=
  if base = SV_CFG0 0 then broken [(decide (2 ≤ c.rd (SV_CFG0_GROSS_K i)), E_RANGE)]
  else if base = SV_CFG1 0 then broken [(c.rd (SV_CFG1_Q_CUT i) != 0, E_RANGE)]
  else if base = SV_CFG2 0 then broken [(c.rd (SV_CFG2_Q_LIN i) != 0, E_RANGE)]
  else []

/-- Checks of the TILLER registers common to all regions (R190, R191). -/
def checkTiller (c : State) (off : Nat) : List Nat :=
  if off = CMN_CFG then
    broken [(within 1 40 (c.rd CMN_CFG_ITER_RESOLVE) && decide (c.rd CMN_CFG_ROUNDS_MAX ≤ 12) &&
        within 1 600 (c.rd CMN_CFG_DEADLINE) && within 1 600 (c.rd CMN_CFG_INTERVAL), E_RANGE),
      (decide (c.rd CMN_CFG_DEADLINE ≤ c.rd CMN_CFG_INTERVAL), E_CONFLICT)]
  else if off = CMN_RHO then broken [(f32In (c.rd CMN_RHO_RHO_Q) (tenTo 6) 1000000, E_RANGE)]
  else if off = CMN_EPS then
    broken [(within 1 9 (c.rd CMN_EPS_EPS_DUAL_EXP) && c.rd CMN_EPS_EPS_T != 0 && c.rd CMN_EPS_EPS_Q != 0, E_RANGE)]
  else []

/-! PASS. -/

/-- The mode at the apply point of a request made now: that of a request taken by the headland in progress, STOP where the
pass has had a program fault, else the mode in force (R247). -/
def State.modeAhead (s : State) : Nat :=
  if s.pass.faulted then modeStop
  else match s.fabric.pendNow.find? (fun p => p.off == PASS_MODE_CTL) with
    | some p => p.value.toNat % 4
    | none => s.rd PASS_MODE_STAT_MODE

/-- Checks of a mode request (R247, R434); a write that leaves REQ as it is asked for is checked all the same. -/
def State.checkReq (s : State) (req : Nat) : List Nat :=
  broken [(req != 3, E_RANGE),
    (!(req == modeRun && (s.pass.prog.isNone || s.rd CP_BOOT_STAT_STAGE != 9 || s.scan)), E_STATE),
    (!(req == modeHold && s.modeAhead == modeStop), E_STATE)]

/-- Checks of the PASS registers. -/
def State.checkPass (s c : State) (off : Nat) : List Nat :=
  if off = PASS_PERIOD then
    let p := c.rd PASS_PERIOD_PERIOD_MS
    broken [(within 10 2000 p, E_RANGE), (!(c.paired && decide (p < 20)), E_CONFLICT), (s.pairFits p, E_CAPACITY)]
  else if off = PASS_MODE_CTL then s.checkReq (c.rd PASS_MODE_CTL_REQ)
  else if off = PASS_WD_CFG then broken [(decide (c.rd PASS_WD_CFG_MARGIN_PCT ≤ 50), E_RANGE)]
  else if off = PASS_RESTART_CFG then broken [(c.rd PASS_RESTART_CFG_COLD_MODE != 3, E_RANGE)]
  else []

/-! LOOP (R271, R283). -/

/-- The number of sources of a kind: ADC channels, RTD channels, pulse inputs, external words. -/
def sourceCount (kind : Nat) : Nat := if kind = 1 then 16 else if kind = 3 then 8 else 32

/-- The block that owns a source enables it; external words are always there. -/
def State.sourceEnabled (s : State) (kind ref : Nat) : Bool :=
  match kind with
  | 0 => s.rd (MT_ADC_CFG_EN ref) == 1
  | 1 => s.rd (MT_RTD_CFG_TYPE ref) != 0
  | 2 => s.rd (MT_PLS_CFG_EN ref) == 1
  | _ => true

/-- The source kind of a set-point kind that names one. -/
def spSource (kind : Nat) : Nat := if kind = 1 then 3 else kind

/-- The entries of each section of the set-point table, by LOOP_SPT.SECTION. -/
def sectionLen (sec : Nat) : Nat :=
  match sec with
  | 0 => 256
  | 1 => 1024
  | 2 => 32
  | 3 => 32
  | 4 => 16
  | 5 => 16384
  | _ => 0

/-- A table entry names an element in use (R204, R283). -/
def State.entryNamed (s : State) (sec i : Nat) : Bool :=
  if sec = 5 then s.gzUsed i else s.atlasInForce.used (kindTable (sec + 1)) i

/-- An engine's checks of its sources. -/
def checkLoopSource (c : State) (n : Nat) : List Nat :=
  let sk := c.rd (LOOP_SRC_SP_KIND n)
  let pk := c.rd (LOOP_SRC_PV_KIND n)
  let sr := c.rd (LOOP_SRC_SP_REF n)
  let pr := c.rd (LOOP_SRC_PV_REF n)
  if 4 < sk ∨ 2 < c.rd (LOOP_SRC_FF_SEL n) ∨ 3 < pk ∨ sourceCount pk ≤ pr ∨ (sk < 3 ∧ sourceCount (spSource sk) ≤ sr) then
    [E_RANGE]
  else broken [(c.sourceEnabled pk pr && (!decide (sk < 3) || c.sourceEnabled (spSource sk) sr), E_SOURCE)]

/-- PV_MAX lies above PV_MIN. -/
def State.pvOk (c : State) (n : Nat) : Bool := fpLt fmt32 (c.rd (LOOP_PV_MIN_VALUE n)) (c.rd (LOOP_PV_MAX_VALUE n))

/-- The output of an engine is free and its limits agree (R283). -/
def checkLoopOut (c : State) (n : Nat) : List Nat :=
  let k := c.rd (LOOP_OUT_OUT_KIND n)
  let ch := c.rd (LOOP_OUT_OUT_CH n)
  let lo := c.q15 (LOOP_ULIM_U_MIN n)
  broken [(k != 3 && !(k == outDac && decide (16 ≤ ch)), E_RANGE),
    (k == 0 || !(List.range 32).any (fun m => m != n && c.rd (LOOP_OUT_OUT_KIND m) == k && c.rd (LOOP_OUT_OUT_CH m) == ch),
      E_CONFLICT),
    (decide (lo ≤ c.q15 (LOOP_ULIM_U_MAX n)) && (k == 0 || decide (0 ≤ lo)), E_CONFLICT)]

/-- Checks of the LOOP registers; `later` leaves out the check that refers to atlas and gazetteer (R44). -/
def checkLoop (c : State) (later : Bool) (base n : Nat) : List Nat :=
  let finite (f : Fld) : Bool := fpFinite fmt32 (c.rd f)
  if base = LOOP_CTL 0 then broken [(c.rd (LOOP_CTL_RUN n) == 0 || c.pvOk n, E_CONFLICT)]
  else if base = LOOP_SAMPLE 0 then
    broken [(c.rd (LOOP_SAMPLE_DIV n) != 0 && decide (c.rd (LOOP_SAMPLE_PHASE n) < c.rd (LOOP_SAMPLE_DIV n)), E_RANGE)]
  else if base = LOOP_SRC 0 then checkLoopSource c n
  else if base = LOOP_SPT 0 then
    let sec := c.rd (LOOP_SPT_SECTION n)
    let i := c.rd (LOOP_SPT_INDEX n)
    if sectionLen sec ≤ i then [E_RANGE] else broken [(later || c.entryNamed sec i, E_SOURCE)]
  else if base = LOOP_PV_MIN 0 then broken [(finite (LOOP_PV_MIN_VALUE n), E_RANGE), (c.pvOk n, E_CONFLICT)]
  else if base = LOOP_PV_MAX 0 then broken [(finite (LOOP_PV_MAX_VALUE n), E_RANGE), (c.pvOk n, E_CONFLICT)]
  else if base = LOOP_SP_GAIN 0 then broken [(finite (LOOP_SP_GAIN_VALUE n), E_RANGE)]
  else if base = LOOP_SP_OFFSET 0 then broken [(finite (LOOP_SP_OFFSET_VALUE n), E_RANGE)]
  else if base = LOOP_OUT 0 ∨ base = LOOP_ULIM 0 then checkLoopOut c n
  else []

/-! FIELD. -/

/-- Checks of the FIELD registers. -/
def checkField (c : State) (base n : Nat) : List Nat :=
  let vlan := c.rd (FP_CTL_VLAN_EN n) == 0 || within 1 4094 (c.rd (FP_VLAN_VID n))
  if base = FX_CFG then broken [(c.rd FX_CFG_WR_AGE_M != 0 && c.rd FX_CFG_REFUSE_RETRY_S != 0, E_RANGE)]
  else if base = FP_CTL 0 then
    broken [(c.rd (FP_CTL_PTP_ROLE n) != 3 && decide (c.rd (FP_CTL_SPEED n) ≤ 1) && vlan, E_RANGE),
      (c.rd (FP_CTL_PTP_ROLE n) != 1 || !(List.range 4).any (fun m => m != n && c.rd (FP_CTL_PTP_ROLE m) == 1), E_CONFLICT)]
  else if base = FP_PTP_CFG 0 then
    broken [(s4In (-3) 4 (c.rd (FP_PTP_CFG_LOG_ANNOUNCE n)) && s4In (-7) 1 (c.rd (FP_PTP_CFG_LOG_SYNC n)) &&
      decide (c.rd (FP_PTP_CFG_DOMAIN n) ≤ 127), E_RANGE)]
  else if base = FP_GROUP 0 0 then
    broken [((List.range 4).all (fun k => c.rd (FP_GROUP_ADDR n k) == 0) || bitsOf (c.rd (FP_GROUP_ADDR n 0)) 31 24 == 0xFF,
      E_RANGE)]
  else if base = FP_MAC_HI 0 then broken [(!bitOf (c.rd (FP_MAC_HI_MAC n)) 8, E_RANGE)]
  else if base = FP_VLAN 0 then broken [(vlan, E_RANGE)]
  else []

/-! PLANTBUS (R312, R316). -/

/-- Checks of an object's configuration. -/
def checkObject (c : State) (n o : Nat) : List Nat :=
  let used := c.rd (OBJ_CFG_DIR n o) != 0
  let same (p : Nat) : Bool := p != o && c.rd (OBJ_CFG_DIR n p) != 0 && c.rd (OBJ_CFG_IDE n p) == c.rd (OBJ_CFG_IDE n o) &&
    c.rd (OBJ_CFG_ID n p) == c.rd (OBJ_CFG_ID n o)
  broken [(c.rd (OBJ_CFG_DIR n o) != 3, E_RANGE),
    (c.rd (OBJ_CFG_IDE n o) == 1 || decide (c.rd (OBJ_CFG_ID n o) ≤ 0x7FF), E_CONFLICT),
    (!used || !(List.range 256).any same, E_DUP_ID)]

/-- Checks of an object's format. -/
def checkFormat (c : State) (n o : Nat) : List Nat :=
  broken [(!(c.rd (OBJ_FMT_BRS n o) == 1 && c.rd (OBJ_FMT_FDF n o) == 0), E_CONFLICT),
    (!(c.rd (OBJ_FMT_FDF n o) == 1 && c.rd (CB_CTL_FD_EN n) == 0), E_CONFLICT)]

/-- Checks of the PLANTBUS registers. -/
def State.checkBus (s c : State) (base n o : Nat) : List Nat :=
  if base = CB_CTL 0 then
    broken [(!(c.rd (CB_CTL_FD_EN n) == 0 && s.rd (CB_CTL_FD_EN n) == 1 &&
        (List.range 256).any (fun p => c.rd (OBJ_FMT_FDF n p) == 1)), E_CONFLICT),
      (!(c.rd (CB_CTL_EN n) == 1 && s.rd (CB_CTL_EN n) == 0) || c.cbTimingOk n, E_TIMING)]
  else if base = CB_NBT 0 then
    broken [(c.rd (CB_NBT_NBRP n) != 0 && within 2 256 (c.rd (CB_NBT_NTSEG1 n)) && c.rd (CB_NBT_NTSEG2 n) != 0 &&
      c.rd (CB_NBT_NSJW n) != 0, E_RANGE)]
  else if base = CB_DBT 0 then
    broken [(within 1 32 (c.rd (CB_DBT_DBRP n)) && within 1 32 (c.rd (CB_DBT_DTSEG1 n)) &&
      within 1 16 (c.rd (CB_DBT_DTSEG2 n)) && within 1 16 (c.rd (CB_DBT_DSJW n)), E_RANGE)]
  else if base = CB_TXW 0 then broken [(decide (100 ≤ c.rd (CB_TXW_TXW_US n)), E_RANGE)]
  else if base = OBJ_CFG 0 0 then checkObject c n o
  else if base = OBJ_FMT 0 0 then checkFormat c n o
  else []

/-! METER (R334, R350). -/

/-- E_ASSIGN of a feeder that would run: a channel that is disabled, or a current channel outside 0 to 15 or of another
feeder; a three-wire feeder ignores V3 and I2 (R334). -/
def feederOk (c : State) (n : Nat) : Bool :=
  let three (m : Nat) : Bool := c.rd (MT_FDR_VCH_WIRING m) == 1
  let vs (m : Nat) : List Nat :=
    [c.rd (MT_FDR_VCH_V1 m), c.rd (MT_FDR_VCH_V2 m)] ++ (if three m then [] else [c.rd (MT_FDR_VCH_V3 m)])
  let is (m : Nat) : List Nat :=
    [c.rd (MT_FDR_ICH_I1 m), c.rd (MT_FDR_ICH_I3 m)] ++ (if three m then [] else [c.rd (MT_FDR_ICH_I2 m)])
  let others := (List.range 4).flatMap (fun m => if m != n && c.rd (MT_FDR_VCH_EN m) == 1 then is m else [])
  (vs n ++ is n).all (fun k => c.rd (MT_ADC_CFG_EN k) == 1) &&
    (is n).all (fun k => decide (k < 16) && !others.contains k)

/-- E_ASSIGN of a heat meter that would run. -/
def meterOk (c : State) (n : Nat) : Bool :=
  let pulse := c.rd (MT_HM_SRC_FLOW_KIND n) == 1
  let ch := c.rd (MT_HM_SRC_FLOW_CH n)
  let dir := c.rd (MT_HM_SRC_DIR_CH n)
  c.sourceEnabled (if pulse then 2 else 0) ch && c.sourceEnabled 1 (c.rd (MT_HM_SRC_SUP_RTD n)) &&
    c.sourceEnabled 1 (c.rd (MT_HM_SRC_RET_RTD n)) && c.rd (MT_HM_SRC_SUP_RTD n) != c.rd (MT_HM_SRC_RET_RTD n) &&
    dir != ch && (c.rd (MT_HM_SRC_DIR_EN n) == 0 || c.sourceEnabled 2 dir)

/-- Checks of the METER registers. -/
def State.checkMeter (s c : State) (base n off : Nat) : List Nat :=
  if base = MT_CTL then broken [(within 10 255 (c.rd MT_CTL_CAL_S), E_RANGE)]
  else if base = MT_ADC_CFG 0 then
    broken [(within 0x80 0xF0 (c.rd (MT_ADC_CFG_HG_LIMIT n)) && !(decide (16 ≤ n) && c.rd (MT_ADC_CFG_HG_EN n) == 1), E_RANGE)]
  else if base = MT_ADC_SCALE 0 then
    let v := c.rd (MT_ADC_SCALE_VALUE n)
    broken [(fpFinite fmt32 v && r32 v != 0, E_RANGE)]
  else if base = MT_ADC_OFS 0 then broken [(fpFinite fmt32 (c.rd (MT_ADC_OFS_VALUE n)), E_RANGE)]
  else if base = MT_FDR_VCH 0 ∨ base = MT_FDR_ICH 0 then
    broken [(c.rd (MT_FDR_VCH_EN n) == 0 || s.reg off == c.reg off || feederOk c n, E_ASSIGN)]
  else if base = MT_FDR_START 0 then 
    let w := c.rd (MT_FDR_START_START_W n)
    broken [(fpFinite fmt32 w && decide (0 ≤ r32 w) && decide (r32 w ≤ 1000000), E_RANGE)]
  else if base = MT_HM_SRC 0 then
    broken [(c.rd (MT_HM_SRC_MODE n) != 3, E_RANGE), 
      (c.rd (MT_HM_SRC_EN n) == 0 || s.reg off == c.reg off || meterOk c n, E_ASSIGN)]
  else if base = MT_HM_K 0 then broken [(f32In (c.rd (MT_HM_K_K n)) (mkRat 1 1000) 1000000, E_RANGE)]
  else if base = MT_HM_CUT 0 then broken [(decide (c.rd (MT_HM_CUT_DT_MIN n) ≤ 1000), E_RANGE)]
  else if base = MT_HM_P 0 then broken [(f32In (c.rd (MT_HM_P_P_ABS n)) 200 2500, E_RANGE)]
  else []

/-! PAIR, KEYSTORE, GLEANER and HARROW. -/

/-- Checks of PAIR_CFG (R351) and of a command (R374). -/
def State.checkPair (s c : State) (off act : Nat) : List Nat :=
  if off = PAIR_CFG then
    let on := c.rd PAIR_CFG_PAIRED == 1
    broken [(!(on && decide (c.rd PASS_PERIOD_PERIOD_MS < 20)), E_CONFLICT),
      (on || s.rd PAIR_CFG_PAIRED == 0 || s.prState == prFallow || (s.prState == prActive && !s.linkUp), E_STATE)]
  else if off = PAIR_CMD then
    match act % 16 with
    | 1 => broken [(s.healthyStandby, E_STATE)]
    | 2 => broken [(s.prState == prFallow || s.prState == prWaiting, E_STATE), (s.rd PAIR_STAT_AUTH_IN == 0, E_CONFLICT)]
    | 3 => []
    | 4 => broken [(s.prState == prFallow && s.linkUp, E_STATE)]
    | 5 => []
    | _ => [E_RANGE]
  else []

/-- KS_IN while the reply to a command waits (R385). -/
def State.checkKeys (s : State) (base : Nat) : List Nat :=
  if base = KS_IN 0 then broken [(!s.ksBusy, E_BUSY)] else []

/-- Checks of the GLEANER registers (R411, R417). -/
def State.checkGleaner (s c : State) (off : Nat) : List Nat :=
  if off = GL_CTL then broken [(within 1 50 (c.rd GL_CTL_FREEZE_MAX), E_RANGE)]
  else if off = GL_LOG_RD then
    broken [(decide ((s.rd GL_LOG_WR_INDEX + 2 ^ 32 - c.rd GL_LOG_RD_INDEX) % 2 ^ 32 ≤ 4096), E_RANGE)]
  else []

/-- Checks of the HARROW registers (R414, R417). -/
def State.checkHarrow (s c : State) (off : Nat) : List Nat :=
  if off = HR_CFG then
    broken [(within 1 24 (c.rd HR_CFG_SCRUB_H) && within 80 110 (c.rd HR_CFG_TEMP_WARN) &&
        within 100 125 (c.rd HR_CFG_TEMP_CRIT), E_RANGE),
      (decide (c.rd HR_CFG_TEMP_WARN < c.rd HR_CFG_TEMP_CRIT), E_CONFLICT)]
  else if off = HR_ARCH_ACK then
    broken [(decide (s.rd HR_ARCH_ACK_SEQ ≤ c.rd HR_ARCH_ACK_SEQ) && decide (c.rd HR_ARCH_ACK_SEQ ≤ s.rd HR_ARCH_WR_SEQ), E_RANGE)]
  else []

/-! All blocks. -/

/-- The checks of a write to the register at `off` of row `r`, before it is applied to `s`: `c` has the pending and the new
values in force, and `later` defers what refers to sections unpacked later (R44). -/
def State.checkWrite (s c : State) (master act : Nat) (later : Bool) (r : RegRow) (off : Nat) : List Nat :=
  let n := regIndex r off 0
  let o := regIndex r off 1
  let b := blockOf off
  if b = bClockPower then s.checkClock c master off act
  else if b = bAccess then s.checkAccess c master off act
  else if b = bSurveyor then checkSurveyor c r.base n
  else if b = bTiller then checkTiller c off
  else if b = bPass then s.checkPass c off
  else if b = bLoop then checkLoop c later r.base n
  else if b = bField then checkField c r.base n
  else if b = bPlantBus then s.checkBus c r.base n o
  else if b = bMeter then s.checkMeter c r.base n off
  else if b = bPair then s.checkPair c off act
  else if b = bKeyStore then s.checkKeys r.base
  else if b = bGleaner then s.checkGleaner c off
  else if b = bHarrow then s.checkHarrow c off
  else []

end Sys2Proof.Machine
end

