-- ==== Sys2Proof/Machine/Reach.lean ====
section
/-! DEFINITION. The masters' reach (R33 to R36, R44, R101, R102, R236): the memory map of the 40-bit address space, which
registers and which memory each master reaches, and what is held in reset. -/

namespace Sys2Proof.Machine

/-! The memory map (R35). -/

/-- The kinds of memory of R35. -/
inductive MemKind where
  | rom
  | image
  | queue
  | pass
  | nor
  | retention
  | work
  | sdram
deriving DecidableEq, Repr

def aRom : Nat := 0x0001000000

/-- The size in MiB of an xSPI device as CP_XSPI_STAT shows it; 0 where it does not answer (R437). -/
def xspiMib (v : Nat) : Nat := if v % 2 = 1 ∧ v / 16 ≠ 0 then 2 ^ (v / 16) else 0

/-- The first bytes of two devices that stand one after the other at a stride are fitted. -/
def fitted (size0 size1 stride d : Nat) : Bool :=
  decide (d < 0x100000 * (if d / stride = 0 then size0 else size1) + stride * (d / stride))

/-- The memory that an address above the register blocks names, if any is mapped there (R35): nothing above a fitted device
is, nor the upper MiB of a cluster's stride in the workspace. -/
def State.memKind? (s : State) (a : Nat) : Option MemKind :=
  if a < 0x1000000 then none
  else if a < 0x1040000 then some .rom
  else if a < aImage then none
  else if a < aImage + 0xC00000 then some .image
  else if a < aQueues then none
  else if a < aQueues + 0x800000 then some .queue
  else if a < aPassMem then none
  else if a < aPassMem + 0x1000000 then some .pass
  else if a < aNor then none
  else if a < aNor + 0x20000000 then
    (if fitted (xspiMib (s.rd CP_XSPI_STAT_XN0)) (xspiMib (s.rd CP_XSPI_STAT_XN1)) 0x10000000 (a - aNor) then some .nor else none)
  else if a < aRet then none
  else if a < aRet + 0x4000000 then
    (if fitted (xspiMib (s.rd CP_XSPI_STAT_XR0)) (xspiMib (s.rd CP_XSPI_STAT_XR1)) 0x2000000 (a - aRet) then some .retention
     else none)
  else if a < aWork then none
  else if a < aWork + 0x8000000 then (if (a - aWork) % 0x400000 < 0x300000 then some .work else none)
  else if aSdram ≤ a ∧ a < aSdram + min s.sdramSize 0x400000000 then some .sdram
  else none

/-- The share of a pass core in pass-core memory, as ranges of base and length (R36, R211, R212): code, constants, M, K, L, and its
timers, counters and edge detectors. -/
def State.ownShare (s : State) (n : Fin 4) : List (Nat × Nat) :=
  match s.strip? n with
  | none => []
  | some st =>
    [(codeBank s.bank + st.codeBase, st.codeLen), (constBank s.bank + st.constBase, st.constLen), (areaM + st.mBase, st.mLen),
     (areaK + st.kBase, st.kLen), (areaL + 0x10000 * n.val, 0x10000), (areaT + 32 * st.tBase, 32 * st.tCount),
     (areaN + 16 * st.nBase, 16 * st.nCount), (areaE + 8 * st.eBase, 8 * st.eCount)]

/-- A master reaches memory of a kind at an address (R36). The NOR window is a read window: nothing is written through it. -/
def State.memReach (s : State) (m a : Nat) (isWrite : Bool) (k : MemKind) : Bool :=
  if m = mSteward then !(isWrite && (k == .rom || k == .nor))
  else if m = mSecurity then (k == .rom && !isWrite) || (k == .retention && decide (a < aRet + 0x100000))
  else if isPassCore m then
    k == .image || (k == .pass && (s.ownShare (Fin.ofNat 4 (m - 2))).any (fun r => decide (r.1 ≤ a) && decide (a < r.1 + r.2)))
  else if isSurveyor m then
    (k == .image && !isWrite && decide (a < aImage + 0x800000)) || (k == .work && (a - aWork) / 0x1000000 == m - 6) || k == .sdram
  else false

/-! Registers (R33, R34, R36, R236). -/

/-- The secure set of mailboxes. -/
def secureMailbox (off : Nat) : Bool := decide (0x30000 ≤ off) && decide (off < 0x40000)

/-- The semaphores ACCESS_SEM_00 to ACCESS_SEM_31. -/
def semaphoreReg (off : Nat) : Bool := decide (0x10200 ≤ off) && decide (off < 0x10280)

/-- The region of the TILLER register at an offset, by lane, cluster or region block; none for what all regions share. -/
def tillerRegion (off : Nat) : Option Nat :=
  if off < 0x90000 then some ((off - 0x80000) / 0x2000)
  else if off < 0x92000 then some ((off - 0x90000) / 0x400)
  else if 0xC0000 ≤ off ∧ off < 0xD0000 ∧ off % 0x4000 < 0x2000 then some (off % 0x4000 / 0x400)
  else none

/-- The code of an access outside a master's reach, if it is one. To a pass core everything else is unmapped (R236); of
other masters, KEYSTORE, DEBUG and the path of PF0 to the secure mailboxes are secure (R34). -/
def reachCode (m off b : Nat) : Option Nat :=
  let ok : Bool :=
    if b = bKeyStore then m == mPF1 || m == mSecurity
    else if b = bDebug then m == mPF1 || m == mSteward || m == mSecurity
    else if isHost m then !(m == mPF0 && secureMailbox off)
    else if m = mSteward then true
    else if m = mSecurity then secureMailbox off || semaphoreReg off
    else if isPassCore m then
      b == bPass || b == bLoop || b == bGleaner || (b == bMailbox && !secureMailbox off) || semaphoreReg off
    else
      (b == bSurveyor && (off - 0x60000) / 0x2000 == m - 6) || (b == bTiller && tillerRegion off == some (m - 6)) ||
        semaphoreReg off
  if ok then none
  else some (if !isPassCore m && (b = bKeyStore || b = bDebug || (secureMailbox off && m == mPF0)) then E_SECURE else E_UNKNOWN)

/-! What is held (R44, R57, R373). -/

/-- Blocks that leave reset with the unit; the others are held until UNPACK begins, and to the host until RESTORE ends. -/
def openEarly (b : Nat) : Bool := b == bGlobal || b == bAccess || b == bMailbox || b == bClockPower

/-- RESTORE has ended: the pass timer has been started, or a later stage of the same sowing is shown. -/
def State.restored (s : State) : Bool :=
  let st := s.rd CP_BOOT_STAT_STAGE
  st == 9 || st == 0xB || st == 0xC || (st == 8 && s.pass.timerOn)

/-- A block is held against a master: to the host until RESTORE ends, which with the factory default it never does (R57); to
every other master until UNPACK begins (assumption 69). -/
def State.held (s : State) (m b : Nat) : Bool :=
  !openEarly b && (if isHost m then !s.restored else decide (s.rd CP_BOOT_STAT_STAGE < 7))

/-- A master can make accesses: PORST_N holds every master in reset, and the host needs its link and its function (R39,
R101, R102). -/
def State.canAccess (s : State) (m : Nat) : Bool :=
  s.boot.aon && !s.boot.porst && (!isHost m || s.fnUp (m == mPF1))

/-- What a STANDBY or JOINING unit lets the host write (R373). -/
def standbyWrites (off b : Nat) : Bool :=
  off == GLOBAL_SCRATCH || off == GLOBAL_SCRATCH + 0x4000 || off == GLOBAL_SCRATCH + 0x8000 || off == GLOBAL_SCRATCH + 0xC000 ||
    [bAccess, bMailbox, bPair, bClockPower, bGleaner, bHarrow, bKeyStore, bDebug].contains b

end Sys2Proof.Machine
end

