-- ==== Sys2Proof/Machine/Fabric.lean ====
section
/-! DEFINITION. The register fabric (R71 to R84): which register an address names and which masters reach it, how a write
is checked and takes effect in its block's domain, and how a read is answered. -/

namespace Sys2Proof.Machine

/-! What the fabric shows. -/

/-- The write of a crossing as bits laid over a register. -/
def Crossing.pend (x : Crossing) : PendA := ⟨x.off, x.mask ||| x.clr, x.value &&& ~~~x.clr, 0⟩

/-- Every class-A value accepted and not yet in force, oldest first. -/
def State.pendingA (s : State) : List PendA := s.fabric.armed ++ s.fabric.pendNow ++ s.fabric.pendA

/-- Every value accepted and not yet in force, oldest first. -/
def State.accepted (s : State) : List PendA := s.pendingA ++ s.fabric.inFlight.map Crossing.pend

/-- Values laid over a register. -/
def layOver (ps : List PendA) (off : Nat) (w : Word) : Word :=
  (ps.filter (fun p => p.off == off)).foldl (fun w p => (w &&& ~~~p.mask) ||| (p.value &&& p.mask)) w

/-- The state with every accepted value in its register: what a check sees (R82) and a read returns. -/
def State.viewed (s : State) : State := s.each s.accepted State.mergeReg

/-- One register with every accepted value: what a write is laid over (R79, R80). -/
def State.view (s : State) (off : Nat) : Word := layOver s.accepted off (s.reg off)

/-! Addresses (R33, R34, R80). -/

/-- The register an offset names, and how: 0 itself, 1 its set, 2 its clear, 3 its toggle alias. -/
structure Target where
  row : RegRow
  off : Nat
  kind : Nat
deriving DecidableEq, Repr

/-- The bases from which aliases are counted: those of the blocks, and the region blocks of TILLER. -/
def aliasBases : List Nat := [0x000000, 0x0C0000, 0x100000, 0x180000, 0x200000, 0x240000]

/-- The register that a word offset names, if any. -/
def target? (off : Nat) : Option Target :=
  match regRow? off with
  | some r => some ⟨r, off, 0⟩
  | none =>
    match aliasBases.find? (fun b => decide (b + 0x4000 ≤ off) && decide (off < b + 0x10000)) with
    | none => none
    | some b =>
      let own := b + (off - b) % 0x4000
      (regRow? own).map (fun r => ⟨r, own, (off - b) / 0x4000⟩)

/-! The place of an access (R34 to R36, R44, R373). -/

/-- The codes of the place of a register access: unmapped, out of reach, or held (R34, R36, R44, R373). -/
def State.placeCodes (s : State) (m off : Nat) (isWrite : Bool) : List Nat :=
  match blockOf? off with
  | none => [E_UNKNOWN]
  | some b =>
    broken [((target? off).isSome, E_UNKNOWN), (!s.held m b, E_STATE),
      (!(isWrite && isHost m && s.paired && (s.prState == prStandby || s.prState == prJoining) && !standbyWrites off b), E_STATE)] ++
    (reachCode m off b).toList

/-- The address lies in the block space and the master may reach a block there. -/
def inReach (m off : Nat) : Bool :=
  match blockOf? off with
  | some b => (reachCode m off b).isNone
  | none => false

/-- The offset names the low word of a declared 64-bit pair (R73). -/
def pairLow (off : Nat) : Bool :=
  match target? off with
  | some t => t.kind == 0 && t.row.part == .low
  | none => false

/-- The codes of width and alignment (R73, R94): 8, 16, 32 and 64 bits are widths of R73; of the host's other requests, one
DW with bytes that make no such width counts as not aligned to its width, and anything longer is not accepted. -/
def widthCodes (isWrite : Bool) (width addr : Nat) : List Nat :=
  let unaligned : List Nat := [if isWrite && decide (width < 32) then E_WIDTH else E_ALIGN]
  if width = 8 ∨ width = 16 ∨ width = 32 ∨ width = 64 then
    if addr % (width / 8) != 0 then unaligned
    else if width < 32 then (if isWrite then [E_WIDTH] else [])
    else if width = 64 && !pairLow addr then [E_WIDTH]
    else []
  else if width < 32 then unaligned
  else [E_WIDTH]

/-! Fields. -/

/-- The bits of a field. -/
def FieldDesc.mask (f : FieldDesc) : Word := BitVec.ofNat 32 ((2 ^ (f.hi + 1 - f.lo) - 1) * 2 ^ f.lo)

/-- The bits of the fields of a row that are chosen. -/
def RegRow.mask (r : RegRow) (p : FieldDesc → Bool) : Word :=
  (r.fields.filter p).foldl (fun w f => w ||| f.mask) 0

def RegRow.rw (r : RegRow) : Word := r.mask (fun f => f.acc == .rw)
def RegRow.w1c (r : RegRow) : Word := r.mask (fun f => f.acc == .w1c)
def RegRow.acts (r : RegRow) : Word := r.mask (fun f => f.acc == .w1s || f.acc == .wo)
def RegRow.guarded (r : RegRow) : Bool := r.fields.any (fun f => f.guarded)

/-! Domains (R28 to R31). -/

/-- The domain that a write to a register crosses to, as numbered in R437; none where the state is in SYS. -/
def crossing? (off : Nat) : Option Nat :=
  let b := blockOf off
  if b = bTiller then
    (match tillerRegion off with
     | some r => some (if r < 4 then 1 else 2)
     | none => some 1)
  else if b = bField then some 5
  else if b = bPlantBus then some 8
  else if b = bMeter then some 7
  else if b = bKeyStore then some 11
  else none

/-- The clock of a register's domain runs. -/
def State.domainRuns (s : State) (off : Nat) : Bool :=
  match crossing? off with
  | none => true
  | some d => !s.clockStopped d

/-- A write to a register waits for its landing: SEC writes land within 46.1 ns and nothing sees them before, so that they
wait only while the clock is stopped. -/
def State.crosses (s : State) (off : Nat) : Bool :=
  match crossing? off with
  | none => false
  | some 11 => s.clockStopped 11
  | some _ => true

/-- A register's block runs, so that class S is refused (R7, R83). -/
def State.runs (s : State) (off : Nat) : Bool :=
  match regRow? off with
  | none => false
  | some r =>
    let n := regIndex r off 0
    let b := blockOf off
    if b = bLoop then s.leState n == leRunning
    else if b = bField then s.rd (FP_CTL_EN n) == 1
    else if b = bPlantBus then s.rd (CB_CTL_EN n) == 1
    else if r.base = MT_ADC_CFG 0 then s.rd (MT_ADC_CFG_EN n) == 1
    else if r.base = MT_FDR_VCH 0 ∨ r.base = MT_FDR_ICH 0 then s.rd (MT_FDR_VCH_EN n) == 1
    else if r.base = MT_HM_SRC 0 then s.rd (MT_HM_SRC_EN n) == 1
    else false

/-! Class A (R24, R82). -/

/-- The bits of a register that the headland in progress or the next sample applies. -/
def State.takenBits (s : State) (off : Nat) : Word :=
  ((s.fabric.pendNow ++ s.fabric.armed).filter (fun p => p.off == off)).foldl (fun w p => w ||| p.mask) 0

/-- Pending values kept: bits that equal what is in force hold nothing back, unless a value taken already lies between. -/
def State.trimPend (s : State) (p : PendA) : Option PendA :=
  let m := p.mask &&& ((p.value ^^^ s.reg p.off) ||| s.takenBits p.off)
  if m = 0 then none else some { p with mask := m }

/-- A loop engine samples: its tick timer runs and it is RUNNING (R276). -/
def State.loopSamples (s : State) (off : Nat) : Bool :=
  s.loops.nextTick.isSome && s.leState ((off - 0x140000) / 0x400) == leRunning

/-- A class-A value accepted: it waits for its block's apply point, or takes effect at once where that does not come: the
pass timer is stopped, or the sampling of a sampled block (R82). -/
def State.acceptA (s : State) (off : Nat) (mask value : Word) : State :=
  if mask = 0 then s
  else
    let s1 : State := { s with fabric := { s.fabric with accepts := s.fabric.accepts + 1 } }
    let q : PendA := ⟨off, mask, value, s1.fabric.accepts⟩
    let wait : State := { s1 with fabric := { s1.fabric with pendA := (addPend s1.fabric.pendA q).filterMap s1.trimPend } }
    if isLoopReg off then (if s.loopSamples off then wait else s1.landReg q)
    else if s.pass.timerOn then wait
    else if isMeterReg off && s.meter.running && s.rd MT_STAT_FROZEN == 0 then
      { s1 with fabric := { s1.fabric with armed := addPend s1.fabric.armed q } }
    else s1.landA q

/-! What follows when a write lands. -/

/-- PAIR_CMD (R366 to R368, R372, R374). -/
def State.pairCommand (s : State) (cmd : Nat) : State :=
  match cmd with
  | 1 => s.pairYield
  | 2 => s.takeOver
  | 3 => if s.paired then s.pairFallow else s
  | 4 => s.tryJoin
  | _ => s.pairClear

/-- The class-A bits of a register. -/
def aBits (off : Nat) : Word :=
  match regRow? off with
  | some r => r.mask (fun f => f.acc == .rw && f.app == .a)
  | none => 0

/-- Every register with a pending class-A value (R82): those of writes still crossing to a running domain among them. -/
def State.pendingRegs (s : State) : List Nat :=
  s.pendingA.map (fun p => p.off) ++
    (s.fabric.inFlight.filter (fun x => x.mask &&& aBits x.off != 0 && s.domainRuns x.off)).map (fun x => x.off)

/-- A commit waits for no pending write any longer (R90). -/
def State.commitReady (s : State) (n : Nat) : Bool :=
  s.pendingA.all (fun p => decide (n < p.born)) && s.fabric.inFlight.all (fun x => x.mask &&& aBits x.off == 0)

/-- ACCESS_CFG_CTL written (R89, R90). -/
def State.cfgWritten (s : State) (old : Word) (act : Nat) : State :=
  let new := s.reg ACCESS_CFG_CTL
  let s1 : State :=
    if rises old new 0 then { s with fabric := { s.fabric with editSince := some s.now } }
    else if falls old new 0 then { s with fabric := { s.fabric with editSince := none } }
    else s
  if !bitOf act 1 then s1
  else
    let s2 := s1.wr ACCESS_CFG_CTL_COMMIT 1
    { s2 with fabric := { s2.fabric with commitOn := some s2.fabric.accepts } }

/-- The time in the set registers, in SYS cycles. -/
def State.setTime (s : State) : Nat :=
  s.rd64 CP_TIME_SET_LO CP_TIME_SET_HI * cycPerS + s.rd CP_TIME_SET_FRAC_FRAC * cycPerS / 32768

/-- DBG_CTL written (R398); the challenge of a plain write is four free words. -/
def State.debugWritten (s : State) (act : Nat) : State :=
  let s1 := if bitOf act 2 then s.closeScopes else s
  let s2 := if bitOf act 1 then s1.present s1.tokenBytes else s1
  if bitOf act 0 then
    let w (k : Nat) : Nat := (Config.freeValue (s2.free + k)).toNat * 2 ^ (64 * k)
    ({ s2 with free := s2.free + 4 }).newChallenge (w 0 + w 1 + w 2 + w 3)
  else s2

/-- What a landed write to a register brings about beside its new value: `old` is the register before, `act` the data
written to its W1S and WO bits. -/
def State.landed (s : State) (master : Nat) (r : RegRow) (off : Nat) (old : Word) (act : Nat) : State :=
  let new := s.reg off
  let n := regIndex r off 0
  if r.base = LANE_CTL 0 then
    let s1 := if bitOf act 1 then s.laneAbort master n else s
    let s2 := if bitOf act 2 then s1.laneRetest master n else s1
    if bitOf act 0 then s2.laneGo master n else s2
  else if r.base = SV_CTL 0 then (if bitOf act 0 then s.restartSurveyor n else s)
  else if off = GL_CTL then (if rises old new 0 then s.freeze else if falls old new 0 then s.unfreeze else s)
  else if off = ACCESS_CFG_CTL then s.cfgWritten old act
  else if off = ACCESS_CFG_REF then s.forwardAll [.commit new.toNat]
  else if off = ACCESS_SEM_FORCE then s.semFree (act % 32) true
  else if r.base = ACCESS_SEM 0 then (if bitOf act 16 then s.semFree n false else s)
  else if off = CP_TIME_CTL then (if bitOf act 0 then s.sendTime s.setTime else s)
  else if off = CP_RESTART then s.restartOrHold false (act % 4) (bitOf act 2)
  else if off = PAIR_CMD then s.pairCommand (act % 16)
  else if off = DBG_CTL then s.debugWritten act
  else if r.base = DBG_TOKEN 0 then s.setReg off (BitVec.ofNat 32 act)
  else s.configured r off old

/-- Changes to fields under the configuration check go to the standby (R357). -/
def State.forwardBits (s : State) (r : RegRow) (off : Nat) (mask value : Word) : State :=
  let m := mask &&& r.mask (fun f => f.acc == .rw && f.config)
  if m = 0 then s else s.forwardAll [.write off m.toNat value.toNat]

/-- The codes of a write that is checked where it lands: class S while the block runs (R83), and the commands of a lane
(R165). -/
def State.landCodes (s : State) (r : RegRow) (x : Crossing) : List Nat :=
  broken [(!(x.classS && s.runs x.off), E_BUSY)] ++
    (if r.base = LANE_CTL 0 then s.laneCodes x.master (regIndex r x.off 0) x.data.toNat else [])

/-- A write takes effect in its block's domain (R77, R82, R83): it is checked whole; class-I and class-S values come into
force, W1C bits clear, and class-A values are pending from now on. -/
def State.land (s : State) (x : Crossing) : State :=
  match regRow? x.off with
  | none => s
  | some r =>
    match pickCode (s.landCodes r x) with
    | some c => s.reject x.master x.addr c true
    | none =>
      let aMask := r.mask (fun f => f.acc == .rw && f.app == .a)
      let s1 := (s.acceptA x.off (x.mask &&& aMask) x.value).forwardBits r x.off x.mask x.value
      let old := s1.reg x.off
      ((s1.mergeReg ⟨x.off, x.clr, 0, 0⟩).mergeReg ⟨x.off, x.mask &&& ~~~aMask, x.value, 0⟩).landed x.master r x.off old
        x.data.toNat

/-- Every write in flight to the registers chosen lands, in order of acceptance. -/
def State.landWhere (s : State) (sel : Crossing → Bool) : State :=
  let xs := s.fabric.inFlight.filter sel
  let s1 : State := { s with fabric := { s.fabric with inFlight := s.fabric.inFlight.filter (fun x => !sel x) } }
  s1.each xs State.land

/-- Writes in flight to a register land, if its domain's clock runs. -/
def State.landAt (s : State) (off : Nat) : State :=
  if s.domainRuns off then s.landWhere (fun x => x.off == off) else s

/-! Writes (R76 to R83). -/

/-- A write as it meets one register: the register, the bits it selects (R79), the value its RW bits come to, the RW bits it
changes, the W1C bits it clears, the data it writes to W1S and WO bits, whether it has WO bits, and whether it selects no bit
at all (R79). -/
structure Intent where
  t : Target
  sel : Word
  next : Word
  chg : Word
  clr : Word
  act : Word
  hit : Bool
  idle : Bool
deriving DecidableEq, Repr

/-- The intent of 32 data bits on a target (R76, R79, R80). -/
def State.intent (s : State) (t : Target) (data : Word) : Intent :=
  let r := t.row
  let cur := s.view t.off
  let sel : Word := if r.masked then data >>> 16 else 0xFFFFFFFF
  let want : Word :=
    if t.kind = 1 then cur ||| data else if t.kind = 2 then cur &&& ~~~data else if t.kind = 3 then cur ^^^ data else data
  let m := r.rw &&& (if t.kind = 0 then sel else if r.masked then sel else 0xFFFFFFFF)
  let chg := (want ^^^ cur) &&& m
  let plain := decide (t.kind = 0)
  { t := t,
    sel := sel,
    next := (cur &&& ~~~chg) ||| (want &&& chg),
    chg := chg,
    clr := if plain then data &&& sel &&& r.w1c &&& cur else 0,
    act := if plain then data &&& sel &&& r.acts else 0,
    hit := plain && r.fields.any (fun f => f.acc == .wo),
    idle := r.masked && sel &&& 0xFFFF == 0 }

/-- A target has a field other than RO, or through an alias an RW field: what has none is logged as E_UNKNOWN (R6, R76,
R80). A write to a register of RO and RCL fields alone changes nothing and is not logged (assumption 59). -/
def Target.writable (t : Target) : Bool :=
  t.row.fields.any (fun f => if t.kind = 0 then f.acc != .ro else f.acc == .rw)

/-- A write changes a G field (R81): the value of an RW field, or any write to a WO, W1S or W1C field that it selects. -/
def Intent.changesG (i : Intent) : Bool :=
  (i.chg &&& i.t.row.mask (fun f => f.guarded && f.acc == .rw)) != 0 ||
    (i.t.kind == 0 && (i.sel &&& i.t.row.mask (fun f => f.guarded && (f.acc == .wo || f.acc == .w1s || f.acc == .w1c))) != 0)

/-- A master is unlocked (R81). -/
def State.unlocked (s : State) (m : Nat) : Bool := s.fabric.unlocks.any (fun u => u.1 == m && decide (s.now < u.2))

/-- A master's lock re-arms. -/
def State.relock (s : State) (m : Nat) : State :=
  { s with fabric := { s.fabric with unlocks := s.fabric.unlocks.filter (fun u => u.1 != m) } }

/-- An accepted write applied (R31, R82): W1C bits clear, class-A values wait, and the rest takes effect at once or crosses
to its domain. A write that is checked where it lands keeps its class-A values with it, and so does everything written to a
domain whose clock is stopped. -/
def State.applyIntent (s : State) (master addr : Nat) (i : Intent) : State :=
  let r := i.t.row
  let off := i.t.off
  let sMask := r.mask (fun f => f.acc == .rw && f.app == .s)
  let aMask := r.mask (fun f => f.acc == .rw && f.app == .a)
  let x : Crossing := ⟨master, addr, off, i.chg, i.next, i.clr, i.act, i.chg &&& sMask != 0, s.now⟩
  let send (t : State) (y : Crossing) : State := { t with fabric := { t.fabric with inFlight := t.fabric.inFlight ++ [y] } }
  if i.idle then s
  else if !s.domainRuns off then send s x
  else if i.chg &&& ~~~aMask = 0 && i.act = 0 && !i.hit then
    ((s.mergeReg ⟨off, i.clr, 0, 0⟩).acceptA off i.chg i.next).forwardBits r off i.chg i.next
  else if !s.crosses off then s.land x
  else if x.classS || i.act != 0 then send (s.mergeReg ⟨off, i.clr, 0, 0⟩) { x with clr := 0 }
  else
    let s1 := ((s.mergeReg ⟨off, i.clr, 0, 0⟩).acceptA off (i.chg &&& aMask) i.next).forwardBits r off (i.chg &&& aMask) i.next
    send s1 { x with mask := i.chg &&& ~~~aMask, clr := 0 }

/-- The codes of a write that meets its registers (R77): nothing writable, a locked G field, the running block where the
state is in SYS, and the checks of the block. -/
def State.writeCodes (s : State) (master : Nat) (free later : Bool) (is : List Intent) : List Nat :=
  let v := s.viewed
  let c := is.foldl (fun t i => t.setReg i.t.off i.next) v
  is.flatMap (fun i =>
    let sMask := i.t.row.mask (fun f => f.acc == .rw && f.app == .s)
    broken [(i.t.writable, E_UNKNOWN), (free || s.unlocked master || !i.changesG, E_LOCKED),
      (i.chg &&& sMask = 0 || (crossing? i.t.off).isSome || !s.runs i.t.off, E_BUSY)] ++
    (if i.idle then [] else v.checkWrite c master i.act.toNat later i.t.row i.t.off))

/-- ACCESS_UNLOCK written (R81). -/
def State.unlockWrite (s : State) (master : Nat) (key : Word) : State :=
  let s1 := s.relock master
  if key = 0x5EEDC0DE then
    { s1 with fabric := { s1.fabric with unlocks := (master, s.now + 4096) :: s1.fabric.unlocks } }
  else ((s1.bump ACCESS_UNLOCK_STAT_BAD_KEYS 1).wr ACCESS_UNLOCK_STAT_LAST_BAD master).reject master ACCESS_UNLOCK E_LOCKED true

/-- A mailbox register written (R98, R105). -/
def State.mailboxWrite (s : State) (master off : Nat) (data : Word) : State :=
  let s1 := if isHost master then s.drainAll (master == mPF1) else s
  match dirOfData? off, dirOfStat? off with
  | some d, _ => if d.sender = master then s1.mbPost d data else s1.reject master off E_WRONG_END true
  | none, some d =>
    if d.sender ≠ master ∧ d.receiver ≠ master then s1.reject master off E_WRONG_END true
    else
      let s2 := s1.wr d.busyCnt (bitsOf data.toNat d.busyCnt.hi d.busyCnt.lo)
      if d.receiver = master && bitOf data.toNat d.senderReset.lo then s2.wr d.senderReset 0 else s2
  | none, none => s1

/-! Memory accesses (R35, R36). -/

/-- The codes of a memory access: unmapped or out of reach, or of a wrong width or alignment. -/
def State.memCodes (s : State) (m width addr : Nat) (isWrite : Bool) : List Nat :=
  let ok (a : Nat) : Bool := (s.memKind? a).any (s.memReach m a isWrite)
  broken [(ok addr && ok (addr + width / 8 - 1), E_UNKNOWN), (width == 8 || width == 16 || width == 32 || width == 64, E_WIDTH),
    (addr % max 1 (width / 8) == 0, E_ALIGN)]

/-- Memory written by an internal master; a protected word written whole gets fresh check bits (R211, R412). -/
def State.memWrite (s : State) (m width addr data : Nat) : State :=
  match pickCode (s.memCodes m width addr true) with
  | some c => s.reject m addr c true
  | none => (s.st addr (width / 8) data).healWords addr (width / 8)

/-- Memory read by an internal master. The boot ROM is fixed for the stepping (R439). How records and keys are laid out in the
retention devices, and where a frame and its descriptor stand in a receive queue (R305), is not stated: what a read of them
shows is free (assumption 4). -/
def State.memRead (s : State) (m width addr : Nat) : Nat × State :=
  match pickCode (s.memCodes m width addr false) with
  | some c => (0, s.reject m addr c false)
  | none =>
    match s.memKind? addr with
    | some .rom => (ofLeBytes ((List.range (width / 8)).map (fun k => Config.romByte (addr - aRom + k))), s)
    | some .retention | some .queue => (s.freshVal.toNat % 2 ^ width, s.drawn)
    | _ => (s.ld addr (width / 8), s)

/-- What a write of 32 or 64 bits at a register address would do to the register or the two that it names. -/
def State.intents (s : State) (width addr data : Nat) : List Intent :=
  let off := addr / 4 * 4
  ((if width = 64 then [off, off + 4] else [off]).filterMap target?).zipIdx.map
    (fun t => s.intent t.1 (BitVec.ofNat 32 (data / 2 ^ (32 * t.2))))

/-- The codes that a register write breaks (R10, R77): those of its width and its place, and, of a whole word within reach whose
register has no check of its own, those of the registers it meets. -/
def State.regWriteCodes (s : State) (m width addr data : Nat) : List Nat :=
  let off := addr / 4 * 4
  let wc := widthCodes true width addr
  wc ++ s.placeCodes m off true ++
    (if wc.isEmpty && inReach m off && !(blockOf off == bMailbox || off == ACCESS_UNLOCK) then
      s.writeCodes m false false (s.intents width addr data) else [])

/-- A register write by a master (R72, R73, R77): the address in its 40-bit space or, for the host, its BAR0 offset. Nothing
happens where the master can make no access or no byte is enabled (R94, R102). A rejected write that lies within the master's
reach re-arms its lock where the register is guarded (R81). `eff` is what an accepted write does to each of its
registers. -/
def State.regWriteBy (eff : State → Intent → State) (s : State) (master width addr data : Nat) : State :=
  if width = 0 || !s.canAccess master then s
  else if 0x400000 ≤ addr then s.memWrite master width addr data
  else
    let off := addr / 4 * 4
    let is := s.intents width addr data
    let s0 := if inReach master off && is.any (fun i => i.t.row.guarded) then s.relock master else s
    match pickCode (s.regWriteCodes master width addr data) with
    | some c => s0.reject master addr c true
    | none =>
      if blockOf off = bMailbox then s.mailboxWrite master off (BitVec.ofNat 32 data)
      else if off = ACCESS_UNLOCK then s.unlockWrite master (BitVec.ofNat 32 data)
      else s0.each is eff

/-- A register write, with the effect of its fields. -/
def State.regWrite (s : State) (master width addr data : Nat) : State :=
  s.regWriteBy (fun t i => t.applyIntent master addr i) master width addr data

/-- A full write that has landed by the end of the command. -/
def State.writeNow (s : State) (master off data : Nat) : State := (s.regWrite master 32 off data).landAt off

/-! Reads (R73 to R76). -/

/-- Calendar time shown: seconds and nanoseconds within the second (R437). -/
def State.timeSec (s : State) : Nat := s.cal / cycPerS
def State.timeNs (s : State) : Nat := s.cal % cycPerS * 5 / 6

/-- ACTIVE of GLOBAL_FAULT_STAT. -/
def State.activeBits (s : State) : Nat := s.active.foldl (fun v f => v ||| 2 ^ f.cls) 0

/-- PEND of GLOBAL_APPLY_PEND. -/
def State.pendBits (s : State) : Nat := s.pendingRegs.foldl (fun v off => v ||| 2 ^ blockOf off) 0

/-- The register file with pending class-A values (R82). Writes still in flight to a stopped domain are not shown: a read
returns the last snapshot (R31); those in flight to a running one land before a read. -/
def State.shownWord (s : State) (off : Nat) : Word := layOver s.pendingA off (s.reg off)

/-- What a register shows a master beside what the register file holds. -/
def State.live (s : State) (master off : Nat) (w : Word) : Word :=
  let put (hi lo v : Nat) : Word := BitVec.ofNat 32 (putBits w.toNat hi lo v)
  if off = GLOBAL_UID_LO then BitVec.ofNat 32 Config.uid.toNat
  else if off = GLOBAL_UID_HI then BitVec.ofNat 32 (Config.uid.toNat / 2 ^ 32)
  else if off = GLOBAL_FAULT_STAT then put 11 8 s.activeBits
  else if off = GLOBAL_APPLY_PEND then put 16 0 s.pendBits
  else if off = ACCESS_UNLOCK_STAT then put 0 0 (b2n (s.unlocked master))
  else if off = CP_TIME_SEC_LO then BitVec.ofNat 32 s.timeSec
  else if off = CP_TIME_SEC_HI then BitVec.ofNat 32 (s.timeSec / 2 ^ 32)
  else if off = CP_TIME_NS then BitVec.ofNat 32 s.timeNs
  else if off = GL_LOG_STAT then put 12 0 s.logLevel
  else if off = KS_STAT then put 3 3 (b2n s.ksBusy)
  else if ACCESS_SEM 0 ≤ off ∧ off < ACCESS_SEM 32 then s.semPeek ((off - ACCESS_SEM 0) / 4) master
  else match dirOfData? off, dirOfStat? off with
    | some d, _ => s.mbPeek d
    | none, some d => if d.queue then put 5 0 (s.waiting d.data).length else w
    | none, none => w

/-- What a read of a register by a master shows; WO fields read 0. -/
def State.regShown (s : State) (master : Nat) (r : RegRow) (off : Nat) : Word :=
  s.live master off (s.shownWord off &&& ~~~(r.mask (fun f => f.acc == .wo)))

/-- The words that follow the low word of a declared pair into its reader's shadow (R75, R343, R437). -/
def shadowed (off : Nat) : List Nat :=
  if off = CP_TIME_SEC_LO then [CP_TIME_SEC_HI, CP_TIME_NS]
  else (match regRow? (off + 4) with
    | some r => if r.part = .high then [off + 4] else []
    | none => []) ++
    (match regRow? (off + 8) with
    | some r => if r.part = .third then [off + 8] else []
    | none => [])

/-- A word of a register that has been shadowed for a master. -/
def State.shadow? (s : State) (master off : Nat) : Option Word :=
  (s.fabric.shadows.find? (fun x => x.master == master && x.off == off)).map (fun x => x.value)

/-- A master's shadows of some registers replaced. -/
def State.setShadows (s : State) (master : Nat) (offs : List Nat) (xs : List Shadow) : State :=
  { s with fabric := { s.fabric with
    shadows := xs ++ s.fabric.shadows.filter (fun x => !(x.master == master && offs.contains x.off)) } }

/-- The RCL fields of a register at their reset values (R6, R84). -/
def RegRow.cleared (r : RegRow) (w : Word) : Word :=
  BitVec.ofNat 32 ((r.fields.filter (fun f => f.acc == .rcl)).foldl (fun v f => putBits v f.hi f.lo f.reset) w.toNat)

/-- A full read of one register with its side effects (R74): a pop, a semaphore acquisition, latched and used shadows, and
the clearing of RCL fields. -/
def State.fullRead (s : State) (master : Nat) (r : RegRow) (off : Nat) : Word × State :=
  if ACCESS_SEM 0 ≤ off ∧ off < ACCESS_SEM 32 then s.semRead ((off - ACCESS_SEM 0) / 4) master
  else match dirOfData? off with
    | some d =>
      if d.receiver = master then ((s.mbPop d).1, (s.mbPop d).2.flushReplies) else (s.regShown master r off, s)
    | none =>
      match r.part with
      | .low =>
        let offs := shadowed off
        (s.regShown master r off,
         (s.setShadows master offs (offs.map (fun o => ⟨master, o, s.live master o (s.shownWord o)⟩))).setReg off (r.cleared (s.reg off)))
      | .single => (s.regShown master r off, s.setReg off (r.cleared (s.reg off)))
      | _ =>
        match s.shadow? master off with
        | some w => (w, s.setShadows master [off] [])
        | none => (s.regShown master r off, s)

/-- A register read by a master (R29, R73, R74): the data it returns, and the state after its side effects. Writes to the
register that are in flight land first. R75 speaks of the master's next read of the high word: an 8- or 16-bit read of it is
taken to have no side effect (R74), shows the live word and leaves the shadow (DESIGN CHOICE, assumption 59). -/
def State.regRead (s : State) (master width addr : Nat) : Nat × State :=
  if width = 0 || !s.canAccess master then (0, s)
  else if 0x400000 ≤ addr then s.memRead master width addr
  else
    let off := addr / 4 * 4
    match pickCode (widthCodes false width addr ++ s.placeCodes master off false) with
    | some c => (0, s.reject master addr c false)
    | none =>
      match target? off with
      | none => (0, s)
      | some t =>
        let s1 := (s.landAt t.off).landAt (if width = 64 then t.off + 4 else t.off)
        if width = 64 then
          let lo := s1.fullRead master t.row t.off
          match regRow? (t.off + 4) with
          | some r => ((lo.1).toNat + 2 ^ 32 * ((lo.2.fullRead master r (t.off + 4)).1).toNat, (lo.2.fullRead master r (t.off + 4)).2)
          | none => ((lo.1).toNat, lo.2)
        else if width = 32 && t.kind == 0 then ((s1.fullRead master t.row t.off).1.toNat, (s1.fullRead master t.row t.off).2)
        else ((s1.regShown master t.row t.off).toNat / 2 ^ (8 * (addr % 4)) % 2 ^ width, s1)

/-- A register read answered to its master. A function in D3hot answers Unsupported Request (R101); a host whose link is down,
and a master held in reset, make no read (R102). -/
def State.answerRead (s : State) (master width addr : Nat) : State :=
  if s.canAccess master then
    (s.regRead master width addr).2.send (.readData master addr (s.regRead master width addr).1)
  else if isHost master && s.boot.aon && !s.boot.porst && s.rd HL_LINK_STAT_LINK_UP == 1 then
    s.send (.completion (b2n (master == mPF1)) 3 [])
  else s

end Sys2Proof.Machine
end

