-- ==== Sys2Proof/Machine/Access.lean ====
section
/-! DEFINITION. Commands that write and read registers: plain accesses, and those that have a row of their own. -/

namespace Sys2Proof.Machine

/-! Plain accesses (R73, R82). -/

/-- REGISTER_WRITE (R73). -/
def execRegisterWrite (master : Fin 16) (width addr data : Nat) (s : State) : Out :=
  .next (s.regWrite master width addr data)

/-- REGISTER_READ (R74). -/
def execRegisterRead (master : Fin 16) (width addr : Nat) (s : State) : Out := .next (s.answerRead master width addr)

/-- REGISTER_WRITE_LAND (R28, R82, R83): the writes in flight to a register land. -/
def execRegisterWriteLand (off : Nat) (s : State) : Out := .next (s.landAt off)

/-- CROSSING_WRITE_TIMEOUT (R31): writes to a domain whose clock is stopped are discarded after 256 SYS cycles. -/
def execCrossingWriteTimeout (off : Nat) (s : State) : Out :=
  .next (
    if s.domainRuns off then s
    else
      let late (x : Crossing) : Bool := x.off == off && decide (x.since + 256 ≤ s.now)
      let xs := s.fabric.inFlight.filter late
      let s1 : State := { s with fabric := { s.fabric with inFlight := s.fabric.inFlight.filter (fun x => !late x) } }
      s1.each xs (fun t x => t.reject x.master x.addr E_TIMEOUT true))

/-! The edge that begins a headland (R24). -/

/-- The pending class-A values captured at the edge that begins a headland (R24); a loop engine takes its own at its
tick. A write accepted before the edge belongs to it: what still crosses with class-A values lands first. -/
def State.captureA (s : State) : State :=
  let s1 := s.landWhere (fun x => x.mask &&& aBits x.off != 0 && s.domainRuns x.off)
  { s1 with fabric := { s1.fabric with
      pendA := s1.fabric.pendA.filter (fun p => isLoopReg p.off),
      pendNow := s1.fabric.pendA.filter (fun p => !isLoopReg p.off) } }

/-- OUTPUT_WRITE_END (R21, R440): output write ends and the headland begins. Class-A values, accepted amendments and a
completed campaign are taken for it, a due checkpoint is captured, and in a pair the frames of the headland are sent. -/
def execOutputWriteEnd (s : State) : Out :=
  .next (
    if s.rd PASS_PHASE_PHASE ≠ phOutput then s
    else (((((s.setPhase phHeadland).markReady).captureA).takeBatch).checkpoint).pairBegin)

/-! Clocks (R31, R431, R437). -/

/-- The domains whose clocks derive from CLK_REF, SYS apart (R27). -/
def refDomains : List Nat := [1, 2, 3, 5, 7, 8, 9]

/-- CLOCK_STOPPED (R31, R437): domain 0 stands for CLK_REF itself, whose stop stops every domain that derives from it and
records F3. -/
def execClockStopped (domain : Fin 12) (s : State) : Out :=
  .next (
    if domain.val = 0 then (s.each refDomains State.stopClock).fatalFault bClockPower 0 0
    else s.stopClock domain)

/-- CLOCK_RESTORED (R31, R437). -/
def execClockRestored (domain : Fin 12) (s : State) : Out :=
  .next (
    if domain.val = 0 then s.each refDomains (fun t d => t.clockFlag d false)
    else s.clockFlag domain false)

/-! The lock (R81). -/

/-- UNLOCK_KEY_WRITE (R81). -/
def execUnlockKeyWrite (master : Fin 16) (key : Word) (s : State) : Out :=
  .next (s.regWrite master 32 ACCESS_UNLOCK key.toNat)

/-- UNLOCK_WINDOW_EXPIRY (R81): the window of a master ends. -/
def execUnlockWindowExpiry (master : Fin 16) (s : State) : Out :=
  .next { s with fabric := { s.fabric with
    unlocks := s.fabric.unlocks.filter (fun u => !(u.1 == master.val && decide (u.2 ≤ s.now))) } }

/-! Semaphores (R85, R86). -/

/-- SEMAPHORE_ACQUIRE_READ (R85). -/
def execSemaphoreAcquireRead (master : Fin 16) (sem : Fin 32) (s : State) : Out :=
  .next (s.answerRead master 32 (ACCESS_SEM sem))

/-- SEMAPHORE_RELEASE (R85). -/
def execSemaphoreRelease (master : Fin 16) (sem : Fin 32) (s : State) : Out :=
  .next (s.regWrite master 32 (ACCESS_SEM sem) 0x10000)

/-- SEMAPHORE_FORCE (R86). -/
def execSemaphoreForce (master : Fin 16) (sem : Fin 32) (s : State) : Out :=
  .next (s.regWrite master 32 ACCESS_SEM_FORCE sem)

/-! The configuration check (R88 to R90). -/

/-- The offsets of a family of registers. -/
def dimsOffsets : List (Nat × Nat) → List Nat
  | [] => [0]
  | (c, st) :: ds => (List.range c).flatMap (fun k => (dimsOffsets ds).map (fun d => st * k + d))

/-- Every register that holds a C field, ascending, with the bits of its C fields (R88). -/
def configRegs : List (Nat × Word) :=
  let rows := (blockRanges.flatMap (fun b => blockRows b.2.2)).filter (fun r => r.fields.any (fun f => f.config))
  (rows.flatMap (fun r => (dimsOffsets r.dims).map (fun d => (r.base + d, r.mask (fun f => f.config))))).mergeSort
    (fun a b => decide (a.1 ≤ b.1))

/-- The configuration CRC of the values in force (R88). -/
def State.configCrc (s : State) : Nat := crc32c (configRegs.flatMap (fun e => leBytes 4 (s.reg e.1 &&& e.2).toNat))

/-- The outcome of a comparison shown; a mismatch that arises is recorded as F1, which lasts while it does (R89). -/
def State.showMatch (s : State) (differ : Bool) : State :=
  let was := s.rd ACCESS_CFG_STAT_MISMATCH_LIVE == 1
  let s1 := s.wr ACCESS_CFG_STAT_MISMATCH_LIVE (b2n differ)
  if differ && !was then
    let s2 := if s1.rd ACCESS_CFG_STAT_CFG_MISMATCH = 1 then s1 else s1.raiseVec false 5
    (s2.wr ACCESS_CFG_STAT_CFG_MISMATCH 1).startFault 1 bAccess 0 0
  else if !differ && was then s1.endFault bAccess 0 0
  else s1

/-- CFG_RECOMPUTATION_COMPLETE (R88, R89): no comparison while EDIT is set, a commit waits, or none has yet been made since
the restart. -/
def execCfgRecomputationComplete (s : State) : Out :=
  let crc := s.configCrc
  let s1 := s.setReg ACCESS_CFG_CRC (BitVec.ofNat 32 crc)
  .next (
    if s.fabric.compareOn && s.rd ACCESS_CFG_CTL_EDIT == 0 && s.fabric.commitOn.isNone then
      s1.showMatch ((s.reg ACCESS_CFG_REF).toNat != crc)
    else s1)

/-- A commit takes the present configuration as the reference (R90). -/
def State.commitConfig (s : State) : State :=
  let crc := BitVec.ofNat 32 s.configCrc
  let s1 := (s.setReg ACCESS_CFG_CRC crc).setReg ACCESS_CFG_REF crc
  let s2 := (s1.wr ACCESS_CFG_CTL_EDIT 0).wr ACCESS_CFG_CTL_COMMIT 0
  ({ s2 with fabric := { s2.fabric with commitOn := none, editSince := none } }).forwardAll [.commit crc.toNat]

/-- CFG_COMMIT_COMPLETE (R90): every class-A write that the commit waits for has taken effect. A change of the configuration
after sowing is recorded (R61). -/
def execCfgCommitComplete (s : State) : Out :=
  .next (
    match s.fabric.commitOn with
    | none => s
    | some n => if s.commitReady n then s.commitConfig.event bAccess 0 0 else s)

/-- CFG_EDIT (R89). -/
def execCfgEdit (master : Fin 16) (s : State) : Out :=
  .next (s.regWrite master 32 ACCESS_CFG_CTL (s.rd ACCESS_CFG_CTL_EDIT_MAX * 256 + 1))

/-- CFG_COMMIT (R90); EDIT is written as it stands. -/
def execCfgCommit (master : Fin 16) (s : State) : Out :=
  .next (s.regWrite master 32 ACCESS_CFG_CTL (s.rd ACCESS_CFG_CTL_EDIT_MAX * 256 + 2 + s.rd ACCESS_CFG_CTL_EDIT))

/-- EDIT_EXPIRY (R89). -/
def execEditExpiry (s : State) : Out :=
  .next (
    match s.fabric.editSince with
    | some t =>
      if s.rd ACCESS_CFG_CTL_EDIT = 1 ∧ t + s.rd ACCESS_CFG_CTL_EDIT_MAX * cycPerS ≤ s.now then
        let s1 := (s.wr ACCESS_CFG_CTL_EDIT 0).wr ACCESS_CFG_STAT_EDIT_EXPIRED 1
        ({ s1 with fabric := { s1.fabric with editSince := none } }).recordFault 0 bAccess 0 0
      else s
    | none => s)

/-! The host link and the mailboxes (R96, R105). -/

/-- WINDOW_WRITE (R96): a function writes HL_WIN_0n. -/
def execWindowWrite (fn : Bool) (win : Fin 2) (base : Word) (s : State) : Out :=
  .next (s.regWrite (fnMaster fn) 32 (HL_WIN win) base.toNat)

/-- MAILBOX_POST (R105). -/
def execMailboxPost (master : Fin 16) (off : Nat) (word : Word) (s : State) : Out :=
  .next (s.regWrite master 32 off word.toNat)

/-- MAILBOX_POP (R105). -/
def execMailboxPop (master : Fin 16) (off : Nat) (s : State) : Out := .next (s.answerRead master 32 off)

/-! Restarts (R39, R66). -/

/-- CP_RESTART (R39): KIND and SOURCE written. -/
def execCpRestart (master : Fin 16) (kind : Fin 4) (fromHost : Bool) (s : State) : Out :=
  .next (s.regWrite master 32 CP_RESTART (kind.val + 4 * b2n fromHost))

/-! Surveyors and lanes (R138, R188, R194). -/

/-- SURVEYOR_RESTART (R138): RESTART written in SV_CTL. -/
def execSurveyorRestart (master : Fin 16) (region : Fin 8) (s : State) : Out :=
  .next (s.regWrite master 32 (SV_CTL region) 0x10001)

/-- LANE_RETEST (R165, R188): RETEST written, and landed. -/
def execLaneRetest (master : Fin 16) (lane : Fin 256) (s : State) : Out :=
  .next (s.writeNow master (LANE_CTL lane) 0x40004)

/-- LANE_HOLD_OUT (R189, R194): HOLD_OUT written. -/
def execLaneHoldOut (master : Fin 16) (lane : Fin 256) (hold : Bool) (s : State) : Out :=
  .next (s.regWrite master 32 (LANE_CTL lane) (0x80000 + 8 * b2n hold))

/-! Mode requests (R247). -/

/-- REQ_RUN. -/
def execReqRun (master : Fin 16) (s : State) : Out := .next (s.regWrite master 32 PASS_MODE_CTL modeRun)

/-- REQ_HOLD. -/
def execReqHold (master : Fin 16) (s : State) : Out := .next (s.regWrite master 32 PASS_MODE_CTL modeHold)

/-- REQ_STOP. -/
def execReqStop (master : Fin 16) (s : State) : Out := .next (s.regWrite master 32 PASS_MODE_CTL modeStop)

/-! Loop engines (R276, R277, R281). -/

/-- LOOP_START: RUN written 1. -/
def execLoopStart (master : Fin 16) (engine : Fin 32) (s : State) : Out :=
  .next (s.regWrite master 32 (LOOP_CTL engine) 0x10001)

/-- LOOP_STOP: RUN written 0. -/
def execLoopStop (master : Fin 16) (engine : Fin 32) (s : State) : Out :=
  .next (s.regWrite master 32 (LOOP_CTL engine) 0x10000)

/-- HOLD_LAW_SET. -/
def execHoldLawSet (master : Fin 16) (engine : Fin 32) (s : State) : Out :=
  .next (s.regWrite master 32 (LOOP_CTL engine) 0x40004)

/-- HOLD_LAW_CLEAR. -/
def execHoldLawClear (master : Fin 16) (engine : Fin 32) (s : State) : Out :=
  .next (s.regWrite master 32 (LOOP_CTL engine) 0x40000)

/-! Field ports (R284). -/

/-- PORT_ENABLE: EN of FP_CTL written, and landed. -/
def execPortEnable (master : Fin 16) (port : Fin 4) (on : Bool) (s : State) : Out :=
  .next (s.writeNow master (FP_CTL port) (0x10000 + b2n on))

/-! The pair (R374). -/

/-- PAIR_YIELD (R367). -/
def execPairYield (master : Fin 16) (s : State) : Out := .next (s.regWrite master 32 PAIR_CMD 1)

/-- PAIR_TAKE (R368). -/
def execPairTake (master : Fin 16) (s : State) : Out := .next (s.regWrite master 32 PAIR_CMD 2)

/-- PAIR_FALLOW (R367). -/
def execPairFallow (master : Fin 16) (s : State) : Out := .next (s.regWrite master 32 PAIR_CMD 3)

/-- PAIR_JOIN (R372). -/
def execPairJoin (master : Fin 16) (s : State) : Out := .next (s.regWrite master 32 PAIR_CMD 4)

/-- PAIR_CLEAR (R366). -/
def execPairClear (master : Fin 16) (s : State) : Out := .next (s.regWrite master 32 PAIR_CMD 5)

/-! Debug access (R398). -/

/-- DBG_PRESENT: PRESENT written. -/
def execDbgPresent (master : Fin 16) (_sigOk : Computed) (s : State) : Out := .next (s.regWrite master 32 DBG_CTL 2)

/-- DBG_CLOSE: CLOSE written. -/
def execDbgClose (master : Fin 16) (s : State) : Out := .next (s.regWrite master 32 DBG_CTL 4)

/-- DBG_NEW_CHAL: NEW_CHAL written; `challenge` is the random value drawn. -/
def execDbgNewChal (master : Fin 16) (challenge : BitVec 256) (s : State) : Out :=
  .next (s.regWriteBy (fun t _ => t.newChallenge challenge.toNat) master 32 DBG_CTL 1)

/-! Time (R438). -/

/-- TIME_SET: SET written in CP_TIME_CTL. -/
def execTimeSet (master : Fin 16) (s : State) : Out := .next (s.regWrite master 32 CP_TIME_CTL 1)

/-! The Gleaner and the archive (R407, R411, R414). -/

/-- GLEANER_FREEZE: FREEZE written 1, FREEZE_MAX as it stands. -/
def execGleanerFreeze (master : Fin 16) (s : State) : Out :=
  .next (s.regWrite master 32 GL_CTL (bitsOf (s.view GL_CTL).toNat 15 8 * 256 + 1))

/-- GLEANER_UNFREEZE: FREEZE written 0. -/
def execGleanerUnfreeze (master : Fin 16) (s : State) : Out :=
  .next (s.regWrite master 32 GL_CTL (bitsOf (s.view GL_CTL).toNat 15 8 * 256))

/-- LOG_READ_ADVANCE: GL_LOG_RD written. -/
def execLogReadAdvance (master : Fin 16) (index : Word) (s : State) : Out :=
  .next (s.regWrite master 32 GL_LOG_RD index.toNat)

/-- ARCHIVE_ACK: HR_ARCH_ACK written. -/
def execArchiveAck (master : Fin 16) (seq : Word) (s : State) : Out := .next (s.regWrite master 32 HR_ARCH_ACK seq.toNat)

/-! The accesses of a pass core (R236, R403). -/

/-- RDR (R236): the core's earlier writes land first; W0 takes the register, zero-extended. -/
def execFurRdr (core : Fin 4) (reg : BitVec 22) (s : State) : Out :=
  let m := mPassCore core.val
  .next (s.issue core (.furRdr core reg) (s.runOn core (fun c =>
    let s1 := s.landWhere (fun x => x.master == m && s.domainRuns x.off)
    let r := s1.regRead m 32 (4 * reg.toNat)
    .ok (r.2.setCore core { c with w0 := BitVec.ofNat 64 r.1 }))))

/-- WRR (R236): W0[31:0] is posted to a register. -/
def execFurWrr (core : Fin 4) (reg : BitVec 22) (s : State) : Out :=
  .next (s.issue core (.furWrr core reg) (s.runOn core (fun c =>
    .ok ((s.setCore core c).regWrite (mPassCore core.val) 32 (4 * reg.toNat) (c.w0.toNat % 2 ^ 32)))))

/-- HIST (R228, R404): W0 is entered with the TIME of the pass's input header. -/
def execFurHist (core : Fin 4) (defn : BitVec 10) (s : State) : Out :=
  .next (s.issue core (.furHist core defn)
    (s.runOn core (fun c => .ok ((s.setCore core c).histValue defn.toNat c.w0.toNat s.passTime))))

end Sys2Proof.Machine
end

