-- ==== Sys2Proof/Machine/FurrowArith.lean ====
section
/-! DEFINITION. Furrow integer and floating-point arithmetic, comparison and bit transfer (R225 to R227). -/

namespace Sys2Proof.Machine

/-- An operation on W0 and W1 whose result goes to W0, with its flags (R225, R226); W1 is unchanged. -/
def State.arith (s : State) (n : Fin 4) (f : DWord → DWord → DWord × FpFlags) : State :=
  s.runCore n (fun c => .ok ({ c with w0 := (f c.w0 c.w1).1 }.raiseFlags (f c.w0 c.w1).2))

/-- A binary64 result as an accumulator value. -/
def fpW (r : Nat × FpFlags) : DWord × FpFlags := (BitVec.ofNat 64 r.1, r.2)

/-- How a comparison joins LA (R227): 0 load, 1 AND, 2 OR, 3 XOR. -/
def joinLa (join : Nat) (la r : Bool) : Bool :=
  match join with
  | 0 => r
  | 1 => la && r
  | 2 => la || r
  | _ => la != r

/-- The conditions of format C (R227): 0 EQ, 1 NE, 2 LT, 3 LE, 4 GT, 5 GE. -/
def condHolds (cond : Nat) (o : Ordering) : Bool :=
  match cond with
  | 0 => o == .eq
  | 1 => o != .eq
  | 2 => o == .lt
  | 3 => o != .gt
  | 4 => o == .gt
  | _ => o != .lt

/-- A comparison whose result joins LA (R227), with the flags it raises. -/
def State.compare (s : State) (n : Fin 4) (join : BitVec 3) (f : DWord → DWord → Bool × FpFlags) : State :=
  s.runCore n (fun c =>
    .ok ({ c with la := joinLa join.toNat c.la (f c.w0 c.w1).1 }.raiseFlags (f c.w0 c.w1).2))

/-- ADD (R225, R226): W0 + W1, wrapping. -/
def execFurAdd (core : Fin 4) (s : State) : Out :=
  .next (s.issue core (.furAdd core) (s.arith core (fun a b => wrapFlag (a.toInt + b.toInt))))

/-- SUB (R225, R226): W0 − W1, wrapping. -/
def execFurSub (core : Fin 4) (s : State) : Out :=
  .next (s.issue core (.furSub core) (s.arith core (fun a b => wrapFlag (a.toInt - b.toInt))))

/-- MUL (R225, R226): the low 64 bits of W0 × W1. -/
def execFurMul (core : Fin 4) (s : State) : Out :=
  .next (s.issue core (.furMul core) (s.arith core (fun a b => wrapFlag (a.toInt * b.toInt))))

/-- DIV (R225, R226): signed quotient truncated toward zero. -/
def execFurDiv (core : Fin 4) (s : State) : Out :=
  .next (s.issue core (.furDiv core) (s.arith core (fun a b => divFlag a b)))

/-- MOD (R225, R226): remainder with the sign of W0. -/
def execFurMod (core : Fin 4) (s : State) : Out :=
  .next (s.issue core (.furMod core) (s.arith core (fun a b => modFlag a b)))

/-- WORD_AND (R225, R226): bitwise AND. -/
def execFurWordAnd (core : Fin 4) (s : State) : Out :=
  .next (s.issue core (.furWordAnd core) (s.arith core (fun a b => (a &&& b, fpNone))))

/-- WORD_OR (R225, R226): bitwise OR. -/
def execFurWordOr (core : Fin 4) (s : State) : Out :=
  .next (s.issue core (.furWordOr core) (s.arith core (fun a b => (a ||| b, fpNone))))

/-- WORD_XOR (R225, R226): bitwise exclusive-or. -/
def execFurWordXor (core : Fin 4) (s : State) : Out :=
  .next (s.issue core (.furWordXor core) (s.arith core (fun a b => (a ^^^ b, fpNone))))

/-- SHL (R225, R226): W0 shifted left by W1[5:0]. -/
def execFurShl (core : Fin 4) (s : State) : Out :=
  .next (s.issue core (.furShl core) (s.arith core (fun a b => (a <<< (b.toNat % 64), fpNone))))

/-- SHR (R225, R226): logical shift right by W1[5:0]. -/
def execFurShr (core : Fin 4) (s : State) : Out :=
  .next (s.issue core (.furShr core) (s.arith core (fun a b => (a >>> (b.toNat % 64), fpNone))))

/-- SAR (R225, R226): arithmetic shift right by W1[5:0]. -/
def execFurSar (core : Fin 4) (s : State) : Out :=
  .next (s.issue core (.furSar core) (s.arith core (fun a b => (a.sshiftRight (b.toNat % 64), fpNone))))

/-- NEG (R225, R226): −W0, wrapping. -/
def execFurNeg (core : Fin 4) (s : State) : Out :=
  .next (s.issue core (.furNeg core) (s.arith core (fun a _ => wrapFlag (-a.toInt))))

/-- ABS (R225, R226): abs(W0), wrapping. -/
def execFurAbs (core : Fin 4) (s : State) : Out :=
  .next (s.issue core (.furAbs core) (s.arith core (fun a _ => wrapFlag (a.toInt.natAbs : Int))))

/-- MIN (R225, R226): signed minimum. -/
def execFurMin (core : Fin 4) (s : State) : Out :=
  .next (s.issue core (.furMin core) (s.arith core (fun a b => (if b.toInt < a.toInt then b else a, fpNone))))

/-- MAX (R225, R226): signed maximum. -/
def execFurMax (core : Fin 4) (s : State) : Out :=
  .next (s.issue core (.furMax core) (s.arith core (fun a b => (if a.toInt < b.toInt then b else a, fpNone))))

/-- ADDS (R225, R226): W0 + W1, saturating. -/
def execFurAdds (core : Fin 4) (s : State) : Out :=
  .next (s.issue core (.furAdds core) (s.arith core (fun a b => satFlag (a.toInt + b.toInt))))

/-- FADD (R225, R226): binary64 sum. -/
def execFurFadd (core : Fin 4) (s : State) : Out :=
  .next (s.issue core (.furFadd core) (s.arith core (fun a b => fpW (fpAdd fmt64 a.toNat b.toNat))))

/-- FSUB (R225, R226): binary64 difference. -/
def execFurFsub (core : Fin 4) (s : State) : Out :=
  .next (s.issue core (.furFsub core) (s.arith core (fun a b => fpW (fpSub fmt64 a.toNat b.toNat))))

/-- FMUL (R225, R226): binary64 product. -/
def execFurFmul (core : Fin 4) (s : State) : Out :=
  .next (s.issue core (.furFmul core) (s.arith core (fun a b => fpW (fpMul fmt64 a.toNat b.toNat))))

/-- FDIV (R225, R226): binary64 quotient. -/
def execFurFdiv (core : Fin 4) (s : State) : Out :=
  .next (s.issue core (.furFdiv core) (s.arith core (fun a b => fpW (fpDiv fmt64 a.toNat b.toNat))))

/-- FSQRT (R225, R226): square root of W0. -/
def execFurFsqrt (core : Fin 4) (s : State) : Out :=
  .next (s.issue core (.furFsqrt core) (s.arith core (fun a _ => fpW (fpSqrt fmt64 a.toNat))))

/-- FMIN (R225, R226): binary64 minimum. -/
def execFurFmin (core : Fin 4) (s : State) : Out :=
  .next (s.issue core (.furFmin core) (s.arith core (fun a b => fpW (fpMinMax fmt64 false a.toNat b.toNat))))

/-- FMAX (R225, R226): binary64 maximum. -/
def execFurFmax (core : Fin 4) (s : State) : Out :=
  .next (s.issue core (.furFmax core) (s.arith core (fun a b => fpW (fpMinMax fmt64 true a.toNat b.toNat))))

/-- FABS (R225, R226): the sign bit of W0 cleared. -/
def execFurFabs (core : Fin 4) (s : State) : Out :=
  .next (s.issue core (.furFabs core) (s.arith core (fun a _ => (BitVec.ofNat 64 (fpAbs fmt64 a.toNat), fpNone))))

/-- FNEG (R225, R226): the sign bit of W0 inverted. -/
def execFurFneg (core : Fin 4) (s : State) : Out :=
  .next (s.issue core (.furFneg core) (s.arith core (fun a _ => (BitVec.ofNat 64 (fpNeg fmt64 a.toNat), fpNone))))

/-- ITOF (R225, R226): signed integer to binary64. -/
def execFurItof (core : Fin 4) (s : State) : Out :=
  .next (s.issue core (.furItof core) (s.arith core (fun a _ => (BitVec.ofNat 64 (fpOfInt fmt64 a.toInt), fpNone))))

/-- FTOI (R225, R226): binary64 to signed integer, to even, saturating. -/
def execFurFtoi (core : Fin 4) (s : State) : Out :=
  .next (s.issue core (.furFtoi core)
    (s.arith core (fun a _ => (BitVec.ofInt 64 (fpToInt fmt64 64 a.toNat).1, flagNv (fpToInt fmt64 64 a.toNat).2))))

/-- CMP (R227): signed integer comparison joined into LA. -/
def execFurCmp (core : Fin 4) (join cond : BitVec 3) (s : State) : Out :=
  .next (s.issue core (.furCmp core join cond)
    (s.compare core join (fun a b => (condHolds cond.toNat (compare a.toInt b.toInt), fpNone))))

/-- CMPU (R227): unsigned comparison joined into LA. -/
def execFurCmpu (core : Fin 4) (join cond : BitVec 3) (s : State) : Out :=
  .next (s.issue core (.furCmpu core join cond)
    (s.compare core join (fun a b => (condHolds cond.toNat (compare a.toNat b.toNat), fpNone))))

/-- FCMP (R226, R227): binary64 comparison joined into LA; an unordered result is false for every condition but NE, and
a NaN of either kind sets NV. -/
def execFurFcmp (core : Fin 4) (join cond : BitVec 3) (s : State) : Out :=
  .next (s.issue core (.furFcmp core join cond) (s.compare core join (fun a b =>
    if fpIsNan fmt64 a.toNat || fpIsNan fmt64 b.toNat then (cond.toNat == 1, flagNv true)
    else (condHolds cond.toNat (fpCmp fmt64 a.toNat b.toNat), fpNone))))

/-- LDWB (R227): LA ← W0[n]. -/
def execFurLdwb (core : Fin 4) (n : Fin 64) (s : State) : Out :=
  .next (s.issue core (.furLdwb core n) (s.runCore core (fun c => .ok { c with la := bitOf c.w0.toNat n.val })))

/-- STWB (R227): W0[n] ← LA. -/
def execFurStwb (core : Fin 4) (n : Fin 64) (s : State) : Out :=
  .next (s.issue core (.furStwb core n)
    (s.runCore core (fun c => .ok { c with w0 := BitVec.ofNat 64 (putBits c.w0.toNat n.val n.val (b2n c.la)) })))

end Sys2Proof.Machine
end

