-- ==== Sys2Proof/Machine/FurrowControl.lean ====
section
/-! DEFINITION. Furrow control, function-block calls, barriers, and the timer, counter and edge records (R228, R230 to
R235, R259). -/

namespace Sys2Proof.Machine

/-- The index a jump goes to (R221, format J): a signed offset from the instruction after the jump. -/
def jumpTo (pc : Nat) (disp : BitVec 24) : Nat := (((pc : Int) + disp.toInt) % 2 ^ 20).toNat

/-- JMP (R228). -/
def execFurJmp (core : Fin 4) (disp : BitVec 24) (s : State) : Out :=
  .next (s.issue core (.furJmp core disp) (s.runCore core (fun c => .ok { c with pc := jumpTo c.pc disp })))

/-- JC (R228): jump if LA = 1. -/
def execFurJc (core : Fin 4) (disp : BitVec 24) (s : State) : Out :=
  .next (s.issue core (.furJc core disp)
    (s.runCore core (fun c => .ok (if c.la then { c with pc := jumpTo c.pc disp } else c))))

/-- JNC (R228): jump if LA = 0. -/
def execFurJnc (core : Fin 4) (disp : BitVec 24) (s : State) : Out :=
  .next (s.issue core (.furJnc core disp)
    (s.runCore core (fun c => .ok (if c.la then c else { c with pc := jumpTo c.pc disp }))))

/-- CALL (R228): the return index is pushed; PF_CALL with 16 of them. -/
def execFurCall (core : Fin 4) (disp : BitVec 24) (s : State) : Out :=
  .next (s.issue core (.furCall core disp) (s.runCore core (fun c =>
    if 16 ≤ c.calls.length then .error PF_CALL
    else .ok { c with calls := ⟨c.pc, none⟩ :: c.calls, pc := jumpTo c.pc disp })))

/-- LOOPW (R228): W1 ← W1 − 1; jump if W1 ≠ 0. -/
def execFurLoopw (core : Fin 4) (disp : BitVec 24) (s : State) : Out :=
  .next (s.issue core (.furLoopw core disp) (s.runCore core (fun c =>
    .ok (if c.w1 - 1 ≠ 0 then { c with w1 := c.w1 - 1, pc := jumpTo c.pc disp } else { c with w1 := c.w1 - 1 }))))

/-- NOP (R228). -/
def execFurNop (core : Fin 4) (s : State) : Out := .next (s.issue core (.furNop core) (s.runCore core (fun c => .ok c)))

/-- FLG (R228): W0 ← the flags of this pass: [0] OV, [1] DZ, [2] NV. -/
def execFurFlg (core : Fin 4) (s : State) : Out :=
  .next (s.issue core (.furFlg core) (s.runCore core (fun c => .ok { c with w0 := BitVec.ofNat 64 c.flagBits })))

/-- FLC (R228): the three flags are cleared. -/
def execFurFlc (core : Fin 4) (s : State) : Out :=
  .next (s.issue core (.furFlc core) (s.runCore core (fun c => .ok { c with ov := false, dz := false, nv := false })))

/-! Function blocks (R257, R259). -/

/-- PASS_MS at the last freeze edge (R231). -/
def State.passMs (s : State) : Nat := s.rd64 PASS_MS_LO PASS_MS_HI

/-- The address of an instance of the program in force, if there is one. -/
def State.instAddr? (s : State) (inst : Nat) : Option Nat :=
  s.pass.prog.bind (fun p => (p.insts[inst]?).map (fun _ => instAddr p s.bank inst))

/-- CALLFB (R259): with EN = LA = 0 nothing changes; with EN = 1 the parameters are copied in and the block entered. A
frame outside the strip's L share raises PF_ADDR before anything changes, and a 17th return index PF_CALL. -/
def execFurCallfb (core : Fin 4) (inst : BitVec 14) (s : State) : Out :=
  .next (s.issue core (.furCallfb core inst) (s.runOn core (fun c =>
    match s.fbBlock? inst.toNat, s.instAddr? inst.toNat with
    | some b, some a =>
      let frame := areaL + 0x10000 * core.val + c.b3.toNat
      if !c.la then .ok (s.setCore core c)
      else if ¬ c.b3.toNat + b.inLen + b.outLen ≤ 0x10000 then .error PF_ADDR
      else if 16 ≤ c.calls.length then .error PF_CALL
      else if s.eccFault frame b.inLen || s.eccFault a 16 then .error PF_ECC
      else
        let s1 := (s.putBytes (a + 16 + b.inOff) (s.bytes frame b.inLen)).healWords (a + 16 + b.inOff) b.inLen
        let firstCall := s.ld (a + 6) 2 % 2
        let fb : FbFrame := ⟨inst.toNat, c.b1, c.b2, c.b3, c.branch.length, frame⟩
        .ok (s1.setCore core { c with
          calls := ⟨c.pc, some fb⟩ :: c.calls, pc := b.entry, b1 := 0, b2 := 0, b3 := 0, la := true,
          w0 := BitVec.ofNat 64 (if firstCall = 1 then 0 else s.passMs - s.ld (a + 8) 8),
          w1 := BitVec.ofNat 64 firstCall })
    | _, _ => .error PF_ADDR)))

/-- RET (R228, R259): the return index is popped; PF_CALL with none. At a block's own top level the path copies the
outputs out, notes the call and restores the caller; PF_STACK where the branch stack is not at the pushed depth. -/
def execFurRet (core : Fin 4) (s : State) : Out :=
  .next (s.issue core (.furRet core) (s.runOn core (fun c =>
    match c.calls with
    | [] => .error PF_CALL
    | e :: r =>
      match e.fb with
      | none => .ok (s.setCore core { c with calls := r, pc := e.ret })
      | some fb =>
        match s.fbBlock? fb.inst, s.instAddr? fb.inst with
        | some b, some a =>
          if c.branch.length ≠ fb.depth then .error PF_STACK
          else if s.eccFault (a + 16 + b.outOff) b.outLen then .error PF_ECC
          else
            let s1 := s.putBytes (fb.frame + b.inLen) (s.bytes (a + 16 + b.outOff) b.outLen)
            let s2 := (s1.st (a + 8) 8 s.passMs).st (a + 6) 2 (s.ld (a + 6) 2 / 2 * 2)
            .ok (s2.setCore core { c with calls := r, pc := e.ret, b1 := fb.b1, b2 := fb.b2, b3 := fb.b3 })
        | _, _ => .error PF_ADDR)))

/-! Barriers and the end of a strip (R235). -/

/-- The participants of a barrier among the strips of the program in force. -/
def State.participants (s : State) (b : Nat) : List (Fin 4) :=
  ([0, 1, 2, 3] : List (Fin 4)).filter (fun n => (s.barriers n).contains b && (s.strip? n).isSome)

/-- Every participant of a barrier has arrived at it. -/
def State.allArrived (s : State) (b : Nat) : Bool :=
  (s.participants b).all (fun n => (s.core n).arrived.contains b)

/-- BAR (R235): the strip arrives at b and at every barrier below b in which it participates, and waits; a second
arrival at b is PF_BARRIER. -/
def execFurBar (core : Fin 4) (b : Fin 16) (s : State) : Out :=
  .next (s.issue core (.furBar core b) (s.runOn core (fun c =>
    if c.arrived.contains b.val then .error PF_BARRIER
    else
      let below := (s.barriers core).filter (fun k => decide (k < b.val) && !c.arrived.contains k)
      let s1 := s.setCore core { c with arrived := b.val :: (below ++ c.arrived), waiting := some b.val }
      .ok (s1.wr (PASS_CORE_STAT_STATE core.val) coreWaiting).showCores)))

/-- BARRIER_RELEASE (R235): all participants have arrived, and those that wait are released together; before that it
does not come about. -/
def execBarrierRelease (b : Fin 16) (s : State) : Out :=
  .next (if s.allArrived b.val then
    (s.each ([0, 1, 2, 3] : List (Fin 4)) (fun t n =>
      if (t.core n).waiting = some b.val then
        (t.setCore n { t.core n with waiting := none }).wr (PASS_CORE_STAT_STATE n.val) coreRunning
      else t)).showCores
  else s)

/-- END (R210, R228, R235, R242): the flags of the pass are kept in PASS_CORE_STAT, the strip arrives at its remaining
barriers and stops; a non-empty stack is discarded with UNBALANCED, class F0. -/
def execFurEnd (core : Fin 4) (s : State) : Out :=
  .next (s.issue core (.furEnd core) (s.runOn core (fun c =>
    let unbalanced := !c.branch.isEmpty || !c.calls.isEmpty
    let s1 := s.wr (PASS_CORE_STAT_FLAGS core.val) (s.rd (PASS_CORE_STAT_FLAGS core.val) ||| c.flagBits)
    let s2 := if unbalanced then
        (s1.wr (PASS_CORE_STAT_UNBALANCED core.val) 1).recordFault 0 bPass UNBALANCED core.val
      else s1
    let s3 := s2.setCore core { c with branch := [], calls := [], arrived := s.barriers core, waiting := none }
    .ok (s3.wr (PASS_CORE_STAT_STATE core.val) coreIdle).showCores)))

/-! Timer, counter and edge-detector records (R230). -/

/-- A record instruction: the index must lie in the strip's share, and a block reaches no record (R213, R258). -/
def State.onRecord (s : State) (n : Fin 4) (share : Strip → Nat × Nat) (base size : Nat) (index : BitVec 13)
    (f : PassCore → Nat → State) : State :=
  s.runOn n (fun c =>
    match s.strip? n, c.inFb with
    | some st, none =>
      let i := index.toNat
      if (share st).1 ≤ i ∧ i < (share st).1 + (share st).2 then
        if s.eccFault (base + size * i) size then .error PF_ECC else .ok (f c (base + size * i))
      else .error PF_ADDR
    | _, _ => .error PF_ADDR)

def State.onTimer (s : State) (n : Fin 4) (index : BitVec 13) (f : PassCore → Nat → State) : State :=
  s.onRecord n (fun st => (st.tBase, st.tCount)) areaT 32 index f
def State.onCounter (s : State) (n : Fin 4) (index : BitVec 13) (f : PassCore → Nat → State) : State :=
  s.onRecord n (fun st => (st.nBase, st.nCount)) areaN 16 index f
def State.onEdge (s : State) (n : Fin 4) (index : BitVec 13) (f : PassCore → Nat → State) : State :=
  s.onRecord n (fun st => (st.eBase, st.eCount)) areaE 8 index f

/-- The changing fields of a timer record (R230). -/
structure TimerRec where
  inPrev : Bool
  q : Bool
  run : Bool
  pt : Nat
  et : Nat
  lastMs : Nat
deriving DecidableEq, Repr

/-- Read a timer record. -/
def State.timer (s : State) (a : Nat) : TimerRec :=
  ⟨s.bit (a + 4) 0, s.bit (a + 4) 1, s.bit (a + 4) 2, s.ld (a + 8) 4, s.ld (a + 12) 4, s.ld (a + 16) 8⟩

/-- Write a timer record; IDENT is kept. -/
def State.putTimer (s : State) (a : Nat) (t : TimerRec) : State :=
  ((s.st (a + 4) 4 (b2n t.inPrev + 2 * b2n t.q + 4 * b2n t.run)).st (a + 8) 4 t.pt).st (a + 12) 4 t.et |>.st (a + 16) 8 t.lastMs

/-- The three timer kinds. -/
inductive TimerKind where
  | ton
  | tof
  | tp
deriving DecidableEq, Repr

/-- One evaluation of a timer, after Δ, LAST_MS and PT have been taken (R232). -/
def TimerRec.eval (k : TimerKind) (t : TimerRec) (inp : Bool) (d : Nat) : TimerRec :=
  match k with
  | .ton =>
    let u := if !inp then { t with run := false, et := 0 }
      else if !t.run then { t with run := true, et := 0 }
      else { t with et := min t.pt (t.et + d) }
    { u with q := u.run && decide (u.pt ≤ u.et) }
  | .tof =>
    if inp then { t with run := false, et := 0, q := true }
    else if t.q then
      let u := if !t.run then { t with run := true, et := 0 } else { t with et := min t.pt (t.et + d) }
      if u.pt ≤ u.et then { u with q := false, run := false } else u
    else t
  | .tp =>
    if t.run then
      let u := { t with et := min t.pt (t.et + d) }
      if u.pt ≤ u.et then { u with run := false, q := false } else u
    else if inp && !t.inPrev then
      if t.pt = 0 then { t with run := false, et := 0, q := false } else { t with run := true, et := 0, q := true }
    else if !inp then { t with et := 0 }
    else t

/-- A timer evaluation on a core (R232): IN from LA, PT from W0 clamped to 0 … 2³¹ − 1, the result to LA and W0. -/
def State.runTimer (s : State) (k : TimerKind) (core : Fin 4) (index : BitVec 13) : State :=
  s.onTimer core index (fun c a =>
    let t0 := s.timer a
    let pt := clampInt 0 (2 ^ 31 - 1) c.w0.toInt
    let t1 := TimerRec.eval k { t0 with lastMs := s.passMs, pt := pt.toNat } c.la (s.passMs - t0.lastMs)
    let t2 := { t1 with inPrev := c.la }
    (s.putTimer a t2).setCore core ({ c with la := t2.q, w0 := BitVec.ofNat 64 t2.et }.raiseFlags
      (flagOv (decide (pt ≠ c.w0.toInt)))))

/-- TON: on-delay timer (R232). -/
def execFurTon (core : Fin 4) (index : BitVec 13) (s : State) : Out :=
  .next (s.issue core (.furTon core index) (s.runTimer .ton core index))

/-- TOF: off-delay timer (R232). -/
def execFurTof (core : Fin 4) (index : BitVec 13) (s : State) : Out :=
  .next (s.issue core (.furTof core index) (s.runTimer .tof core index))

/-- TP: pulse timer (R232). -/
def execFurTp (core : Fin 4) (index : BitVec 13) (s : State) : Out :=
  .next (s.issue core (.furTp core index) (s.runTimer .tp core index))

/-- TRD (R228): LA ← Q; W0 ← ET; no evaluation. -/
def execFurTrd (core : Fin 4) (index : BitVec 13) (s : State) : Out :=
  .next (s.issue core (.furTrd core index) (s.onTimer core index (fun c a =>
    s.setCore core { c with la := (s.timer a).q, w0 := BitVec.ofNat 64 (s.timer a).et })))

/-- TRS (R228): if LA = 1 then RUN ← 0; ET ← 0; Q ← 0. -/
def execFurTrs (core : Fin 4) (index : BitVec 13) (s : State) : Out :=
  .next (s.issue core (.furTrs core index) (s.onTimer core index (fun c a =>
    (if c.la then s.putTimer a { s.timer a with run := false, et := 0, q := false } else s).setCore core c)))

/-- CV of a counter record (R230). -/
def State.cv (s : State) (a : Nat) : Int := s.ldS (a + 4) 4

/-- PV of a counter record (R230). -/
def State.pv (s : State) (a : Nat) : Int := s.ldS (a + 8) 4

/-- CTU (R233): a rising LA counts up, saturating; LA ← (CV ≥ PV). -/
def execFurCtu (core : Fin 4) (index : BitVec 13) (s : State) : Out :=
  .next (s.issue core (.furCtu core index) (s.onCounter core index (fun c a =>
    let v := if c.la && !s.bit (a + 12) 0 then min (s.cv a + 1) (2 ^ 31 - 1) else s.cv a
    ((s.stS (a + 4) 4 v).putBit (a + 12) 0 c.la).setCore core { c with la := decide (s.pv a ≤ v) })))

/-- CTD (R233): a rising LA counts down, saturating; LA ← (CV ≤ 0). -/
def execFurCtd (core : Fin 4) (index : BitVec 13) (s : State) : Out :=
  .next (s.issue core (.furCtd core index) (s.onCounter core index (fun c a =>
    let v := if c.la && !s.bit (a + 12) 1 then max (s.cv a - 1) (-(2 ^ 31)) else s.cv a
    ((s.stS (a + 4) 4 v).putBit (a + 12) 1 c.la).setCore core { c with la := decide (v ≤ 0) })))

/-- CRS (R228): if LA = 1 then CV ← 0. -/
def execFurCrs (core : Fin 4) (index : BitVec 13) (s : State) : Out :=
  .next (s.issue core (.furCrs core index)
    (s.onCounter core index (fun c a => (if c.la then s.stS (a + 4) 4 0 else s).setCore core c)))

/-- CLV (R228): if LA = 1 then CV ← PV. -/
def execFurClv (core : Fin 4) (index : BitVec 13) (s : State) : Out :=
  .next (s.issue core (.furClv core index)
    (s.onCounter core index (fun c a => (if c.la then s.stS (a + 4) 4 (s.pv a) else s).setCore core c)))

/-- CPV (R228): PV ← W0 clamped to the i32 range; OV set if clamped. -/
def execFurCpv (core : Fin 4) (index : BitVec 13) (s : State) : Out :=
  .next (s.issue core (.furCpv core index) (s.onCounter core index (fun c a =>
    let v := clampSigned 32 c.w0.toInt
    (s.stS (a + 8) 4 v).setCore core (c.raiseFlags (flagOv (decide (v ≠ c.w0.toInt)))))))

/-- CRD (R228): W0 ← CV, sign-extended; LA ← (CV ≥ PV). -/
def execFurCrd (core : Fin 4) (index : BitVec 13) (s : State) : Out :=
  .next (s.issue core (.furCrd core index) (s.onCounter core index (fun c a =>
    s.setCore core { c with w0 := BitVec.ofInt 64 (s.cv a), la := decide (s.pv a ≤ s.cv a) })))

/-- An edge evaluation (R234): FRESH takes the first input without reporting an edge. -/
def State.runEdge (s : State) (core : Fin 4) (index : BitVec 13) (edge : Bool → Bool → Bool) : State :=
  s.onEdge core index (fun c a =>
    let q := !s.bit (a + 4) 1 && edge c.la (s.bit (a + 4) 0)
    ((s.putBit (a + 4) 1 false).putBit (a + 4) 0 c.la).setCore core { c with la := q })

/-- RTRG: rising-edge detector (R234). -/
def execFurRtrg (core : Fin 4) (index : BitVec 13) (s : State) : Out :=
  .next (s.issue core (.furRtrg core index) (s.runEdge core index (fun la prev => la && !prev)))

/-- FTRG: falling-edge detector (R234). -/
def execFurFtrg (core : Fin 4) (index : BitVec 13) (s : State) : Out :=
  .next (s.issue core (.furFtrg core index) (s.runEdge core index (fun la prev => prev && !la)))

end Sys2Proof.Machine
end

