-- ==== Sys2Proof/Machine/FurrowData.lean ====
section
/-! DEFINITION. Furrow word transfer, immediates, moves and bases (R224). -/

namespace Sys2Proof.Machine

/-- A word load of z bytes into W0 or W1 (R224); `conv` widens the value read. -/
def State.wordLoad (s : State) (n : Fin 4) (toW1 : Bool) (z : Nat) (x : MemOp) (conv : Nat → Nat) : State :=
  s.runOn n (fun c =>
    match s.wordAddr n .read z x with
    | .error e => .error e
    | .ok a =>
      let v : DWord := BitVec.ofNat 64 (conv (s.ld a z))
      .ok (s.setCore n (if toW1 then { c with w1 := v } else { c with w0 := v })))

/-- A word store of z bytes of W0 (R224): an SW64 stores fresh check bits (R211); `conv` gives the bytes' value and the
flags. -/
def State.wordStore (s : State) (n : Fin 4) (z : Nat) (x : MemOp) (conv : Nat → Nat × FpFlags) : State :=
  s.runOn n (fun c =>
    match s.wordAddr n .write z x with
    | .error e => .error e
    | .ok a =>
      .ok (((s.st a z (conv c.w0.toNat).1).healWords a z).setCore n (c.raiseFlags (conv c.w0.toNat).2)))

/-- LW8U (R224): W ← byte, zero-extended. -/
def execFurLw8u (core : Fin 4) (toW1 : Bool) (x : MemOp) (s : State) : Out :=
  .next (s.issue core (.furLw8u core toW1 x) (s.wordLoad core toW1 1 x id))

/-- LW8S (R224): W ← byte, sign-extended. -/
def execFurLw8s (core : Fin 4) (toW1 : Bool) (x : MemOp) (s : State) : Out :=
  .next (s.issue core (.furLw8s core toW1 x) (s.wordLoad core toW1 1 x (fun v => ofSigned 64 (toSigned 8 v))))

/-- LW16U (R224): W ← 16 bits, zero-extended. -/
def execFurLw16u (core : Fin 4) (toW1 : Bool) (x : MemOp) (s : State) : Out :=
  .next (s.issue core (.furLw16u core toW1 x) (s.wordLoad core toW1 2 x id))

/-- LW16S (R224): W ← 16 bits, sign-extended. -/
def execFurLw16s (core : Fin 4) (toW1 : Bool) (x : MemOp) (s : State) : Out :=
  .next (s.issue core (.furLw16s core toW1 x) (s.wordLoad core toW1 2 x (fun v => ofSigned 64 (toSigned 16 v))))

/-- LW32U (R224): W ← 32 bits, zero-extended. -/
def execFurLw32u (core : Fin 4) (toW1 : Bool) (x : MemOp) (s : State) : Out :=
  .next (s.issue core (.furLw32u core toW1 x) (s.wordLoad core toW1 4 x id))

/-- LW32S (R224): W ← 32 bits, sign-extended. -/
def execFurLw32s (core : Fin 4) (toW1 : Bool) (x : MemOp) (s : State) : Out :=
  .next (s.issue core (.furLw32s core toW1 x) (s.wordLoad core toW1 4 x (fun v => ofSigned 64 (toSigned 32 v))))

/-- LW64 (R224): W ← 64 bits. -/
def execFurLw64 (core : Fin 4) (toW1 : Bool) (x : MemOp) (s : State) : Out :=
  .next (s.issue core (.furLw64 core toW1 x) (s.wordLoad core toW1 8 x id))

/-- LWF32 (R224): W ← f32 converted to binary64, exactly. -/
def execFurLwf32 (core : Fin 4) (toW1 : Bool) (x : MemOp) (s : State) : Out :=
  .next (s.issue core (.furLwf32 core toW1 x) (s.wordLoad core toW1 4 x f32to64))

/-- SW8 (R224): byte ← W0[7:0]. -/
def execFurSw8 (core : Fin 4) (x : MemOp) (s : State) : Out :=
  .next (s.issue core (.furSw8 core x) (s.wordStore core 1 x (fun v => (v, fpNone))))

/-- SW16 (R224): 16 bits ← W0[15:0]. -/
def execFurSw16 (core : Fin 4) (x : MemOp) (s : State) : Out :=
  .next (s.issue core (.furSw16 core x) (s.wordStore core 2 x (fun v => (v, fpNone))))

/-- SW32 (R224): 32 bits ← W0[31:0]. -/
def execFurSw32 (core : Fin 4) (x : MemOp) (s : State) : Out :=
  .next (s.issue core (.furSw32 core x) (s.wordStore core 4 x (fun v => (v, fpNone))))

/-- SW64 (R224): 64 bits ← W0. -/
def execFurSw64 (core : Fin 4) (x : MemOp) (s : State) : Out :=
  .next (s.issue core (.furSw64 core x) (s.wordStore core 8 x (fun v => (v, fpNone))))

/-- SWF32 (R224): f32 ← W0 rounded; OV where it rounds to infinity (R226). -/
def execFurSwf32 (core : Fin 4) (x : MemOp) (s : State) : Out :=
  .next (s.issue core (.furSwf32 core x) (s.wordStore core 4 x f64to32))

/-- LDI (R224): W0 ← imm24, sign-extended. -/
def execFurLdi (core : Fin 4) (imm : BitVec 24) (s : State) : Out :=
  .next (s.issue core (.furLdi core imm) (s.runCore core (fun c => .ok { c with w0 := imm.signExtend 64 })))

/-- LDI1 (R224): W1 ← imm24, sign-extended. -/
def execFurLdi1 (core : Fin 4) (imm : BitVec 24) (s : State) : Out :=
  .next (s.issue core (.furLdi1 core imm) (s.runCore core (fun c => .ok { c with w1 := imm.signExtend 64 })))

/-- LIH (R224): W0[47:24] ← imm24; other bits unchanged. -/
def execFurLih (core : Fin 4) (imm : BitVec 24) (s : State) : Out :=
  .next (s.issue core (.furLih core imm)
    (s.runCore core (fun c => .ok { c with w0 := BitVec.ofNat 64 (putBits c.w0.toNat 47 24 imm.toNat) })))

/-- LIT (R224): W0[63:48] ← [15:0]. -/
def execFurLit (core : Fin 4) (imm : BitVec 16) (s : State) : Out :=
  .next (s.issue core (.furLit core imm)
    (s.runCore core (fun c => .ok { c with w0 := BitVec.ofNat 64 (putBits c.w0.toNat 63 48 imm.toNat) })))

/-- SWAP (R224): W0 and W1 change places. -/
def execFurSwap (core : Fin 4) (s : State) : Out :=
  .next (s.issue core (.furSwap core) (s.runCore core (fun c => .ok { c with w0 := c.w1, w1 := c.w0 })))

/-- MOV (R224): W1 ← W0. -/
def execFurMov (core : Fin 4) (s : State) : Out :=
  .next (s.issue core (.furMov core) (s.runCore core (fun c => .ok { c with w1 := c.w0 })))

/-- LDB (R224): Bn ← [17:0] × 16; B0 is never written, since n = 0 is rejected by the program check (R241). -/
def execFurLdb (core : Fin 4) (n : BitVec 2) (imm : BitVec 18) (s : State) : Out :=
  .next (s.issue core (.furLdb core n imm) (s.runCore core (fun c => .ok (c.setBase n (BitVec.ofNat 22 (imm.toNat * 16))))))

/-- ADB (R224): Bn ← (Bn + W0) mod 2²²; B0 is never written. -/
def execFurAdb (core : Fin 4) (n : BitVec 2) (s : State) : Out :=
  .next (s.issue core (.furAdb core n)
    (s.runCore core (fun c => .ok (c.setBase n (BitVec.ofNat 22 (c.base n + c.w0.toNat))))))

end Sys2Proof.Machine
end

