-- ==== Sys2Proof/Machine/FurrowLogic.lean ====
section
/-! DEFINITION. Furrow bit logic and nested logic (R222, R223). -/

namespace Sys2Proof.Machine

/-- A bit load (R222): LA becomes f of LA and the bit. -/
def State.bitLoad (s : State) (n : Fin 4) (x : MemOp) (f : Bool → Bool → Bool) : State :=
  s.runOn n (fun c =>
    match s.bitAddr n .read x with
    | .error e => .error e
    | .ok (a, k) => .ok (s.setCore n { c with la := f c.la (s.bit a k) }))

/-- A bit store (R222): the bit takes what f gives from LA; none means no access at all. -/
def State.bitStore (s : State) (n : Fin 4) (x : MemOp) (f : Bool → Option Bool) : State :=
  s.runOn n (fun c =>
    match f c.la with
    | none => .ok (s.setCore n c)
    | some v =>
      match s.bitAddr n .write x with
      | .error e => .error e
      | .ok (a, k) => .ok ((s.putBit a k v).setCore n c))

/-- The operations of nested logic applied as (v op LA) (R223). -/
def nestOp (op : Nat) (v la : Bool) : Bool :=
  match op with
  | 0 => v && la
  | 1 => v && !la
  | 2 => v || la
  | 3 => v || !la
  | 4 => v != la
  | 5 => v != !la
  | _ => v

/-- LD (R222): LA ← bit. -/
def execFurLd (core : Fin 4) (x : MemOp) (s : State) : Out :=
  .next (s.issue core (.furLd core x) (s.bitLoad core x (fun _ b => b)))

/-- LDN (R222): LA ← NOT bit. -/
def execFurLdn (core : Fin 4) (x : MemOp) (s : State) : Out :=
  .next (s.issue core (.furLdn core x) (s.bitLoad core x (fun _ b => !b)))

/-- AND (R222): LA ← LA AND bit. -/
def execFurAnd (core : Fin 4) (x : MemOp) (s : State) : Out :=
  .next (s.issue core (.furAnd core x) (s.bitLoad core x (fun la b => la && b)))

/-- ANDN (R222): LA ← LA AND NOT bit. -/
def execFurAndn (core : Fin 4) (x : MemOp) (s : State) : Out :=
  .next (s.issue core (.furAndn core x) (s.bitLoad core x (fun la b => la && !b)))

/-- OR (R222): LA ← LA OR bit. -/
def execFurOr (core : Fin 4) (x : MemOp) (s : State) : Out :=
  .next (s.issue core (.furOr core x) (s.bitLoad core x (fun la b => la || b)))

/-- ORN (R222): LA ← LA OR NOT bit. -/
def execFurOrn (core : Fin 4) (x : MemOp) (s : State) : Out :=
  .next (s.issue core (.furOrn core x) (s.bitLoad core x (fun la b => la || !b)))

/-- XOR (R222): LA ← LA XOR bit. -/
def execFurXor (core : Fin 4) (x : MemOp) (s : State) : Out :=
  .next (s.issue core (.furXor core x) (s.bitLoad core x (fun la b => la != b)))

/-- XORN (R222): LA ← LA XOR NOT bit. -/
def execFurXorn (core : Fin 4) (x : MemOp) (s : State) : Out :=
  .next (s.issue core (.furXorn core x) (s.bitLoad core x (fun la b => la != !b)))

/-- ST (R222): bit ← LA. -/
def execFurSt (core : Fin 4) (x : MemOp) (s : State) : Out :=
  .next (s.issue core (.furSt core x) (s.bitStore core x (fun la => some la)))

/-- STN (R222): bit ← NOT LA. -/
def execFurStn (core : Fin 4) (x : MemOp) (s : State) : Out :=
  .next (s.issue core (.furStn core x) (s.bitStore core x (fun la => some (!la))))

/-- SET (R222): the bit is set if LA is 1; no access when LA is 0. -/
def execFurSet (core : Fin 4) (x : MemOp) (s : State) : Out :=
  .next (s.issue core (.furSet core x) (s.bitStore core x (fun la => if la then some true else none)))

/-- RST (R222): the bit is cleared if LA is 1; no access when LA is 0. -/
def execFurRst (core : Fin 4) (x : MemOp) (s : State) : Out :=
  .next (s.issue core (.furRst core x) (s.bitStore core x (fun la => if la then some false else none)))

/-- PUSH (R223): (LA, op) is pushed; PF_STACK with 16 entries. -/
def execFurPush (core : Fin 4) (op : BitVec 3) (s : State) : Out :=
  .next (s.issue core (.furPush core op) (s.runCore core (fun c =>
    if 16 ≤ c.branch.length then .error PF_STACK else .ok { c with branch := (c.la, op.toNat) :: c.branch })))

/-- POP (R223): LA ← v op LA; PF_STACK with no entry. -/
def execFurPop (core : Fin 4) (s : State) : Out :=
  .next (s.issue core (.furPop core) (s.runCore core (fun c =>
    match c.branch with
    | [] => .error PF_STACK
    | (v, op) :: r => .ok { c with branch := r, la := nestOp op v c.la })))

/-- NOT (R223): LA ← NOT LA. -/
def execFurNot (core : Fin 4) (s : State) : Out :=
  .next (s.issue core (.furNot core) (s.runCore core (fun c => .ok { c with la := !c.la })))

/-- SETLA (R223): LA ← 1. -/
def execFurSetla (core : Fin 4) (s : State) : Out :=
  .next (s.issue core (.furSetla core) (s.runCore core (fun c => .ok { c with la := true })))

/-- CLRLA (R223): LA ← 0. -/
def execFurClrla (core : Fin 4) (s : State) : Out :=
  .next (s.issue core (.furClrla core) (s.runCore core (fun c => .ok { c with la := false })))

/-- PEEK (R223): LA ← v of the top entry, the stack unchanged; PF_STACK with no entry. -/
def execFurPeek (core : Fin 4) (s : State) : Out :=
  .next (s.issue core (.furPeek core) (s.runCore core (fun c =>
    match c.branch with
    | [] => .error PF_STACK
    | (v, _) :: _ => .ok { c with la := v })))

/-- DROP (R223): the top entry is discarded; PF_STACK with none. -/
def execFurDrop (core : Fin 4) (s : State) : Out :=
  .next (s.issue core (.furDrop core) (s.runCore core (fun c =>
    match c.branch with
    | [] => .error PF_STACK
    | _ :: r => .ok { c with branch := r })))

end Sys2Proof.Machine
end

