-- ==== Sys2Proof/Machine/Sow.lean ====
section
/-! DEFINITION. Sowing up to UNPACK (R41 to R61): the stages, the checks of a slot, the boot measurement, the sections and
the factory default. Each command of this chapter is the completion of a stage's work. -/

namespace Sys2Proof.Machine

/-! The block-specific codes of R54. -/

def E_NO_IMAGE : Nat := 0x10
def E_FORMAT : Nat := 0x11
def E_LENGTH : Nat := 0x12
def E_BINDING : Nat := 0x13
def E_DIRECTORY : Nat := 0x14
def E_SECTION : Nat := 0x15

/-- The SURVEYOR block's code of a microcode of another major version (R137). -/
def E_UC_VERSION : Nat := 0x12

/-! Section types (R49). -/

def secFw : Nat := 0x0001
def secSteward : Nat := 0x0002
def secSurveyor : Nat := 0x0003
def secSafe : Nat := 0x0010
def secPreset : Nat := 0x0011
def secAtlas : Nat := 0x0020
def secGaz : Nat := 0x0021
def secProgram : Nat := 0x0030
def secLibrary : Nat := 0x0031
def secTariffs : Nat := 0x0040
def secKeys : Nat := 0x0050
def secGleaner : Nat := 0x0060
def secSetpoints : Nat := 0x0070

/-- The types that an image must hold. -/
def secRequired : List Nat := [secFw, secSteward, secSurveyor, secSafe, secPreset, secAtlas, secGaz, secProgram]

/-- The types that R49 names. -/
def secKnown : List Nat := secRequired ++ [secLibrary, secTariffs, secKeys, secGleaner, secSetpoints]

/-- SECTION of CP_BOOT_DETAIL where the failure is not section-specific. -/
def secNone : Nat := 0xFFFF

/-- Sowing is at a stage. -/
def State.atStage (s : State) (n : Nat) : Bool := s.boot.aon && !s.boot.porst && s.rd CP_BOOT_STAT_STAGE == n

/-! The boot measurement (R60, R439). -/

/-- One entry of the chain, by its type, the length of its content and the digest of it. -/
def chainStep (m : List Byte) (t len : Nat) (digest : List Byte) : List Byte :=
  shake256 (m ++ leBytes 2 t ++ leBytes 4 len ++ digest) 64

/-- The digest of the boot ROM (R439). -/
def romDigest : List Byte :=
  beBytes 16 0x7C3E91A40B5D62F8E9174C20A3D65B8E ++ beBytes 16 0x19F2C07A8E43D65B2A91F04C67BE3D18 ++
    beBytes 16 0xB54A0E7DC39218F64D2BA07E95C16E34 ++ beBytes 16 0x2E8BF61903A7C45D9B621FE074D8A5C3

/-- The digest of the ROM default image (R439). -/
def defaultDigest : List Byte :=
  beBytes 16 0x5D17A8C43F920E6BB74D29F18C05E3A6 ++ beBytes 16 0xC90E4B721AD6F53806E97C14B2A85F3D ++
    beBytes 16 0x83F625BDE04A917C3D58AB06F2C94E71 ++ beBytes 16 0x0A6CD93E5271B8F4E16D04A93BC78F52

/-- m after entry 1. -/
def romMeasure : List Byte := chainStep (List.replicate 64 0) 0xFF00 262144 romDigest

/-- The closed chain of a defaulted unit. -/
def defaultMeasure : List Byte := chainStep romMeasure 0xFF02 61440 defaultDigest

/-! The first stages. -/

/-- RESET_EXIT (R41, R42): the PLLs have locked but for HEAD, whose clock the partner's link gives. While TEST_MODE reads high
the unit does not leave reset (R421). -/
def execResetExit (s : State) : Out :=
  .next (
    if s.atStage 0 && !s.boot.testMode then (s.stopClock 6).setStage 1 else s)

/-- The records of the key store area taken into the security core. -/
def State.loadKeys (s : State) : State :=
  let a := s.keys.area
  let s1 := (s.wr64 KS_CTR_LO KS_CTR_HI a.ctr).wr KS_FLOOR_FLOOR a.floor
  { s1 with
    keys := { s1.keys with slots := a.slots, owner := a.owner, stored := true },
    stations := { s1.stations with revoked := a.revoked } }

/-- SECURITY_ROM (R41, R60, R377): the life-cycle state is read, a pending transition is completed, and the first entry of
the chain is made. -/
def execSecurityRom (s : State) : Out :=
  .next (
    if s.atStage 1 then
      let s1 := match s.keys.area.target with
        | some (t, owner) => s.loadKeys.transition t owner
        | none => s
      ((s1.setKeys { s1.keys with measure := romMeasure, stored := false }).showKeys).setStage 2
    else s)

/-- The archive indices found again after a loss of VDD_AON (R414): the first record of every sector is read, then every
record of the sector whose first record is newest. While WR is 0 nothing has been archived, so that a scan finds nothing
unless the index was lost. -/
def State.archScan (s : State) : State :=
  let seqAt (pos : Nat) : Option Nat :=
    let a := slotBase (pos / s.archPart) + s.norHalf + 128 * (pos % s.archPart)
    let q := s.ld (a + 0x68) 4
    if s.norAnswers (pos / s.archPart) && s.ld a 4 == 0x56435241 && q % s.archCap == pos &&
        s.ld (a + 0x7C) 4 == crc32c (s.bytes a 0x7C) then some q else none
  if s.rd HR_ARCH_WR_SEQ ≠ 0 ∨ s.archCap = 0 then s
  else
    let firsts := (List.range (s.archCap / 512)).filterMap (fun k => seqAt (512 * k))
    match firsts.max? with
    | none => s
    | some newest =>
      let sector := newest % s.archCap / 512
      let found := firsts ++ (List.range 512).filterMap (fun k => seqAt (512 * sector + k))
      (s.wr HR_ARCH_WR_SEQ (found.max?.getD 0 + 1)).wr HR_ARCH_ACK_SEQ (found.min?.getD 0)

/-- The key store at NVM_BRINGUP (R392): its records where retention device 0 answers and they hold, else nothing. -/
def State.bringKeys (s : State) (storeOk : Bool) : State :=
  if !s.retained then s
  else if storeOk then s.loadKeys
  else
    let s1 := (s.setKeys { s.keys with stored := true }).wr KS_STAT_STORE_FAULT 1
    (s1.recordFault 1 bKeyStore 0 0).raiseVec true 0

/-- NVM_BRINGUP (R41, R46, R392, R414): what the xSPI devices answer, each as in CP_XSPI_STAT, and whether the copies of
counter and floor in the key store area are valid. -/
def execNvmBringup (nor0 nor1 ret0 ret1 : Byte) (storeOk : Bool) (s : State) : Out :=
  .next (
    if s.atStage 2 then
      let s1 := (((s.wr CP_XSPI_STAT_XN0 nor0.toNat).wr CP_XSPI_STAT_XN1 nor1.toNat).wr CP_XSPI_STAT_XR0 ret0.toNat).wr
        CP_XSPI_STAT_XR1 ret1.toNat
      let s2 := s1.wr CP_RETAIN_STAT_RET_PRESENT (ret0.toNat % 2 + 2 * (ret1.toNat % 2))
      let s3 := if s2.retained then s2 else (s2.wr CP_RETAIN_FLAGS_RETAIN_REDUCED 1).recordFault 1 bClockPower 0 0
      let s4 := (s3.bringKeys storeOk).archScan
      let s5 := s4.raise HR_ARCH_STAT_ERASE_MAX ((s4.gleaner.archErases.map (fun e => e.2)).foldl max 0)
      ({ s5 with host := { s5.host with bringupDone := true } }).showKeys.setStage 3
    else s)

/-- SDRAM_INIT (R41): training and the lowest 1 GiB are done; the fitted size is 4 to 16 GiB. -/
def execSdramInit (sizeGib : Nat) (s : State) : Out :=
  .next (
    if s.atStage 3 && within 4 16 sizeGib then
      ((s.wr CP_DDR_STAT_SIZE_GIB sizeGib).wr CP_DDR_STAT_TRAINED 1).setStage 4
    else s)

/-- SDRAM_ECC_INIT_COMPLETE (R42). -/
def execSdramEccInitComplete (s : State) : Out :=
  .next (if s.rd CP_DDR_STAT_TRAINED = 1 then s.wr CP_DDR_STAT_ECC_DONE 1 else s)

/-! The image in the staging area (R59). -/

/-- Where the image of the slot being tried stands. -/
def State.imageBase (s : State) : Nat := aSdram + s.sdramSize - 0xC000000

/-- The image of the slot being tried. -/
def State.image (s : State) : Sec := ⟨s, s.imageBase, s.boot.imageLen⟩

/-- The host image is being tried (R58). -/
def State.triesHost (s : State) : Bool := s.boot.fromHost && s.boot.slot == 0

/-- The place and the size of the slot being tried; a host image may fill the region that names it. -/
def State.slotPlace (s : State) : Nat × Nat :=
  if s.triesHost then s.hostImage else (slotBase s.boot.slot, min s.norHalf 0x8000000)

/-- A directory entry (R48). -/
structure DirEntry where
  type : Nat
  fmt : Nat
  flags : Nat
  off : Nat
  len : Nat
  rest : Nat
deriving DecidableEq, Repr

/-- The directory of an image. -/
def Sec.directory (v : Sec) : List DirEntry :=
  (List.range (v.u 0x40 2)).map (fun k =>
    let d := 0x100 + 16 * k
    ⟨v.u d 2, v.u (d + 2) 1, v.u (d + 3) 1, v.u (d + 4) 4, v.u (d + 8) 4, v.u (d + 0xC) 4⟩)

/-- The entry of a type. -/
def Sec.entry? (v : Sec) (type : Nat) : Option DirEntry := v.directory.find? (fun e => e.type == type)

/-- A section of an image. -/
def Sec.part (v : Sec) (e : DirEntry) : Sec := ⟨v.s, v.base + e.off, e.len⟩

/-- The bytes of a section. -/
def Sec.all (v : Sec) : List Byte := v.s.bytes v.base v.len

/-! The checks of R54, steps 2 to 10. -/

/-- IMG_LEN within R47. -/
def imgLenOk (len slot : Nat) : Bool := len % 64 == 0 && decide (4096 ≤ len) && decide (len ≤ slot)

/-- Step 3. -/
def Sec.headerOk (v : Sec) : Bool :=
  v.u 4 2 == 3 && v.u 6 2 == 0x100 && v.u 0x44 4 == 0x100 && decide (v.u 0x42 2 < 8) && v.u 0x42 2 % 4 != 3 && v.zero 0x48 184

/-- Step 6. -/
def Sec.bindingOk (v : Sec) : Bool :=
  v.zero 0x20 32 || v.s.bytes (v.base + 0x20) 32 == shake256 identityPublic 32

/-- Two sections share no byte. -/
def DirEntry.apart (a b : DirEntry) : Bool := decide (a.off + a.len ≤ b.off) || decide (b.off + b.len ≤ a.off)

/-- No two entries of a directory overlap. -/
def allApart : List DirEntry → Bool
  | [] => true
  | e :: es => es.all e.apart && allApart es

/-- Step 9 (R48, R49, R53). -/
def Sec.directoryOk (v : Sec) : Bool :=
  let n := v.u 0x40 2
  let es := v.directory
  decide (1 ≤ n) && decide (n ≤ 64) &&
    es.all (fun e => decide (e.flags ≤ 1) && e.rest == 0 && e.off % 64 == 0 && decide (0x100 + 16 * n ≤ e.off) &&
      decide (1 ≤ e.len) && decide (e.off + e.len + 128 ≤ v.len) && (secKnown.contains e.type || e.flags == 1)) &&
    allApart es && noRepeat (es.map (fun e => e.type + 1)) && secRequired.all (fun t => es.any (fun e => e.type == t)) &&
    v.zero (v.len - 14) 10

/-- The 14 bytes at the end of a firmware section are 0 (R50). -/
def Sec.fwPadded (v : Sec) (type : Nat) : Bool :=
  match v.entry? type with
  | none => false
  | some e => decide (128 ≤ e.len) && (v.part e).zero (e.len - 14) 14

/-- A list of checks in order: the code and the section of the first that fails. -/
def firstFailAt : List (Bool × Nat × Nat) → Option (Nat × Nat)
  | [] => none
  | c :: cs => if c.1 then firstFailAt cs else some c.2

/-- The public key that signs seed images in the life-cycle state (R53); none in DECOMMISSIONED. -/
def State.seedKey (s : State) : List Byte :=
  if s.keys.lc = 0 then (List.range 57).map Config.manufacturingKey else if s.keys.lc = 3 then [] else s.keys.owner

/-- The signature of an image's trailer verifies (R53). -/
def State.imageSigned (s : State) (v : Sec) : Bool :=
  edVerify s.seedKey "KEIVIX-SEED" (shake256 (v.s.bytes v.base (v.len - 128)) 64) (v.s.bytes (v.base + v.len - 128) 114)

/-- The signature of a firmware section's trailer verifies (R50), by the Nalxis firmware key. -/
def Sec.fwSigned (v : Sec) (type : Nat) : Bool :=
  match v.entry? type with
  | none => false
  | some e =>
    let p := v.part e
    edVerify ((List.range 57).map Config.firmwareKey) "KEIVIX-FW" (shake256 (v.s.bytes p.base (e.len - 128)) 64)
      (v.s.bytes (p.base + e.len - 128) 114)

/-- Steps 2 to 10 of R54: the code of the first that fails and the section it names. -/
def State.slotCheck (s : State) : Option (Nat × Nat) :=
  let v := s.image
  firstFailAt [
    (v.u 0 4 == 0x4453584B, E_NO_IMAGE, secNone), (v.headerOk, E_FORMAT, secNone),
    (imgLenOk (v.u 8 4) s.slotPlace.2, E_LENGTH, secNone),
    (v.u (v.len - 4) 4 == crc32c (s.bytes v.base (v.len - 4)), E_CHECKWORD, secNone), (v.bindingOk, E_BINDING, secNone),
    (decide (s.rd KS_FLOOR_FLOOR ≤ v.u 0xC 4), E_COUNTER, secNone), (s.imageSigned v, E_SIGNATURE, secNone),
    (v.directoryOk, E_DIRECTORY, secNone), (v.fwPadded secFw && v.fwSigned secFw, E_SIGNATURE, secFw),
    (v.fwPadded secSteward && v.fwSigned secSteward, E_SIGNATURE, secSteward)]

/-! Outcomes (R54, R55, R57). -/

/-- The outcome of the slot being tried. -/
def State.slotOutcome (s : State) (code sec own : Nat) : State :=
  if s.boot.slot = 0 then
    ((s.wr CP_BOOT_STAT_SLOT_A_CODE code).wr CP_BOOT_DETAIL_A_SECTION_CODE own).wr CP_BOOT_DETAIL_A_SECTION sec
  else ((s.wr CP_BOOT_STAT_SLOT_B_CODE code).wr CP_BOOT_DETAIL_B_SECTION_CODE own).wr CP_BOOT_DETAIL_B_SECTION sec

/-- The factory default runs (R55, R57, R60, R250). -/
def State.runDefault (s : State) : State :=
  let a := s.rd CP_BOOT_STAT_SLOT_A_CODE
  let s1 := (((s.wr CP_BOOT_STAT_SEED_DEFAULTED 1).wr CP_BOOT_STAT_SLOT_USED 0).wr PASS_MODE_STAT_STOP_CAUSE
    stopDefaulted).setKeys { s.keys with measure := defaultMeasure, closed := true }
  (s1.showKeys.setStage 0xA).startFault 3 bClockPower a (a + 256 * s.rd CP_BOOT_STAT_SLOT_B_CODE)

/-- The attempt at a slot has failed (R55): slot B is tried after slot A, with the chain restarted. -/
def State.failSlot (s : State) (code sec own : Nat) : State :=
  let s1 := s.slotOutcome code sec own
  if s.boot.slot = 0 then
    ((s1.setBoot { s1.boot with slot := 1 }).setKeys { s1.keys with
      measure := romMeasure, closed := false, signedOnly := false, rollback := 0, sown := [] }).showKeys.setStage 4
  else s1.runDefault

/-- NOR_IDENT_TIMEOUT (R45): the device has not answered within 1 ms; a slot of it being read fails. -/
def execNorIdentTimeout (device : Fin 2) (s : State) : Out :=
  .next (
    if within 2 4 (s.rd CP_BOOT_STAT_STAGE) && s.boot.aon && !s.boot.porst then
      let s1 := if device = 0 then s.wr CP_XSPI_STAT_XN0 0 else s.wr CP_XSPI_STAT_XN1 0
      if s.atStage 4 && !s.triesHost && s.boot.slot == device.val then s1.failSlot E_TIMEOUT secNone 0 else s1
    else s)

/-- SLOT_READ (R53, R54 step 1, R58, R59): the slot streams into the staging area, as long as its header says where that is
an image length; no slot is read in DECOMMISSIONED. -/
def execSlotRead (s : State) : Out :=
  .next (
    if !s.atStage 4 then s
    else if s.keys.lc = 3 then
      let s1 := (s.setBoot { s.boot with slot := 0 }).slotOutcome E_STATE secNone 0
      ((s1.setBoot { s1.boot with slot := 1 }).slotOutcome E_STATE secNone 0).runDefault
    else if !s.triesHost && !s.norAnswers s.boot.slot then s.failSlot E_TIMEOUT secNone 0
    else
      let (a, size) := s.slotPlace
      let len := s.ld (a + 8) 4
      let n := if imgLenOk len size then len else 0x100
      let s1 := (s.clearMem s.imageBase 0x8000000).fill s.imageBase (s.bytes a n)
      (s1.setBoot { s1.boot with imageLen := n }).setStage 5)

/-- VERIFY (R54, steps 2 to 10). -/
def execVerify (_imageSig _secSig _stewardSig : Computed) (s : State) : Out :=
  .next (
    if !s.atStage 5 then s
    else match s.slotCheck with
      | some (code, sec) => s.failSlot code sec 0
      | none =>
        (s.setBoot { s.boot with prehash := shake256 (s.bytes s.imageBase (s.boot.imageLen - 128)) 64 }).setStage 6)

/-- FIRMWARE_START (R60, R61): the chain takes its remaining entries and closes. -/
def execFirmwareStart (s : State) : Out :=
  .next (
    if !s.atStage 6 then s
    else
      let v := s.image
      let m := [secFw, secSteward, secSurveyor].foldl (fun m t =>
        match v.entry? t with
        | some e => chainStep m t e.len (shake256 (v.part e).all 64)
        | none => m) s.keys.measure
      let m1 := chainStep m 0xFF01 (s.boot.imageLen - 128) s.boot.prehash
      ((s.setKeys { s.keys with
        measure := m1, closed := true, signedOnly := bitOf (v.u 0x42 2) 2, rollback := v.u 0xC 4 }).showKeys).setStage 7)

/-! REG_PRESET (R44, R52). -/

/-- The steward's presets may not reach a register (R52). -/
def presetBarred (off : Nat) : Bool :=
  blockOf off == bKeyStore || blockOf off == bDebug ||
    (decide (CP_BOOT_STAT ≤ off) && decide (off ≤ CP_CTR_RESERVE_HI) && off != CP_RETAIN_CFG)

/-- Blocks are stopped while sowing, so that a start bit set now starts its block at the end of RESTORE. -/
def startsLater (r : RegRow) : Bool :=
  r.base == LOOP_CTL 0 || r.base == FP_CTL 0 || r.base == CB_CTL 0 || r.base == MT_PLS_CFG 0

/-- A write of REG_PRESET in force. -/
def State.putPreset (s : State) (i : Intent) : State :=
  let r := i.t.row
  let off := i.t.off
  let s1 := (s.mergeReg ⟨off, i.clr, 0, 0⟩).mergeReg ⟨off, i.chg, i.next, 0⟩
  let s2 := match laneOf? off with
    | some n => s1.laneHold n
    | none => s1
  let s2 := if off = PAIR_CFG then s2.showHeld else s2
  let s3 := if r.base == LOOP_CTL 0 && rises (s.reg off) (s2.reg off) 2 then s2.holdSet ((off - LOOP_CTL 0) / 0x400) else s2
  if startsLater r then s3 else s3.landed mSteward r off (s.reg off) i.act.toNat

/-- One record of REG_PRESET: the state after it, or the code of its rejection. -/
def State.preset (s : State) (off : Nat) (w : Word) : Except Nat State :=
  let place := widthCodes true 32 off ++ s.placeCodes mSteward off true ++ broken [(!presetBarred off, E_SECURE)]
  match pickCode place with
  | some c => .error c
  | none =>
    if blockOf off = bMailbox then
      match dirOfData? off, dirOfStat? off with
      | some d, _ =>
        if d.sender ≠ mSteward then .error E_WRONG_END else if s.mbBusy d then .error E_BUSY else .ok (s.mbAccept d w)
      | none, some d =>
        if d.sender ≠ mSteward ∧ d.receiver ≠ mSteward then .error E_WRONG_END else .ok (s.mailboxWrite mSteward off w)
      | none, none => .ok s
    else if off = ACCESS_UNLOCK then (if w = 0x5EEDC0DE then .ok (s.unlockWrite mSteward w) else .error E_LOCKED)
    else
      let is := ((target? off).toList).map (fun t => s.intent t w)
      match pickCode (s.writeCodes mSteward true true is) with
      | some c => .error c
      | none => .ok (s.each is State.putPreset)

/-- The records of REG_PRESET from the k-th on, in list order. -/
def State.presets (v : Sec) : Nat → Nat → State → Except (Nat × Nat) State
  | _, 0, s => .ok s
  | k, n + 1, s =>
    match s.preset (v.u (8 * k) 4) (BitVec.ofNat 32 (v.u (8 * k + 4) 4)) with
    | .error c => .error (c, v.u (8 * k) 4)
    | .ok t => State.presets v (k + 1) n t

/-! KEY_POLICY (R382). -/

/-- The policy in a record. -/
def Sec.policy (v : Sec) (k : Nat) : Nat × KeySlot :=
  let o := 16 * k
  let derived := v.u (o + 2) 1 == 1
  (v.u o 1, { noSlot with
    policy := true, type := v.u (o + 1) 1, derived := derived, parent := if derived then v.u (o + 3) 1 else 0xFF,
    use := v.u (o + 4) 2, bound := v.u (o + 6) 1 == 1, label := v.s.bytes (v.base + o + 8) 8 })

/-- The fields of a policy record lie in their ranges. -/
def Sec.policyOk (v : Sec) (k : Nat) : Bool :=
  let o := 16 * k
  let type := v.u (o + 1) 1
  let use := v.u (o + 4) 2
  within 2 63 (v.u o 1) && within 1 3 type && decide (v.u (o + 2) 1 ≤ 1) && decide (use < 16) &&
    (!bitOf use 0 || type == 1) && (!bitOf use 1 || type == 2) && (!bitOf use 2 || type == 3) && (!bitOf use 3 || type == 2) &&
    decide (v.u (o + 6) 1 ≤ 1) && v.zero (o + 7) 1

/-- The policies of a section, or the code it fails with. -/
def Sec.policies (v : Sec) : Except Nat (List (Nat × KeySlot)) :=
  let n := v.len / 16
  let ps := (List.range n).map v.policy
  let parentOk (p : Nat × KeySlot) : Bool :=
    !p.2.derived || p.2.parent == 0xFF ||
      (decide (p.2.parent < p.1) && ps.any (fun q => q.1 == p.2.parent && q.2.type == 2 && bitOf q.2.use 3))
  match pickCode (broken [
    (decide (v.len % 16 = 0) && decide (n ≤ 62) && (List.range n).all v.policyOk, E_RANGE),
    (ps.all parentOk && noRepeat (ps.map (fun p => p.1 + 1)), E_CONFLICT)]) with
  | some c => .error c
  | none => .ok ps

/-! SURVEYOR_UC (R137, R139, R140). -/

/-- A point source names something that exists. -/
def sourceInRange (source : Nat) : Bool :=
  let i := source % 4096
  match source / 4096 with
  | 0 => decide (i < 32)
  | 1 => decide (i < 16)
  | 2 => decide (i < 32)
  | 3 => decide (i < 2048)
  | 4 => decide (i / 16 < 16) && decide (i % 16 < 4)
  | 5 => true
  | _ => false

/-- A point record is well formed. -/
def Sec.pointOk (v : Sec) (o : Nat) : Bool :=
  sourceInRange (v.u o 2) && decide (v.u (o + 2) 1 ≤ 4) && v.zero (o + 3) 1 && f32Ok (v.u (o + 4) 4) && r32 (v.u (o + 4) 4) != 0 &&
    f32Ok (v.u (o + 8) 4) && f32Ok (v.u (o + 0xC) 4) && decide (0 < r32 (v.u (o + 0xC) 4))

/-- Where the point table of a section begins. -/
def Sec.pointBase (v : Sec) : Nat := 0x40 + v.u 4 4

/-- The checks of a SURVEYOR_UC section. -/
def Sec.surveyorCodes (v : Sec) : List Nat :=
  let n := v.u 8 2
  broken [
    (decide (64 ≤ v.len) && v.u 4 4 % 16 == 0 && within 16 262144 (v.u 4 4) && decide (n ≤ 4096) && v.zero 0xA 54 &&
      decide (v.len = 64 + v.u 4 4 + 16 * n) && (List.range n).all (fun k => v.pointOk (v.pointBase + 16 * k)), E_RANGE),
    (v.u 2 2 == 3, E_UC_VERSION)]

/-- The microcode of a section in the store of every surveyor, its point table in force, and its version shown (R137). -/
def State.sowPoints (s : State) (v : Sec) : State :=
  let pt (k : Nat) : Point :=
    let o := v.pointBase + 16 * k
    ⟨v.u o 2, v.u (o + 2) 1, v.u (o + 4) 4, v.u (o + 8) 4, v.u (o + 0xC) 4⟩
  let s1 : State := { s with
    points := (List.range (v.u 8 2)).map pt, survey := { s.survey with code := v.s.bytes (v.base + 0x40) (v.u 4 4) } }
  s1.each (List.range 8) (fun t r => t.wr (SV_STAT_UC_MAJOR r) (v.u 2 2))

/-! GAZETTEER (R132). -/

/-- The entries of a section sown; counters wait for RESTORE (R69). An entry with STATION_ADDR 0 is unused and its place holds
nothing. DESIGN CHOICE (assumption 89). -/
def State.sowGaz (s : State) (v : Sec) : State :=
  (s.clearMem (gazAddr 0) 0x400000).each (List.range (v.u 0 2)) (fun t k =>
    let bs := v.s.bytes (v.base + 16 + 256 * k) 256
    if recU bs 0 8 = 0 then t else t.newEntry k bs)

/-- The checks of a section, and the state it is sown into. -/
def State.gazSection (s : State) (v : Sec) : List Nat × State :=
  let n := v.u 0 2
  let form := decide (16 ≤ v.len) && within 1 16384 n && v.zero 2 14 && decide (v.len = 16 + 256 * n)
  if !form then ([E_RANGE], s)
  else
    let rec_ (k : Nat) : List Byte := v.s.bytes (v.base + 16 + 256 * k) 256
    let t := s.sowGaz v
    (broken [((List.range n).all (fun k => recU (rec_ k) 0 8 == 0 || entryOk (rec_ k)), E_RANGE)] ++ t.gazRules ++
      (t.atlas 0).gazCodes t none, t.showGaz)

/-! The sections in order (R56). -/

/-- A result from a list of codes. -/
def orCode (cs : List Nat) (s : State) : Except Nat State :=
  match pickCode cs with
  | some c => .error c
  | none => .ok s

/-- A section that was sown with the program: the library, if the image has one. -/
def State.library? (s : State) : Option Sec := (s.image.entry? secLibrary).map (fun e => s.image.part e)

/-- The blocks, instances and code length of the image's library. -/
def State.libraryParts (s : State) : Except Nat (List FbBlock × List FbInst × Nat) :=
  match s.library? with
  | none => .ok ([], [], 0)
  | some v => v.library

/-- SAFE_VALUES (R51, R56). -/
def State.sowSafe (s : State) (v : Sec) : Except Nat State :=
  if v.len ≠ 112 ∨ (List.range 64).any (fun n => blockGpio v.all n == 3) then .error E_RANGE
  else .ok (s.setOut { s.outputs with safe := v.all }).allSafe

/-- PASS_PROGRAM with the library beside it (R235, R239, R255). -/
def State.sowPass (s : State) (v : Sec) : Except Nat State :=
  match s.libraryParts with
  | .error c => .error c
  | .ok (bs, is, n) =>
    match v.program bs is n with
    | .error c => .error c
    | .ok p =>
      let s1 := match s.library? with
        | some l => s.loadLibrary l 0
        | none => s
      .ok ((s1.loadCode v p 0).sowProgram p)

/-- A section of the image checked and unpacked by its owner; `v` is absent where the image has no such section. -/
def State.unpackSection (s : State) (type : Nat) (v : Option Sec) : Except Nat State :=
  match v with
  | none =>
    .ok (if type = secKeys then s.setKeys { s.keys with sown := [] }
      else if type = secGleaner then s.sowDefs none
      else if type = secSetpoints then s.sowTable 0 []
      else s)
  | some v =>
    if type = secSafe then s.sowSafe v
    else if type = secKeys then v.policies.map (fun ps => s.setKeys { s.keys with sown := ps })
    else if type = secSurveyor then (orCode v.surveyorCodes s).map (fun t => t.sowPoints v)
    else if type = secAtlas then
      if !v.atlasHeaderOk then .error E_RANGE
      else
        let t := (s.fillBank v 0).wr ATLAS_STAT_IN_FORCE 0
        orCode ((t.atlas 0).codes none) t.showAtlas
    else if type = secGaz then orCode (s.gazSection v).1 (s.gazSection v).2
    else if type = secGleaner then
      (match v.gleanerDefs with
       | some c => .error c
       | none => .ok (s.sowDefs (some v)))
    else if type = secTariffs then
      if v.tariffsOk then .ok (s.putTariffs (v.u 0 2) (v.s.bytes (v.base + 16) (16 * v.u 0 2))) else .error E_RANGE
    else if type = secSetpoints then
      (match v.setpointsCheck 0 with
       | some c => .error c
       | none => .ok (s.sowTable 0 ((List.range (v.len / 8)).map (fun k => (v.u (8 * k) 1, v.u (8 * k + 2) 2, v.u (8 * k + 4) 4)))))
    else if type = secLibrary then v.library.map (fun _ => s)
    else s.sowPass v

/-- The order of R56. -/
def unpackOrder : List Nat :=
  [secSafe, secPreset, secKeys, secSurveyor, secAtlas, secGaz, secGleaner, secTariffs, secSetpoints, secLibrary, secProgram]

/-- What fails a slot while unpacking: code, section, and the access that REG_PRESET had rejected. -/
structure SowFail where
  code : Nat
  sec : Nat
  access : Option Nat

/-- A section of the image, with the format version its chapter gives (a wrong one is out of range), and the rule of R364
after it; the section that makes the warm set exceed 2 MiB fails (R63). -/
def State.unpackOne (s : State) (type : Nat) : Except SowFail State :=
  let e := s.image.entry? type
  let v := e.map (fun e => s.image.part e)
  let r : Except SowFail State :=
    if (e.map (fun e => decide (e.fmt ≠ 1) && type != secSafe && type != secPreset)).getD false then
      .error ⟨E_RANGE, type, none⟩
    else if type = secPreset then
      match v with
      | none => .ok s
      | some v =>
        if v.len % 8 ≠ 0 ∨ 65536 < v.len / 8 then .error ⟨E_RANGE, type, none⟩
        else (State.presets v 0 (v.len / 8) s).mapError (fun x => ⟨x.1, type, some x.2⟩)
    else (s.unpackSection type v).mapError (fun c => ⟨c, type, none⟩)
  match r with
  | .error f => .error f
  | .ok t =>
    if t.pairFits (t.rd PASS_PERIOD_PERIOD_MS) && decide (Config.warmKib s.boot.prehash type ≤ 2048) then .ok t
    else .error ⟨E_CAPACITY, type, none⟩

/-- The sections of a list in order. -/
def State.unpackAll : List Nat → State → Except SowFail State
  | [], s => .ok s
  | t :: ts, s =>
    match s.unpackOne t with
    | .error f => .error f
    | .ok u => State.unpackAll ts u

/-- The engines whose set-point source REG_PRESET has set (R44). -/
def State.presetSpts (s : State) : List Nat :=
  match s.image.entry? secPreset with
  | none => []
  | some e =>
    let v := s.image.part e
    (List.range (v.len / 8)).filterMap (fun k =>
      match target? (v.u (8 * k) 4) with
      | some t => if t.row.base = LOOP_SPT 0 then some (regIndex t.row t.off 0) else none
      | none => none)

/-- The checks that wait for every section (R44). -/
def State.lateChecks (s : State) : Option SowFail :=
  if !s.presetSpts.all (fun n => s.entryNamed (s.rd (LOOP_SPT_SECTION n)) (s.rd (LOOP_SPT_INDEX n))) then
    some ⟨E_SOURCE, secPreset, none⟩
  else none

/-- The whole of UNPACK on one slot. -/
def State.unpackSlot (s : State) : Except SowFail State :=
  match State.unpackAll unpackOrder (s.wr CP_RETAIN_CFG_MODE (s.image.u 0x42 2 % 4)) with
  | .error f => .error f
  | .ok t =>
    match t.lateChecks with
    | some f => .error f
    | none => .ok t

/-- The digest of a configuration (R372). -/
def State.imageDigest (s : State) : Nat :=
  let v := s.image
  let content (e : DirEntry) : List Byte :=
    if e.type = secFw ∨ e.type = secSteward then []
    else if e.type = secSurveyor then (v.part e).all.drop (v.part e).pointBase
    else (v.part e).all
  let es := v.directory.mergeSort (fun a b => decide (a.type ≤ b.type))
  ofLeBytes (shake256 (leBytes 2 (v.u 0x42 2) ++ es.flatMap (fun e =>
    leBytes 2 e.type ++ leBytes 1 e.fmt ++ leBytes 4 (content e).length ++ content e)) 32)

/-- A slot sown (R54, R55, R58). -/
def State.slotSown (s : State) : State :=
  let v := s.image
  let s1 := (s.slotOutcome E_OK secNone 0).wr CP_BOOT_STAT_SLOT_USED (if s.triesHost then 3 else s.boot.slot + 1)
  let s2 := s1.wr64 CP_SEED_SEQ_LO CP_SEED_SEQ_HI (v.u 0x10 8)
  let s3 := if s.boot.slot = 1 then s2.recordFault 1 bClockPower (s2.rd CP_BOOT_STAT_SLOT_A_CODE) 0 else s2
  ((s3.setPair { s3.pair with configDigest := s.imageDigest }).setBoot
    { s3.boot with sownMode := s3.rd CP_RETAIN_CFG_MODE }).setStage 8

/-- The codes of a failed section as CP_BOOT_STAT and CP_BOOT_DETAIL show them (R54 step 11): slot code and own code. -/
def sectionCodes (c : Nat) : Nat × Nat := if c < 0x10 then (c, 0) else (E_SECTION, c)

/-- UNPACK (R44, R49, R54 step 11, R55, R56): unknown optional sections are skipped with F0; where a section fails nothing
of the attempt stays but the reports. -/
def execUnpack (s : State) : Out :=
  .next (
    if !s.atStage 7 then s
    else
      let unknown := s.image.directory.filter (fun e => !secKnown.contains e.type)
      let s1 := s.each unknown (fun t e => t.recordFault 0 bClockPower 0 e.type)
      match s1.unpackSlot with
      | .ok t => t.slotSown
      | .error f =>
        let s2 := match f.access with
          | some off => s1.reject mSteward off f.code true
          | none => s1
        s2.failSlot (sectionCodes f.code).1 f.sec (sectionCodes f.code).2)

end Sys2Proof.Machine
end

