-- ==== Sys2Proof/Machine/Restore.lean ====
section
/-! DEFINITION. RESTORE (R40, R62 to R69, R250, R269, R277, R346, R383, R408): the retained record is chosen and applied,
and everything that sowing has prepared starts. -/

namespace Sys2Proof.Machine

/-! Key policies (R383). -/

/-- Two policies that keep a stored slot. -/
def KeySlot.samePolicy (a b : KeySlot) : Bool :=
  a.policy && b.policy && a.type == b.type && a.derived == b.derived && a.parent == b.parent && a.bound == b.bound

/-- A slot under a sown policy: what is stored stays where the policies agree. -/
def KeySlot.under (old new : KeySlot) : KeySlot :=
  if old.samePolicy new then { new with value := old.value, boundTo := old.boundTo, revoked := old.revoked } else new

/-- A sowing gives a derived slot a new value of its own: under another label, or under another policy. -/
def KeySlot.renewedBy (old new : KeySlot) : Bool :=
  new.policy && new.derived && (!old.samePolicy new || old.label != new.label)

/-- A slot that holds something in the store. -/
def KeySlot.isStored (k : KeySlot) : Bool := k.policy && (k.derived || k.value.isSome)

/-- The sown policies in force, with F0 for every stored slot that they destroy; a derived key revoked before is usable again
where it or its parent has a new value (R384). -/
def State.applyPolicies (s : State) : State :=
  let s1 := s.each ((List.range 64).drop 2) (fun t n =>
    let old := t.slot n
    let new := (s.keys.sown.lookup n).getD noSlot
    let t1 := t.setSlot n (old.under new)
    if old.isStored && !old.samePolicy new then t1.recordFault 0 bKeyStore 0 n else t1)
  let fresh := ((List.range 64).drop 2).filter (fun n => (s.slot n).renewedBy ((s.keys.sown.lookup n).getD noSlot))
  (s1.renewed (s1.descendants fresh)).storeKeys.showKeys

/-! The choice of a record (R40, R63, R67). -/

/-- The committed records; none without retention device 0 (R46). -/
def State.records (s : State) : List Retained :=
  if s.retained then s.boot.ckpt0.toList ++ s.boot.ckpt1.toList ++ s.boot.save.toList else []

/-- The record with the highest sequence number. -/
def newest : List Retained → Option Retained
  | [] => none
  | r :: rs =>
    match newest rs with
    | none => some r
    | some q => if r.seq < q.seq then some q else some r

/-- A record fits the sown image (R67). -/
def State.fits (s : State) (r : Retained) : Bool := r.digest == s.boot.prehash.take 32

/-- The configured kind that the sowing of this restart set (R39), reduced where the full set does not fit (R63). -/
def State.kindSown (s : State) : Nat := if s.boot.sownMode = 2 && !s.fullFits then 1 else s.boot.sownMode

/-- The kind requested (R40): 3 stands for the configured kind. -/
def State.kindAsked (s : State) : Nat := if s.boot.kind = 3 then s.kindSown else s.boot.kind

/-- The kind performed (R40, R67). -/
def State.kindDone (s : State) : Nat :=
  match newest s.records with
  | none => 0
  | some r =>
    if s.fits r then min s.kindAsked (min s.kindSown (if r.isSave && r.isFull then 2 else 1)) else 0

/-! Energy and counters by identity (R62, R68, R69, R346). -/

/-- Plant meters and feeders of a record. -/
def State.carryMeters (s : State) (r : Retained) : State :=
  let word (a : Nat) : Word := (r.regs.lookup a).getD 0
  let s1 := s.each (energyRegs.flatMap (fun lo => [lo, lo + 4, lo + 8, lo + 12]) ++ (List.range 16).map MT_HE_REV)
    (fun t a => t.setReg a (word a))
  let s2 := s1.each (List.range 16) (fun t n => t.wr (MT_HM_STAT_DIR n) (bitsOf (word (MT_HM_STAT n)).toNat 4 4))
  (s2.wr MT_STAT_SAT_ANY (b2n (energyRegs.any (fun lo => bitOf (word (lo + 12)).toNat 0)))).setMeter
    { s2.meter with frac := r.frac }

/-- An entry takes what the record holds of its station; an entry it does not hold takes fresh counters. -/
def State.carryEntry (s : State) (r : Retained) (g : Nat) : State :=
  match r.stations.find? (fun x => x.address == s.gz g 0 8) with
  | some x =>
    ((((s.putBytes (gazAddr g + 0xA0) x.energy).gput g 0x28 8 (x.tx + 2 ^ 24)).gput g 0x30 8 x.rx)).gput g 0x23 1 x.gen
  | none => s.freshCounters g

/-- A station that the new gazetteer does not have goes to the archive (R68). -/
def State.archiveStation (s : State) (x : SavedStation) : State :=
  ((s.archive 0 x.address (x.energy.take 72) (recU x.energy 0x48 4) (recU x.energy 0x4C 4)).wr
    CP_RETAIN_FLAGS_ARCHIVED 1).recordFault 0 bAtlas 0 x.address

/-- Everything a committed record carries whatever the kind. -/
def State.carry (s : State) (r : Retained) : State :=
  let used := s.gzAll
  let s1 := (s.carryMeters r).each used (fun t g => t.carryEntry r g)
  let gone := r.stations.filter (fun x => !used.any (fun g => s.gz g 0 8 == x.address))
  let s2 := s1.each gone State.archiveStation
  let top := (used.map (fun g => s2.gz g 0x28 8)).foldl max 0 + 2 ^ 24
  let s3 := s2.setReservation (max s2.reservation top)
  let epoch := ((r.regs.lookup PAIR_EPOCH).getD 0).toNat
  let s4 := s3.setReg PAIR_EPOCH (BitVec.ofNat 32 (max (s3.reg PAIR_EPOCH).toNat epoch))
  if r.isSave then s4.setMeter { s4.meter with outageFrom := some (r.meterTime * 32768 / cycPerS) } else s4

/-- No record is taken (R67, R69): fresh counters for every entry, and a field root that may have been used above a lost
reservation is revoked. -/
def State.carryNone (s : State) : State :=
  let s1 := s.each s.gzAll State.freshCounters
  if s.rd CP_CTR_RESERVE_HI_VALID = 0 && s.stateOf 1 == 2 then
    (s1.revokeSlot 1).storeKeys.showKeys.recordFault 1 bClockPower E_COUNTER 0
  else s1

/-- ENERGY_GAP with the interval left unmetered (R67), in units of 2⁻¹⁵ s. The interval ends at RESTORE, from which energy is
metered again (DESIGN CHOICE, assumption 73). -/
def State.energyGap (s : State) (r : Option Retained) : State :=
  let s1 := s.wr CP_RETAIN_FLAGS_ENERGY_GAP 1
  match r with
  | some r => s1.event bClockPower 0 (s.time - r.time * 32768 / cycPerS)
  | none => s1

/-- What is taken of a record whatever the kind, and the flags of R40 and R67. -/
def State.takeRecord (s : State) : State :=
  let r := newest s.records
  let s1 := match r with
    | some r => if r.isSave then s.carry r else (s.carry r).energyGap (some r)
    | none => s.carryNone.energyGap none
  let s2 := if r.any (fun r => !s.fits r) then s1.wr CP_RETAIN_FLAGS_WARM_REJECTED 1 else s1
  let s3 := if s.kindDone < s.kindAsked then (s2.wr CP_RETAIN_FLAGS_WARM_REJECTED 1).recordFault 0 bClockPower 0 0 else s2
  s3.wr CP_BOOT_STAT_RESTART_KIND s.kindDone

/-! The sets (R62). -/

/-- A byte lies in one of some ranges of base and length. -/
def inRanges (rs : List (Nat × Nat)) (a : Nat) : Bool := rs.any (fun r => decide (r.1 ≤ a) && decide (a < r.1 + r.2))

/-- A byte that a restart of a kind restores, placed as a sowing places it. -/
def keptByte (kind a : Nat) : Bool :=
  let window := decide (histBase ≤ a) && decide (a < histBase + 0x1600000) &&
    within 114 116 ((a - histBase) % 0x5800 / 192)
  let warm := window || inRanges [(sd 0x2610000, 0x20000), (tableBase 0, tableLen), (areaK, 0x200000)] a
  let full := inRanges [(areaM, 0x200000), (areaT, 0x20000), (areaN, 0x10000), (areaE, 0x10000), (areaL, 0x40000),
    (instBank 0, 0x160000),
    (histBase, 0x1600000), (aImage + 0x800000, 0x200000)] a
  if kind = 0 then false else if kind = 1 then warm else warm || full

/-- The memory of a record restored. -/
def State.restoreMem (s : State) (kind : Nat) (r : Retained) : State :=
  { s with
    mem := smapSetAll memDefault (s.mem.filter (fun e => !keptByte kind e.1)) (r.mem.filter (fun e => keptByte kind e.1)),
    memBad := s.memBad.filter (fun a => !keptByte kind a) ++ r.bad.filter (fun a => keptByte kind a) }

/-- The registers of the warm set restored: the self-test history and the log indices. -/
def State.restoreRegs (s : State) (r : Retained) : State :=
  s.each ((List.range 256).map LANE_TEST ++ [GL_LOG_WR, GL_LOG_RD]) (fun t a => t.setReg a ((r.regs.lookup a).getD (t.reg a)))

/-- A record appended to the log, as it stands (R411). -/
def State.appendLog (s : State) (bs : List Byte) : State :=
  let level := s.logLevel
  let n := s.rd GL_LOG_WR_INDEX
  let s1 := (s.putBytes (logSlot n) bs).wr GL_LOG_WR_INDEX (n + 1)
  if level = 4096 then s1.bumpWrap GL_LOG_RD_INDEX 1 else s1

/-- The Gleaner restarted (R408); records drained while sowing follow those restored. -/
def State.restoreGleaner (s : State) (kind : Nat) (r : Option Retained) (early : List (List Byte)) (last : Option Report) : State :=
  let s1 : State := match r with
    | some r => { s with gleaner := { s.gleaner with lastWritten := r.lastLog, carried := r.carried } }
    | none => s
  -- a definition that the sown section changes in LO, HI or LOG has its slices cleared (R408)
  let changed := ((r.map (fun r => r.defs)).getD []).filter (fun x => s1.defUsed x.1 && s1.defShape x.1 != x.2)
  let s2 := ((s1.each changed (fun t x => t.clearSlices x.1)).gleanerRestart kind).each early State.appendLog
  if early.isEmpty then s2 else { s2 with gleaner := { s2.gleaner with lastWritten := last } }

/-- The sets of the kind performed: memory, registers, log and windows, with the set-point table shown (R62, R206). -/
def State.restoreSets (s : State) (kind : Nat) : State :=
  let n := s.rd GL_LOG_WR_INDEX
  let early := (List.range (min n 4096)).map (fun k => s.bytes (logSlot (n - min n 4096 + k)) 32)
  let r := if kind = 0 then none else newest s.records
  let s1 := match r with
    | some r => ((s.restoreMem kind r).restoreRegs r).showTable 0
    | none => s
  s1.restoreGleaner kind r early s.gleaner.lastWritten

/-- The states that age are taken from a full-retention record (R62). -/
def State.freshEnough (s : State) (r : Retained) : Bool :=
  decide (s.cal ≤ r.time + s.rd CP_RETAIN_CFG_FURROW_MAX_AGE * cycPerS)

/-- A saved furrow is that of the sown pipe: the fields that R115 names are the same. -/
def Bank.savedPipe (b : Bank) (x : SavedFurrow) : Bool :=
  let same (o n : Nat) : Bool := recU x.element o n == b.u 1 x.pipe o n
  b.used tPipe x.pipe && same 0 2 && same 2 2 && same 8 4 && same 0xC 4 && same 0x30 2

/-- Furrows seeded, and those of a record kept (R62, R145). -/
def State.restoreFurrows (s : State) (r : Option Retained) : State :=
  let s1 := s.seedFurrows 0
  match r with
  | none => s1
  | some r =>
    let b := s1.atlas 0
    (s1.each (r.furrows.filter b.savedPipe) (fun t x => t.putBytes (b.furrowAddr x.pipe) x.water)).setSurvey
      { s1.survey with qhat := r.qhat, tnode := r.tnode, dEst := r.dEst }

/-- Engines restored with their integrators, histories and limiters (R62, R277); a coefficient copy held before is not among
them, and overruns count from the sowing (R281, R282). -/
def State.restoreEngines (s : State) (r : Option Retained) : State :=
  match r with
  | none => s
  | some r =>
    let s1 := s.each ((List.range 32).flatMap (fun n => [LOOP_INT_LO n, LOOP_INT_HI n]))
      (fun t a => t.setReg a ((r.regs.lookup a).getD 0))
    { s1 with loops := { s1.loops with engines := (List.range 32).map (fun n =>
        { (r.engines[n]?).getD loopEngine0 with
          due := none, held := (s1.engine n).held, heldCount := 0, stamp := 0, overruns := 0 }) } }

/-! The start (R21, R44, R250, R269, R277). -/

/-- The mode of the first pass (R250). -/
def State.firstMode (s : State) (kind : Nat) : Nat :=
  let m := if kind = 0 then s.rd PASS_RESTART_CFG_COLD_MODE else if kind = 1 then s.rd PASS_RESTART_CFG_WARM_MODE
    else s.rd PASS_RESTART_CFG_FULL_MODE
  let m1 := if m = 3 then ((newest s.records).map (fun r => r.mode)).getD modeStop else m
  if m1 = modeRun && (s.pass.prog.isNone || s.scan) then modeStop else m1

/-- The first mode entered; the request shows it. -/
def State.startMode (s : State) (m : Nat) : State :=
  let s1 := s.wr PASS_MODE_CTL_REQ m
  if m = modeStop then s1.enterStop stopRestart else s1.setMode m

/-- The blocks that REG_PRESET has enabled start, and the metering sample clock (R269); a meter's run begins (R339;
DEDUCED, assumption 102). -/
def State.startBlocks (s : State) : State :=
  let s1 := s.each (List.range 4) (fun t n => if t.rd (FP_CTL_EN n) = 1 then t.portStart n else t)
  let s2 := s1.each (List.range 8) (fun t n => if t.rd (CB_CTL_EN n) = 1 then t.cbStart n else t)
  let s3 := s2.each (List.range 32) (fun t n =>
    if t.rd (MT_PLS_CFG_EN n) = 1 then t.setPulse n { t.pulseIn n with edges := 0, started := 0, used := t.metNow } else t)
  let s4 := (s3.each (List.range 32) (fun t n => t.setReg (MT_PLS_CNT n) 0)).setMeter { s3.meter with
    running := true, samples := 0, shown := [], calAt := s.now, meters := s3.meter.meters.map (fun m => { m with runFrom := s.cal }) }
  { s4 with gleaner := { s4.gleaner with lastTest := s.now, tempHistAt := s.now } }

/-- The pass timer starts (R21). -/
def State.startTimer (s : State) : State :=
  s.setPass { s.pass with
    timerOn := true, nextTick := s.now, period := s.rd PASS_PERIOD_PERIOD_MS, periodNext := none, first := true }

/-- The configuration committed, as the last act of RESTORE (R90). -/
def State.commitSown (s : State) : State :=
  let s1 := s.commitConfig
  { s1 with fabric := { s1.fabric with compareOn := true } }

/-- RESTORE (R62 to R69). -/
def State.restore (s : State) : State :=
  let s1 := s.checkFit
  let kind := s1.kindDone
  let r := if kind = 2 then newest s1.records else none
  let aged := r.filter s1.freshEnough
  let s2 := s1.takeRecord.safeBuffers.resetProfiles
  let s3 := s2.restoreSets kind
  let acc := (r.map (fun r => r.msAcc)).getD 0
  let s4 := (s3.setPass { s3.pass with msAcc := acc }).wr64 PASS_MS_LO PASS_MS_HI (acc / cycPerMs)
  let s5 := ((s4.restoreFurrows aged).restoreEngines aged).applyPolicies
  let s6 := ((s5.startMode (s5.firstMode kind)).regate.startBlocks).loopsStart ((aged.map (fun r => r.running)).getD [])
  let s7 := s6.pairedChanged.showPairLimit.showGaz.showSizes
  ((s7.setBoot { s7.boot with ckptAt := s7.now }).startTimer).commitSown

/-- RESTORE: the sowing then waits for the first freeze edge, which reaches RUNNING. -/
def execRestore (s : State) : Out := .next (if s.atStage 8 && !s.pass.timerOn then s.restore else s)

end Sys2Proof.Machine
end

