-- ==== Sys2Proof/Machine/Dispatch.lean ====
section
/-! DEFINITION. The dispatch: one arm per command, each a direct call of its meaning. -/

namespace Sys2Proof.Machine

/-- The effect of a command on everything but the queue. -/
def exec (i : Instr) (s : State) : Host.Outcome State Fault Refusal :=
  match i with
  | .powerUp role => Sys2Proof.Machine.execPowerUp role s
  | .aonPowerLoss => Sys2Proof.Machine.execAonPowerLoss s
  | .porstAssert => Sys2Proof.Machine.execPorstAssert s
  | .porstRelease role => Sys2Proof.Machine.execPorstRelease role s
  | .warmReset => Sys2Proof.Machine.execWarmReset s
  | .cpRestart master kind fromHost => Sys2Proof.Machine.execCpRestart master kind fromHost s
  | .resetExit => Sys2Proof.Machine.execResetExit s
  | .securityRom => Sys2Proof.Machine.execSecurityRom s
  | .nvmBringup nor0 nor1 ret0 ret1 storeOk => Sys2Proof.Machine.execNvmBringup nor0 nor1 ret0 ret1 storeOk s
  | .norIdentTimeout device => Sys2Proof.Machine.execNorIdentTimeout device s
  | .sdramInit sizeGib => Sys2Proof.Machine.execSdramInit sizeGib s
  | .sdramEccInitComplete => Sys2Proof.Machine.execSdramEccInitComplete s
  | .slotRead => Sys2Proof.Machine.execSlotRead s
  | .verify imageSig secSig stewardSig => Sys2Proof.Machine.execVerify imageSig secSig stewardSig s
  | .firmwareStart => Sys2Proof.Machine.execFirmwareStart s
  | .unpack => Sys2Proof.Machine.execUnpack s
  | .restore => Sys2Proof.Machine.execRestore s
  | .checkpointDue => Sys2Proof.Machine.execCheckpointDue s
  | .checkpointWriteComplete => Sys2Proof.Machine.execCheckpointWriteComplete s
  | .pwrWarnAssert => Sys2Proof.Machine.execPwrWarnAssert s
  | .pwrWarnGlitch => Sys2Proof.Machine.execPwrWarnGlitch s
  | .pwrWarnConfirmed => Sys2Proof.Machine.execPwrWarnConfirmed s
  | .powerFailSaveCommit => Sys2Proof.Machine.execPowerFailSaveCommit s
  | .saveError capacity => Sys2Proof.Machine.execSaveError capacity s
  | .counterReservationWrite => Sys2Proof.Machine.execCounterReservationWrite s
  | .counterReservationLanded => Sys2Proof.Machine.execCounterReservationLanded s
  | .passTimerTick gpio => Sys2Proof.Machine.execPassTimerTick gpio s
  | .latePassStart gpio => Sys2Proof.Machine.execLatePassStart gpio s
  | .inputFreezeComplete => Sys2Proof.Machine.execInputFreezeComplete s
  | .logicPhaseEnd => Sys2Proof.Machine.execLogicPhaseEnd s
  | .outputWriteEnd => Sys2Proof.Machine.execOutputWriteEnd s
  | .headlandEnd => Sys2Proof.Machine.execHeadlandEnd s
  | .passWatchdog => Sys2Proof.Machine.execPassWatchdog s
  | .registerWrite master width addr data => Sys2Proof.Machine.execRegisterWrite master width addr data s
  | .registerWriteLand off => Sys2Proof.Machine.execRegisterWriteLand off s
  | .crossingWriteTimeout off => Sys2Proof.Machine.execCrossingWriteTimeout off s
  | .clockStopped domain => Sys2Proof.Machine.execClockStopped domain s
  | .unlockKeyWrite master key => Sys2Proof.Machine.execUnlockKeyWrite master key s
  | .unlockWindowExpiry master => Sys2Proof.Machine.execUnlockWindowExpiry master s
  | .semaphoreAcquireRead master sem => Sys2Proof.Machine.execSemaphoreAcquireRead master sem s
  | .semaphoreRelease master sem => Sys2Proof.Machine.execSemaphoreRelease master sem s
  | .semaphoreForce master sem => Sys2Proof.Machine.execSemaphoreForce master sem s
  | .cfgEdit master => Sys2Proof.Machine.execCfgEdit master s
  | .cfgCommit master => Sys2Proof.Machine.execCfgCommit master s
  | .cfgCommitComplete => Sys2Proof.Machine.execCfgCommitComplete s
  | .editExpiry => Sys2Proof.Machine.execEditExpiry s
  | .cfgRecomputationComplete => Sys2Proof.Machine.execCfgRecomputationComplete s
  | .bar2Write fn offset bytes => Sys2Proof.Machine.execBar2Write fn offset bytes s
  | .bar2Read fn offset len => Sys2Proof.Machine.execBar2Read fn offset len s
  | .bar2ReadTimeout fn offset => Sys2Proof.Machine.execBar2ReadTimeout fn offset s
  | .windowWrite fn win base => Sys2Proof.Machine.execWindowWrite fn win base s
  | .msixUnmask fn what => Sys2Proof.Machine.execMsixUnmask fn what s
  | .pcieReset cause => Sys2Proof.Machine.execPcieReset cause s
  | .functionLevelReset fn => Sys2Proof.Machine.execFunctionLevelReset fn s
  | .d3hotEntry fn => Sys2Proof.Machine.execD3hotEntry fn s
  | .mailboxPost master off word => Sys2Proof.Machine.execMailboxPost master off word s
  | .mailboxPop master off => Sys2Proof.Machine.execMailboxPop master off s
  | .passCoreWake core => Sys2Proof.Machine.execPassCoreWake core s
  | .requestWordsTimeout channel => Sys2Proof.Machine.execRequestWordsTimeout channel s
  | .groupTimeout channel => Sys2Proof.Machine.execGroupTimeout channel s
  | .atlasWrite channel => Sys2Proof.Machine.execAtlasWrite channel s
  | .atlasClear channel => Sys2Proof.Machine.execAtlasClear channel s
  | .atlasService channel => Sys2Proof.Machine.execAtlasService channel s
  | .atlasReplace channel => Sys2Proof.Machine.execAtlasReplace channel s
  | .gazWrite channel => Sys2Proof.Machine.execGazWrite channel s
  | .gazDelete channel => Sys2Proof.Machine.execGazDelete channel s
  | .gazAdmit channel => Sys2Proof.Machine.execGazAdmit channel s
  | .gazSubst channel => Sys2Proof.Machine.execGazSubst channel s
  | .gazEnable channel => Sys2Proof.Machine.execGazEnable channel s
  | .gazRefuse channel => Sys2Proof.Machine.execGazRefuse channel s
  | .exchLoad channel => Sys2Proof.Machine.execExchLoad channel s
  | .exchSwap channel => Sys2Proof.Machine.execExchSwap channel s
  | .exchRevert channel => Sys2Proof.Machine.execExchRevert channel s
  | .exchDiscard channel => Sys2Proof.Machine.execExchDiscard channel s
  | .tariffWrite channel => Sys2Proof.Machine.execTariffWrite channel s
  | .glDefWrite channel => Sys2Proof.Machine.execGlDefWrite channel s
  | .glDefClear channel => Sys2Proof.Machine.execGlDefClear channel s
  | .profileWrite channel => Sys2Proof.Machine.execProfileWrite channel s
  | .campaignNow channel => Sys2Proof.Machine.execCampaignNow channel s
  | .norWrite channel failed => Sys2Proof.Machine.execNorWrite channel failed s
  | .norCheck channel => Sys2Proof.Machine.execNorCheck channel s
  | .archRead => Sys2Proof.Machine.execArchRead s
  | .archiveAck master seq => Sys2Proof.Machine.execArchiveAck master seq s
  | .surveyorRestart master region => Sys2Proof.Machine.execSurveyorRestart master region s
  | .surveyorRestartComplete region => Sys2Proof.Machine.execSurveyorRestartComplete region s
  | .snapshotComplete region => Sys2Proof.Machine.execSnapshotComplete region s
  | .furrowAdvanceComplete region => Sys2Proof.Machine.execFurrowAdvanceComplete region s
  | .problemAssembled region field => Sys2Proof.Machine.execProblemAssembled region field s
  | .campaignLaunch => Sys2Proof.Machine.execCampaignLaunch s
  | .laneGo master lane => Sys2Proof.Machine.execLaneGo master lane s
  | .laneAbort master lane => Sys2Proof.Machine.execLaneAbort master lane s
  | .laneRetest master lane => Sys2Proof.Machine.execLaneRetest master lane s
  | .laneHoldOut master lane hold => Sys2Proof.Machine.execLaneHoldOut master lane hold s
  | .laneUpdateComplete lane => Sys2Proof.Machine.execLaneUpdateComplete lane s
  | .laneDeliveryComplete lane => Sys2Proof.Machine.execLaneDeliveryComplete lane s
  | .workspaceUncorrectable lane offset => Sys2Proof.Machine.execWorkspaceUncorrectable lane offset s
  | .selfTestComplete lane wrong => Sys2Proof.Machine.execSelfTestComplete lane wrong s
  | .campaignDeadline => Sys2Proof.Machine.execCampaignDeadline s
  | .consensusStep first => Sys2Proof.Machine.execConsensusStep first s
  | .campaignPublish => Sys2Proof.Machine.execCampaignPublish s
  | .furLd core x => Sys2Proof.Machine.execFurLd core x s
  | .furLdn core x => Sys2Proof.Machine.execFurLdn core x s
  | .furAnd core x => Sys2Proof.Machine.execFurAnd core x s
  | .furAndn core x => Sys2Proof.Machine.execFurAndn core x s
  | .furOr core x => Sys2Proof.Machine.execFurOr core x s
  | .furOrn core x => Sys2Proof.Machine.execFurOrn core x s
  | .furXor core x => Sys2Proof.Machine.execFurXor core x s
  | .furXorn core x => Sys2Proof.Machine.execFurXorn core x s
  | .furSt core x => Sys2Proof.Machine.execFurSt core x s
  | .furStn core x => Sys2Proof.Machine.execFurStn core x s
  | .furSet core x => Sys2Proof.Machine.execFurSet core x s
  | .furRst core x => Sys2Proof.Machine.execFurRst core x s
  | .furPush core op => Sys2Proof.Machine.execFurPush core op s
  | .furPop core => Sys2Proof.Machine.execFurPop core s
  | .furNot core => Sys2Proof.Machine.execFurNot core s
  | .furSetla core => Sys2Proof.Machine.execFurSetla core s
  | .furClrla core => Sys2Proof.Machine.execFurClrla core s
  | .furPeek core => Sys2Proof.Machine.execFurPeek core s
  | .furDrop core => Sys2Proof.Machine.execFurDrop core s
  | .furLw8u core toW1 x => Sys2Proof.Machine.execFurLw8u core toW1 x s
  | .furLw8s core toW1 x => Sys2Proof.Machine.execFurLw8s core toW1 x s
  | .furLw16u core toW1 x => Sys2Proof.Machine.execFurLw16u core toW1 x s
  | .furLw16s core toW1 x => Sys2Proof.Machine.execFurLw16s core toW1 x s
  | .furLw32u core toW1 x => Sys2Proof.Machine.execFurLw32u core toW1 x s
  | .furLw32s core toW1 x => Sys2Proof.Machine.execFurLw32s core toW1 x s
  | .furLw64 core toW1 x => Sys2Proof.Machine.execFurLw64 core toW1 x s
  | .furLwf32 core toW1 x => Sys2Proof.Machine.execFurLwf32 core toW1 x s
  | .furSw8 core x => Sys2Proof.Machine.execFurSw8 core x s
  | .furSw16 core x => Sys2Proof.Machine.execFurSw16 core x s
  | .furSw32 core x => Sys2Proof.Machine.execFurSw32 core x s
  | .furSw64 core x => Sys2Proof.Machine.execFurSw64 core x s
  | .furSwf32 core x => Sys2Proof.Machine.execFurSwf32 core x s
  | .furLdi core imm => Sys2Proof.Machine.execFurLdi core imm s
  | .furLdi1 core imm => Sys2Proof.Machine.execFurLdi1 core imm s
  | .furLih core imm => Sys2Proof.Machine.execFurLih core imm s
  | .furLit core imm => Sys2Proof.Machine.execFurLit core imm s
  | .furSwap core => Sys2Proof.Machine.execFurSwap core s
  | .furMov core => Sys2Proof.Machine.execFurMov core s
  | .furLdb core n imm => Sys2Proof.Machine.execFurLdb core n imm s
  | .furAdb core n => Sys2Proof.Machine.execFurAdb core n s
  | .furAdd core => Sys2Proof.Machine.execFurAdd core s
  | .furSub core => Sys2Proof.Machine.execFurSub core s
  | .furMul core => Sys2Proof.Machine.execFurMul core s
  | .furDiv core => Sys2Proof.Machine.execFurDiv core s
  | .furMod core => Sys2Proof.Machine.execFurMod core s
  | .furWordAnd core => Sys2Proof.Machine.execFurWordAnd core s
  | .furWordOr core => Sys2Proof.Machine.execFurWordOr core s
  | .furWordXor core => Sys2Proof.Machine.execFurWordXor core s
  | .furShl core => Sys2Proof.Machine.execFurShl core s
  | .furShr core => Sys2Proof.Machine.execFurShr core s
  | .furSar core => Sys2Proof.Machine.execFurSar core s
  | .furNeg core => Sys2Proof.Machine.execFurNeg core s
  | .furAbs core => Sys2Proof.Machine.execFurAbs core s
  | .furMin core => Sys2Proof.Machine.execFurMin core s
  | .furMax core => Sys2Proof.Machine.execFurMax core s
  | .furAdds core => Sys2Proof.Machine.execFurAdds core s
  | .furFadd core => Sys2Proof.Machine.execFurFadd core s
  | .furFsub core => Sys2Proof.Machine.execFurFsub core s
  | .furFmul core => Sys2Proof.Machine.execFurFmul core s
  | .furFdiv core => Sys2Proof.Machine.execFurFdiv core s
  | .furFsqrt core => Sys2Proof.Machine.execFurFsqrt core s
  | .furFmin core => Sys2Proof.Machine.execFurFmin core s
  | .furFmax core => Sys2Proof.Machine.execFurFmax core s
  | .furFabs core => Sys2Proof.Machine.execFurFabs core s
  | .furFneg core => Sys2Proof.Machine.execFurFneg core s
  | .furItof core => Sys2Proof.Machine.execFurItof core s
  | .furFtoi core => Sys2Proof.Machine.execFurFtoi core s
  | .furCmp core join cond => Sys2Proof.Machine.execFurCmp core join cond s
  | .furCmpu core join cond => Sys2Proof.Machine.execFurCmpu core join cond s
  | .furFcmp core join cond => Sys2Proof.Machine.execFurFcmp core join cond s
  | .furLdwb core n => Sys2Proof.Machine.execFurLdwb core n s
  | .furStwb core n => Sys2Proof.Machine.execFurStwb core n s
  | .furJmp core disp => Sys2Proof.Machine.execFurJmp core disp s
  | .furJc core disp => Sys2Proof.Machine.execFurJc core disp s
  | .furJnc core disp => Sys2Proof.Machine.execFurJnc core disp s
  | .furCall core disp => Sys2Proof.Machine.execFurCall core disp s
  | .furRet core => Sys2Proof.Machine.execFurRet core s
  | .furCallfb core inst => Sys2Proof.Machine.execFurCallfb core inst s
  | .furLoopw core disp => Sys2Proof.Machine.execFurLoopw core disp s
  | .furBar core b => Sys2Proof.Machine.execFurBar core b s
  | .barrierRelease b => Sys2Proof.Machine.execBarrierRelease b s
  | .furEnd core => Sys2Proof.Machine.execFurEnd core s
  | .furNop core => Sys2Proof.Machine.execFurNop core s
  | .furTon core index => Sys2Proof.Machine.execFurTon core index s
  | .furTof core index => Sys2Proof.Machine.execFurTof core index s
  | .furTp core index => Sys2Proof.Machine.execFurTp core index s
  | .furTrd core index => Sys2Proof.Machine.execFurTrd core index s
  | .furTrs core index => Sys2Proof.Machine.execFurTrs core index s
  | .furCtu core index => Sys2Proof.Machine.execFurCtu core index s
  | .furCtd core index => Sys2Proof.Machine.execFurCtd core index s
  | .furCrs core index => Sys2Proof.Machine.execFurCrs core index s
  | .furClv core index => Sys2Proof.Machine.execFurClv core index s
  | .furCpv core index => Sys2Proof.Machine.execFurCpv core index s
  | .furCrd core index => Sys2Proof.Machine.execFurCrd core index s
  | .furRtrg core index => Sys2Proof.Machine.execFurRtrg core index s
  | .furFtrg core index => Sys2Proof.Machine.execFurFtrg core index s
  | .furRdr core reg => Sys2Proof.Machine.execFurRdr core reg s
  | .furWrr core reg => Sys2Proof.Machine.execFurWrr core reg s
  | .furHist core defn => Sys2Proof.Machine.execFurHist core defn s
  | .furFlg core => Sys2Proof.Machine.execFurFlg core s
  | .furFlc core => Sys2Proof.Machine.execFurFlc core s
  | .reqRun master => Sys2Proof.Machine.execReqRun master s
  | .reqHold master => Sys2Proof.Machine.execReqHold master s
  | .reqStop master => Sys2Proof.Machine.execReqStop master s
  | .loopTick => Sys2Proof.Machine.execLoopTick s
  | .loopSample engine => Sys2Proof.Machine.execLoopSample engine s
  | .loopStart master engine => Sys2Proof.Machine.execLoopStart master engine s
  | .loopStop master engine => Sys2Proof.Machine.execLoopStop master engine s
  | .holdLawSet master engine => Sys2Proof.Machine.execHoldLawSet master engine s
  | .holdLawClear master engine => Sys2Proof.Machine.execHoldLawClear master engine s
  | .holdLawExpiry engine => Sys2Proof.Machine.execHoldLawExpiry engine s
  | .xspFrame frame => Sys2Proof.Machine.execXspFrame frame s
  | .xspWordTimeout => Sys2Proof.Machine.execXspWordTimeout s
  | .frameReceive port frame => Sys2Proof.Machine.execFrameReceive port frame s
  | .hello port => Sys2Proof.Machine.execHello port s
  | .report port => Sys2Proof.Machine.execReport port s
  | .neighborDiscovery port => Sys2Proof.Machine.execNeighborDiscovery port s
  | .echoRequest port => Sys2Proof.Machine.execEchoRequest port s
  | .ptpMessage port => Sys2Proof.Machine.execPtpMessage port s
  | .ppsEdge correction => Sys2Proof.Machine.execPpsEdge correction s
  | .waitingRoomAgeExpiry slot => Sys2Proof.Machine.execWaitingRoomAgeExpiry slot s
  | .portEnable master port on => Sys2Proof.Machine.execPortEnable master port on s
  | .portLinkDown port los absent => Sys2Proof.Machine.execPortLinkDown port los absent s
  | .portLinkTimeout port => Sys2Proof.Machine.execPortLinkTimeout port s
  | .channelEnable master channel on => Sys2Proof.Machine.execChannelEnable master channel on s
  | .integrationComplete channel => Sys2Proof.Machine.execIntegrationComplete channel s
  | .canFrameReceived channel frame => Sys2Proof.Machine.execCanFrameReceived channel frame s
  | .canTransmitEnd channel how loop => Sys2Proof.Machine.execCanTransmitEnd channel how loop s
  | .transmitWindowClose channel past => Sys2Proof.Machine.execTransmitWindowClose channel past s
  | .busoffRecovery channel => Sys2Proof.Machine.execBusoffRecovery channel s
  | .channelSleepRequest channel past => Sys2Proof.Machine.execChannelSleepRequest channel past s
  | .channelWake channel seen => Sys2Proof.Machine.execChannelWake channel seen s
  | .meterSample adc => Sys2Proof.Machine.execMeterSample adc s
  | .rtdConversion ohms => Sys2Proof.Machine.execRtdConversion ohms s
  | .pulseEdge input level => Sys2Proof.Machine.execPulseEdge input level s
  | .calibrationStep how => Sys2Proof.Machine.execCalibrationStep how s
  | .align => Sys2Proof.Machine.execAlign s
  | .alive auth pass => Sys2Proof.Machine.execAlive auth pass s
  | .linkFailure lock => Sys2Proof.Machine.execLinkFailure lock s
  | .headlandLinkUp => Sys2Proof.Machine.execHeadlandLinkUp s
  | .pairHello hello crcOk => Sys2Proof.Machine.execPairHello hello crcOk s
  | .pairBlocks pass seq blocks crcOk => Sys2Proof.Machine.execPairBlocks pass seq blocks crcOk s
  | .pairWriteFrame pass seq writes crcOk => Sys2Proof.Machine.execPairWriteFrame pass seq writes crcOk s
  | .pairDigest pass seq digest campaign crcOk => Sys2Proof.Machine.execPairDigest pass seq digest campaign crcOk s
  | .pairEnd pass frames epoch mode crcOk => Sys2Proof.Machine.execPairEnd pass frames epoch mode crcOk s
  | .pairAck pass failed crcOk => Sys2Proof.Machine.execPairAck pass failed crcOk s
  | .triangulationComplete wrong signatures => Sys2Proof.Machine.execTriangulationComplete wrong signatures s
  | .pairVerdict tests crcOk => Sys2Proof.Machine.execPairVerdict tests crcOk s
  | .handover crcOk => Sys2Proof.Machine.execHandover crcOk s
  | .pairJoinFrame frame crcOk => Sys2Proof.Machine.execPairJoinFrame frame crcOk s
  | .authInFall => Sys2Proof.Machine.execAuthInFall s
  | .authInRise => Sys2Proof.Machine.execAuthInRise s
  | .takeoverWaitExpiry => Sys2Proof.Machine.execTakeoverWaitExpiry s
  | .unscheduledFreeze gpio => Sys2Proof.Machine.execUnscheduledFreeze gpio s
  | .pairYield master => Sys2Proof.Machine.execPairYield master s
  | .pairTake master => Sys2Proof.Machine.execPairTake master s
  | .pairFallow master => Sys2Proof.Machine.execPairFallow master s
  | .pairJoin master => Sys2Proof.Machine.execPairJoin master s
  | .pairClear master => Sys2Proof.Machine.execPairClear master s
  | .ksWrite => Sys2Proof.Machine.execKsWrite s
  | .ksUpdate sigOk tagOk key => Sys2Proof.Machine.execKsUpdate sigOk tagOk key s
  | .ksDestroy => Sys2Proof.Machine.execKsDestroy s
  | .ksRevoke => Sys2Proof.Machine.execKsRevoke s
  | .ksStation => Sys2Proof.Machine.execKsStation s
  | .ksUse tagOk out => Sys2Proof.Machine.execKsUse tagOk out s
  | .ksPublic => Sys2Proof.Machine.execKsPublic s
  | .ksAttest signature => Sys2Proof.Machine.execKsAttest signature s
  | .ksLifecycle cut => Sys2Proof.Machine.execKsLifecycle cut s
  | .ksCommandTimeout => Sys2Proof.Machine.execKsCommandTimeout s
  | .ksStatusQuery => Sys2Proof.Machine.execKsStatusQuery s
  | .dbgPresent master sigOk => Sys2Proof.Machine.execDbgPresent master sigOk s
  | .dbgClose master => Sys2Proof.Machine.execDbgClose master s
  | .dbgNewChal master challenge => Sys2Proof.Machine.execDbgNewChal master challenge s
  | .debugScopeExpiry => Sys2Proof.Machine.execDebugScopeExpiry s
  | .idcode => Sys2Proof.Machine.execIdcode s
  | .samplePreload sampled preload => Sys2Proof.Machine.execSamplePreload sampled preload s
  | .extest => Sys2Proof.Machine.execExtest s
  | .clamp => Sys2Proof.Machine.execClamp s
  | .highz => Sys2Proof.Machine.execHighz s
  | .intest => Sys2Proof.Machine.execIntest s
  | .jtagToken token sigOk => Sys2Proof.Machine.execJtagToken token sigOk s
  | .jtagChallenge => Sys2Proof.Machine.execJtagChallenge s
  | .debugAccess => Sys2Proof.Machine.execDebugAccess s
  | .bypass => Sys2Proof.Machine.execBypass s
  | .tapReset => Sys2Proof.Machine.execTapReset s
  | .timeSet master => Sys2Proof.Machine.execTimeSet master s
  | .timeSetLanded => Sys2Proof.Machine.execTimeSetLanded s
  | .gleanerFreeze master => Sys2Proof.Machine.execGleanerFreeze master s
  | .gleanerUnfreeze master => Sys2Proof.Machine.execGleanerUnfreeze master s
  | .freezeExpiry => Sys2Proof.Machine.execFreezeExpiry s
  | .minuteRoll => Sys2Proof.Machine.execMinuteRoll s
  | .logRecordDrain => Sys2Proof.Machine.execLogRecordDrain s
  | .logReadAdvance master index => Sys2Proof.Machine.execLogReadAdvance master index s
  | .scrubStep addr found => Sys2Proof.Machine.execScrubStep addr found s
  | .laneTestDue => Sys2Proof.Machine.execLaneTestDue s
  | .telemetryRead temps mv => Sys2Proof.Machine.execTelemetryRead temps mv s
  | .supplyWindowFault monitor => Sys2Proof.Machine.execSupplyWindowFault monitor s
  | .pwrWarnRelease => Sys2Proof.Machine.execPwrWarnRelease s
  | .registerRead master width addr => Sys2Proof.Machine.execRegisterRead master width addr s
  | .postedWriteDrain fn count => Sys2Proof.Machine.execPostedWriteDrain fn count s
  | .pcieLinkUp width speed => Sys2Proof.Machine.execPcieLinkUp width speed s
  | .d0Entry fn => Sys2Proof.Machine.execD0Entry fn s
  | .msixMask fn what => Sys2Proof.Machine.execMsixMask fn what s
  | .portLinkUp port anDone => Sys2Proof.Machine.execPortLinkUp port anDone s
  | .canProtocolError channel kind step => Sys2Proof.Machine.execCanProtocolError channel kind step s
  | .clockRestored domain => Sys2Proof.Machine.execClockRestored domain s
  | .pwmPeriodStart => Sys2Proof.Machine.execPwmPeriodStart s

end Sys2Proof.Machine
end

