-- ==== Sys2Proof/Machine/Tick.lean ====
section
/-! DEFINITION. What happens by time alone: one cycle of the SYS clock while no command waits (assumption 2). -/

namespace Sys2Proof.Machine

/-- One cycle of the SYS clock passes: calendar time and the Gleaner (R32, R404), debouncing (R331), PTP on the field ports (R286), and what a
paired unit sends on the headland link (R360). -/
def State.tickSys (s : State) : State := ((s.tickCycle.pulseTick).ptpTick).pairTick

end Sys2Proof.Machine
end

