-- ==== Sys2Proof/Safety.lean ====
section
/-! DEFINITION. What a safe step and a safe state are, and the conditions and frames that statements use. -/

namespace Sys2Proof.Machine

/-- A step answers a next state: it neither faults nor is refused. -/
def Safe (s : State) : Prop := ∃ t, step s = .next t

/-- Memory and the register file are in canonical form. -/
def State.Canonical (s : State) : Prop := Memory.wf s.mem = true ∧ Regs.wf s.regs = true

/-- A command answers a next state of which P holds. -/
def Completes (i : Instr) (s : State) (P : State → Prop) : Prop := ∃ t, exec i s = .next t ∧ P t

/-- A field lies within its register. -/
abbrev Fld.ok (f : Fld) : Prop := f.lo ≤ f.hi ∧ f.hi < 32

/-- Two fields share no bit. -/
abbrev Fld.apart (f g : Fld) : Prop := f.off ≠ g.off ∨ f.hi < g.lo ∨ g.hi < f.lo

/-- A Furrow instruction runs on a core now (R209, R211, R221): the core runs a strip, its index lies in the code, and the
word there can be fetched and spells the instruction. -/
def State.coreReady (s : State) (n : Fin 4) (i : Instr) : Prop :=
  s.rd (PASS_CORE_STAT_STATE n.val) = coreRunning ∧ (s.core n).pc < (s.codeOf n).2 ∧
    s.eccFault ((s.codeOf n).1 + 4 * (s.core n).pc) 4 = false ∧ encodeFurrow i = some (s.wordAt n)

/-- On a core where it is the instruction that runs, an instruction answers a next state of which P holds. -/
def Runs (n : Fin 4) (i : Instr) (s : State) (P : State → Prop) : Prop := s.coreReady n i → Completes i s P

/-- A core with PC at the next instruction. -/
def State.ahead (s : State) (n : Fin 4) : PassCore := { s.core n with pc := (s.core n).pc + 1 }

/-- t is s with core n standing at c: every other core, every register, every byte of memory and all other state is
unchanged. -/
def State.onlyCore (s : State) (n : Fin 4) (c : PassCore) (t : State) : Prop :=
  t.core n = c ∧ (∀ m, m ≠ n → t.core m = s.core m) ∧
    t = { s with pass := { s.pass with
      core0 := t.pass.core0, core1 := t.pass.core1, core2 := t.pass.core2, core3 := t.pass.core3 } }

/-- t is s with core n standing at c and the z bytes from a on written: every other core, every register, every byte
outside these and all other state is unchanged. -/
def State.onlyCoreAndBytes (s : State) (n : Fin 4) (c : PassCore) (a z : Nat) (t : State) : Prop :=
  t.core n = c ∧ (∀ m, m ≠ n → t.core m = s.core m) ∧ (∀ k, k < a ∨ a + z ≤ k → t.byte k = s.byte k) ∧
    t = { s with
      mem := t.mem
      pass := { s.pass with
        core0 := t.pass.core0, core1 := t.pass.core1, core2 := t.pass.core2, core3 := t.pass.core3 } }

/-- t is s but for the registers named: every other register, every byte of memory and all other state is unchanged. -/
def State.onlyRegs (s : State) (rs : List Nat) (t : State) : Prop :=
  t = { s with regs := t.regs } ∧ ∀ o, o ∉ rs → t.reg o = s.reg o

/-- Nothing accepted waits to take effect. -/
def State.settled (s : State) : Prop := s.accepted = []

/-- A master may write the register at an offset now: nothing waits, it can make accesses, it is let to the place, and it is
unlocked (R34, R36, R44, R81, R101, R102, R373). -/
def State.mayWrite (s : State) (m o : Nat) : Prop :=
  s.settled ∧ s.canAccess m = true ∧ s.placeCodes m o true = [] ∧ s.unlocked m = true

/-- t is s with the rejection of an access reported as R78 says, and nothing else changed: master, address, code, and
whether it was a write. -/
def State.rejects (s : State) (m a c : Nat) (w : Bool) (t : State) : Prop :=
  t = { s with regs := t.regs, mem := t.mem, gleaner := t.gleaner } ∧
    (∀ o, o ≠ ACCESS_ERR m → o ≠ ACCESS_ERR_CNT → o ≠ GL_LOSS (blockOf (a % 2 ^ 40)) → t.reg o = s.reg o) ∧
    (∀ k, k < logBase ∨ logBase + 0x20000 ≤ k → t.byte k = s.byte k) ∧
    t.rd ACCESS_ERR_CNT_COUNT = min (s.rd ACCESS_ERR_CNT_COUNT + 1) (2 ^ 32 - 1) ∧
    (s.rd (ACCESS_ERR_CODE m) = 0 → t.rd (ACCESS_ERR_CODE m) = c % 2 ^ 8 ∧ t.rd (ACCESS_ERR_WRITE m) = b2n w ∧
      t.rd (ACCESS_ERR_OFFSET m) = a % 2 ^ 22) ∧
    (s.rd (ACCESS_ERR_CODE m) ≠ 0 → t.rd (ACCESS_ERR_OVERRUN m) = 1 ∧ t.rd (ACCESS_ERR_CODE m) = s.rd (ACCESS_ERR_CODE m) ∧
      t.rd (ACCESS_ERR_WRITE m) = s.rd (ACCESS_ERR_WRITE m) ∧ t.rd (ACCESS_ERR_OFFSET m) = s.rd (ACCESS_ERR_OFFSET m))

end Sys2Proof.Machine
end

