-- ==== Sys2Proof/Certificates/Slice0/Obligations.lean ====
section
/-! DEFINITION. The statements about the block, for the provers. -/

open Sys2Proof Sys2Proof.Machine

/-! Pass cores and Furrow (chapter 9). -/

/-- R222. The eight bit loads on a core that runs them and whose operand bit is reachable: LA takes the stated function of LA and the
bit, PC moves on, and nothing else changes. -/
def Obligations.BitLoadsSetTheLogicAccumulator : Prop :=
  ∀ (s : State) (n : Fin 4) (x : MemOp) (a k : Nat), s.bitAddr n .read x = .ok (a, k) →
    let c := s.ahead n
    let b := s.bit a k
    Runs n (.furLd n x) s (s.onlyCore n { c with la := b }) ∧
    Runs n (.furLdn n x) s (s.onlyCore n { c with la := !b }) ∧
    Runs n (.furAnd n x) s (s.onlyCore n { c with la := c.la && b }) ∧
    Runs n (.furAndn n x) s (s.onlyCore n { c with la := c.la && !b }) ∧
    Runs n (.furOr n x) s (s.onlyCore n { c with la := c.la || b }) ∧
    Runs n (.furOrn n x) s (s.onlyCore n { c with la := c.la || !b }) ∧
    Runs n (.furXor n x) s (s.onlyCore n { c with la := xor c.la b }) ∧
    Runs n (.furXorn n x) s (s.onlyCore n { c with la := xor c.la (!b) })

/-- R222, R237. The bit stores on a core that runs them and whose operand bit is reachable: ST stores LA, STN its complement, SET and
RST act only when LA is 1; only the one bit of the one byte changes. SET and RST make no access when LA is 0: they complete
whatever their operand is, even one that a load would fault on. -/
def Obligations.BitStoresChangeAtMostOneBit : Prop :=
  (∀ (s : State) (n : Fin 4) (x : MemOp) (a k : Nat), s.bitAddr n .write x = .ok (a, k) →
     let la := (s.core n).la
     let wrote (v : Bool) (t : State) : Prop :=
       s.onlyCoreAndBytes n (s.ahead n) a 1 t ∧ t.bit a k = v ∧ ∀ j, j < 8 → j ≠ k → t.bit a j = s.bit a j
     Runs n (.furSt n x) s (wrote la) ∧
     Runs n (.furStn n x) s (wrote (!la)) ∧
     (la = true → Runs n (.furSet n x) s (wrote true) ∧ Runs n (.furRst n x) s (wrote false))) ∧
  (∀ (s : State) (n : Fin 4) (x : MemOp), (s.core n).la = false →
     Runs n (.furSet n x) s (s.onlyCore n (s.ahead n)) ∧ Runs n (.furRst n x) s (s.onlyCore n (s.ahead n)))

/-- R223. Nested logic on a core that runs them: PUSH below 16 entries stores LA with its operation, POP applies the stored
operation as (v op LA), NOT, SETLA and CLRLA act on LA, PEEK takes v and DROP discards the top entry. -/
def Obligations.NestedLogicUsesTheBranchStack : Prop :=
  ∀ (s : State) (n : Fin 4), let c := s.ahead n
    (∀ op : BitVec 3, c.branch.length < 16 →
      Runs n (.furPush n op) s (s.onlyCore n { c with branch := (c.la, op.toNat) :: c.branch })) ∧
    Runs n (.furNot n) s (s.onlyCore n { c with la := !c.la }) ∧
    Runs n (.furSetla n) s (s.onlyCore n { c with la := true }) ∧
    Runs n (.furClrla n) s (s.onlyCore n { c with la := false }) ∧
    (∀ v op r, c.branch = (v, op) :: r →
      Runs n (.furPeek n) s (s.onlyCore n { c with la := v }) ∧
      Runs n (.furDrop n) s (s.onlyCore n { c with branch := r }) ∧
      (op = 0 → Runs n (.furPop n) s (s.onlyCore n { c with branch := r, la := v && c.la })) ∧
      (op = 1 → Runs n (.furPop n) s (s.onlyCore n { c with branch := r, la := v && !c.la })) ∧
      (op = 2 → Runs n (.furPop n) s (s.onlyCore n { c with branch := r, la := v || c.la })) ∧
      (op = 3 → Runs n (.furPop n) s (s.onlyCore n { c with branch := r, la := v || !c.la })) ∧
      (op = 4 → Runs n (.furPop n) s (s.onlyCore n { c with branch := r, la := xor v c.la })) ∧
      (op = 5 → Runs n (.furPop n) s (s.onlyCore n { c with branch := r, la := xor v (!c.la) })) ∧
      (op = 6 → Runs n (.furPop n) s (s.onlyCore n { c with branch := r, la := v })))

/-- R224, R213. The word loads on a core that runs them and whose operand is reachable, into W0 or W1: the bytes at the address the
operand computes, widened as the mnemonic says. -/
def Obligations.WordLoadsWidenTheOperand : Prop :=
  ∀ (s : State) (n : Fin 4) (w1 : Bool) (x : MemOp) (a : Nat), let put (v : DWord) : PassCore := if w1 then { s.ahead n with w1 := v } else { s.ahead n with w0 := v }
    (s.wordAddr n .read 1 x = .ok a →
      Runs n (.furLw8u n w1 x) s (s.onlyCore n (put (BitVec.ofNat 64 (s.ld a 1)))) ∧
      Runs n (.furLw8s n w1 x) s (s.onlyCore n (put ((BitVec.ofNat 8 (s.ld a 1)).signExtend 64)))) ∧
    (s.wordAddr n .read 2 x = .ok a →
      Runs n (.furLw16u n w1 x) s (s.onlyCore n (put (BitVec.ofNat 64 (s.ld a 2)))) ∧
      Runs n (.furLw16s n w1 x) s (s.onlyCore n (put ((BitVec.ofNat 16 (s.ld a 2)).signExtend 64)))) ∧
    (s.wordAddr n .read 4 x = .ok a →
      Runs n (.furLw32u n w1 x) s (s.onlyCore n (put (BitVec.ofNat 64 (s.ld a 4)))) ∧
      Runs n (.furLw32s n w1 x) s (s.onlyCore n (put ((BitVec.ofNat 32 (s.ld a 4)).signExtend 64))) ∧
      Runs n (.furLwf32 n w1 x) s (s.onlyCore n (put (BitVec.ofNat 64 (f32to64 (s.ld a 4)))))) ∧
    (s.wordAddr n .read 8 x = .ok a →
      Runs n (.furLw64 n w1 x) s (s.onlyCore n (put (BitVec.ofNat 64 (s.ld a 8)))))

/-- R224, R213, R211. The word stores on a core that runs them and whose operand is reachable: the bytes at the address the operand
computes take the low bits of W0, or W0 rounded to f32; no byte outside them changes. SW64 also stores fresh check bits
over its word. -/
def Obligations.WordStoresWriteTheirBytes : Prop :=
  ∀ (s : State) (n : Fin 4) (x : MemOp) (a : Nat), let w := (s.core n).w0.toNat
    let stored (z v : Nat) (c : PassCore) (t : State) : Prop := s.onlyCoreAndBytes n c a z t ∧ t.ld a z = v
    (s.wordAddr n .write 1 x = .ok a → Runs n (.furSw8 n x) s (stored 1 (w % 2 ^ 8) (s.ahead n))) ∧
    (s.wordAddr n .write 2 x = .ok a → Runs n (.furSw16 n x) s (stored 2 (w % 2 ^ 16) (s.ahead n))) ∧
    (s.wordAddr n .write 4 x = .ok a →
      Runs n (.furSw32 n x) s (stored 4 (w % 2 ^ 32) (s.ahead n)) ∧
      Runs n (.furSwf32 n x) s
        (stored 4 ((f64to32 w).1 % 2 ^ 32) ((s.ahead n).raiseFlags (f64to32 w).2))) ∧
    (s.wordAddr n .write 8 x = .ok a →
      Runs n (.furSw64 n x) s (fun t => t.ld a 8 = w ∧ t.memBad = s.memBad.filter (fun v => v != a) ∧
        s.onlyCoreAndBytes n (s.ahead n) a 8 { t with memBad := s.memBad }))

/-- R224, R225. Immediates, moves and bases; the bitwise operations, the shifts by W1[5:0] and the signed minimum and maximum.
No flag changes. -/
def Obligations.ImmediatesMovesAndWordLogic : Prop :=
  ∀ (s : State) (n : Fin 4), let c := s.ahead n
    let dest (v : DWord) : State → Prop := s.onlyCore n { c with w0 := v }
    (∀ imm : BitVec 24,
      Runs n (.furLdi n imm) s (s.onlyCore n { c with w0 := imm.signExtend 64 }) ∧
      Runs n (.furLdi1 n imm) s (s.onlyCore n { c with w1 := imm.signExtend 64 }) ∧
      Runs n (.furLih n imm) s (s.onlyCore n { c with
        w0 := c.w0.extractLsb' 48 16 ++ imm ++ c.w0.extractLsb' 0 24 })) ∧
    (∀ imm : BitVec 16, Runs n (.furLit n imm) s (s.onlyCore n { c with w0 := imm ++ c.w0.extractLsb' 0 48 })) ∧
    Runs n (.furSwap n) s (s.onlyCore n { c with w0 := c.w1, w1 := c.w0 }) ∧
    Runs n (.furMov n) s (s.onlyCore n { c with w1 := c.w0 }) ∧
    (∀ imm : BitVec 18,
      Runs n (.furLdb n 1 imm) s (s.onlyCore n { c with b1 := imm ++ (0 : BitVec 4) }) ∧
      Runs n (.furLdb n 2 imm) s (s.onlyCore n { c with b2 := imm ++ (0 : BitVec 4) }) ∧
      Runs n (.furLdb n 3 imm) s (s.onlyCore n { c with b3 := imm ++ (0 : BitVec 4) })) ∧
    Runs n (.furAdb n 1) s (s.onlyCore n { c with b1 := c.b1 + c.w0.setWidth 22 }) ∧
    Runs n (.furAdb n 2) s (s.onlyCore n { c with b2 := c.b2 + c.w0.setWidth 22 }) ∧
    Runs n (.furAdb n 3) s (s.onlyCore n { c with b3 := c.b3 + c.w0.setWidth 22 }) ∧
    Runs n (.furWordAnd n) s (dest (c.w0 &&& c.w1)) ∧
    Runs n (.furWordOr n) s (dest (c.w0 ||| c.w1)) ∧
    Runs n (.furWordXor n) s (dest (c.w0 ^^^ c.w1)) ∧
    Runs n (.furShl n) s (dest (c.w0 <<< (c.w1.setWidth 6).toNat)) ∧
    Runs n (.furShr n) s (dest (c.w0 >>> (c.w1.setWidth 6).toNat)) ∧
    Runs n (.furSar n) s (dest (c.w0.sshiftRight (c.w1.setWidth 6).toNat)) ∧
    Runs n (.furMin n) s (dest (if c.w0.slt c.w1 then c.w0 else c.w1)) ∧
    Runs n (.furMax n) s (dest (if c.w0.slt c.w1 then c.w1 else c.w0))

/-- R225, R226. ADD, SUB, MUL, NEG and ABS wrap modulo 2⁶⁴ and set OV exactly when the signed result does not fit; ADDS
saturates and sets OV exactly when it does; DIV truncates toward zero and MOD takes the sign of W0; a divisor of 0 gives 0 and
DZ; −2⁶³ / −1 wraps to −2⁶³ and sets OV, and MOD of the same operands gives 0. W1 and the other flags are unchanged. -/
def Obligations.IntegerArithmeticSetsItsFlags : Prop :=
  ∀ (s : State) (n : Fin 4), let c := s.ahead n
    let fits (i : Int) : Bool := decide (-(2 ^ 63) ≤ i) && decide (i < 2 ^ 63)
    let special := c.w0 = BitVec.intMin 64 ∧ c.w1 = BitVec.allOnes 64
    Runs n (.furAdd n) s (s.onlyCore n { c with w0 := c.w0 + c.w1, ov := c.ov || !fits (c.w0.toInt + c.w1.toInt) }) ∧
    Runs n (.furSub n) s (s.onlyCore n { c with w0 := c.w0 - c.w1, ov := c.ov || !fits (c.w0.toInt - c.w1.toInt) }) ∧
    Runs n (.furMul n) s (s.onlyCore n { c with w0 := c.w0 * c.w1, ov := c.ov || !fits (c.w0.toInt * c.w1.toInt) }) ∧
    Runs n (.furNeg n) s (s.onlyCore n { c with w0 := -c.w0, ov := c.ov || c.w0 == BitVec.intMin 64 }) ∧
    Runs n (.furAbs n) s (s.onlyCore n { c with
      w0 := if c.w0.toInt < 0 then -c.w0 else c.w0
      ov := c.ov || c.w0 == BitVec.intMin 64 }) ∧
    Runs n (.furAdds n) s (s.onlyCore n { c with
      w0 := if 2 ^ 63 ≤ c.w0.toInt + c.w1.toInt then BitVec.intMax 64
        else if c.w0.toInt + c.w1.toInt < -(2 ^ 63) then BitVec.intMin 64 else c.w0 + c.w1
      ov := c.ov || !fits (c.w0.toInt + c.w1.toInt) }) ∧
    (c.w1 = 0 →
      Runs n (.furDiv n) s (s.onlyCore n { c with w0 := 0, dz := true }) ∧
      Runs n (.furMod n) s (s.onlyCore n { c with w0 := 0, dz := true })) ∧
    (c.w1 ≠ 0 →
      (¬ special → Runs n (.furDiv n) s (s.onlyCore n { c with w0 := c.w0.sdiv c.w1 })) ∧
      (special → Runs n (.furDiv n) s (s.onlyCore n { c with w0 := BitVec.intMin 64, ov := true })) ∧
      (special → Runs n (.furMod n) s (s.onlyCore n { c with w0 := 0 })) ∧
      Runs n (.furMod n) s (s.onlyCore n { c with w0 := c.w0.srem c.w1 }))

/-- R225, R226. Every floating-point operation completes for every operand with the result and the flags of binary64
arithmetic; FABS clears the sign bit and FNEG inverts it; ITOF and FTOI convert. W1 is unchanged.
Points in it that the spec leaves open are the model's choice: log entries 9 and 14. -/
def Obligations.FloatingPointCompletes : Prop :=
  ∀ (s : State) (n : Fin 4), let c := s.ahead n
    let a := c.w0.toNat
    let b := c.w1.toNat
    let dest (r : Nat × FpFlags) : State → Prop := s.onlyCore n ({ c with w0 := BitVec.ofNat 64 r.1 }.raiseFlags r.2)
    Runs n (.furFadd n) s (dest (fpAdd fmt64 a b)) ∧
    Runs n (.furFsub n) s (dest (fpSub fmt64 a b)) ∧
    Runs n (.furFmul n) s (dest (fpMul fmt64 a b)) ∧
    Runs n (.furFdiv n) s (dest (fpDiv fmt64 a b)) ∧
    Runs n (.furFsqrt n) s (dest (fpSqrt fmt64 a)) ∧
    Runs n (.furFmin n) s (dest (fpMinMax fmt64 false a b)) ∧
    Runs n (.furFmax n) s (dest (fpMinMax fmt64 true a b)) ∧
    Runs n (.furFabs n) s (s.onlyCore n { c with w0 := (0 : BitVec 1) ++ c.w0.extractLsb' 0 63 }) ∧
    Runs n (.furFneg n) s (s.onlyCore n { c with w0 := (~~~ c.w0.extractLsb' 63 1) ++ c.w0.extractLsb' 0 63 }) ∧
    Runs n (.furItof n) s (dest (fpOfInt fmt64 c.w0.toInt, fpNone)) ∧
    Runs n (.furFtoi n) s (s.onlyCore n { c with
      w0 := BitVec.ofInt 64 (fpToInt fmt64 64 a).1
      nv := c.nv || (fpToInt fmt64 64 a).2 })

/-- R226. FADD, FSUB, FMUL and FDIV with a NaN operand return that NaN with bit 51 set, W0 where both operands are NaNs,
and set NV exactly where an operand is a signalling NaN; FDIV of a finite non-zero value by ±0 gives an infinity whose sign
is the exclusive-or of the operands' signs, and sets DZ. -/
def Obligations.NansAndDivisionByZero : Prop :=
  ∀ (s : State) (n : Fin 4), let c := s.ahead n
    let nan (w : DWord) : Bool := w.extractLsb' 52 11 == BitVec.allOnes 11 && w.extractLsb' 0 52 != 0
    let quiet (w : DWord) : Bool := w.getLsbD 51
    let signalling : Bool := (nan c.w0 && !quiet c.w0) || (nan c.w1 && !quiet c.w1)
    let r : DWord := (if nan c.w0 then c.w0 else c.w1) ||| (0x0008000000000000 : DWord)
    let dest : State → Prop := s.onlyCore n { c with w0 := r, nv := c.nv || signalling }
    (nan c.w0 = true ∨ nan c.w1 = true →
      Runs n (.furFadd n) s dest ∧ Runs n (.furFsub n) s dest ∧ Runs n (.furFmul n) s dest ∧
        Runs n (.furFdiv n) s dest) ∧
    (c.w0.extractLsb' 52 11 ≠ BitVec.allOnes 11 → c.w0.extractLsb' 0 63 ≠ 0 → c.w1.extractLsb' 0 63 = 0 →
      Runs n (.furFdiv n) s (s.onlyCore n { c with
        w0 := (c.w0.extractLsb' 63 1 ^^^ c.w1.extractLsb' 63 1) ++ (0x7FF0000000000000 : BitVec 63)
        dz := true }))

/-- R227. Comparisons join LA as [5:3] selects, under the condition of [2:0] with W0 on the left; FCMP is false for every
condition but NE where an operand is a NaN, and sets NV there; LDWB and STWB move one bit. -/
def Obligations.ComparisonsJoinTheLogicAccumulator : Prop :=
  ∀ (s : State) (n : Fin 4) (join cond : BitVec 3), join.toNat ≤ 3 → cond.toNat ≤ 5 →
    let c := s.ahead n
    let holds (lt eq : Bool) : Bool :=
      (cond == 0 && eq) || (cond == 1 && !eq) || (cond == 2 && lt) || (cond == 3 && (lt || eq)) ||
        (cond == 4 && !lt && !eq) || (cond == 5 && !lt)
    let joined (r : Bool) : Bool :=
      (join == 0 && r) || (join == 1 && c.la && r) || (join == 2 && (c.la || r)) || (join == 3 && xor c.la r)
    let unordered : Bool := fpIsNan fmt64 c.w0.toNat || fpIsNan fmt64 c.w1.toNat
    Runs n (.furCmp n join cond) s
      (s.onlyCore n { c with la := joined (holds (decide (c.w0.toInt < c.w1.toInt)) (c.w0 == c.w1)) }) ∧
    Runs n (.furCmpu n join cond) s
      (s.onlyCore n { c with la := joined (holds (decide (c.w0.toNat < c.w1.toNat)) (c.w0 == c.w1)) }) ∧
    (unordered = true → Runs n (.furFcmp n join cond) s
      (s.onlyCore n { c with la := joined (cond == 1), nv := true })) ∧
    (unordered = false → Runs n (.furFcmp n join cond) s
      (s.onlyCore n { c with la := joined (holds (fpCmp fmt64 c.w0.toNat c.w1.toNat == .lt)
        (fpCmp fmt64 c.w0.toNat c.w1.toNat == .eq)) })) ∧
    (∀ k : Fin 64,
      Runs n (.furLdwb n k) s (s.onlyCore n { c with la := c.w0.getLsbD k.val }) ∧
      Runs n (.furStwb n k) s (fun t => s.onlyCore n { c with w0 := (t.core n).w0 } t ∧
        (t.core n).w0.getLsbD k.val = c.la ∧
        ∀ j, j < 64 → j ≠ k.val → (t.core n).w0.getLsbD j = c.w0.getLsbD j))

/-- R221, R228. A core runs only the instruction that the word at its PC spells: the command of any other does nothing on a core
that fetches. Jumps go to a signed offset from the instruction after the jump; JC and JNC only where LA says so; LOOPW
decrements W1 and jumps while it is not 0; CALL pushes the return index below 16 entries and RET takes it back; NOP only
moves on; FLG and FLC read and clear the flags. -/
def Obligations.ControlInstructions : Prop :=
  (∀ (s : State) (n : Fin 4) (i j : Instr), furrowCore i = some n → encodeFurrow i ≠ encodeFurrow j → s.coreReady n j →
    exec i s = .next s) ∧
  ∀ (s : State) (n : Fin 4) (disp : BitVec 24) (dest : Nat), (dest : Int) = ((s.core n).pc : Int) + 1 + disp.toInt → dest < 2 ^ 20 →
    let c := s.ahead n
    Runs n (.furJmp n disp) s (s.onlyCore n { c with pc := dest }) ∧
    Runs n (.furJc n disp) s (s.onlyCore n (if c.la then { c with pc := dest } else c)) ∧
    Runs n (.furJnc n disp) s (s.onlyCore n (if c.la then c else { c with pc := dest })) ∧
    Runs n (.furLoopw n disp) s
      (s.onlyCore n { c with w1 := c.w1 - 1, pc := if c.w1 - 1 = 0 then c.pc else dest }) ∧
    (c.calls.length < 16 →
      Runs n (.furCall n disp) s (s.onlyCore n { c with calls := ⟨c.pc, none⟩ :: c.calls, pc := dest })) ∧
    (∀ e r, c.calls = e :: r → e.fb = none →
      Runs n (.furRet n) s (s.onlyCore n { c with calls := r, pc := e.ret })) ∧
    Runs n (.furNop n) s (s.onlyCore n c) ∧
    Runs n (.furFlg n) s
      (s.onlyCore n { c with w0 := BitVec.ofNat 64 (b2n c.ov + 2 * b2n c.dz + 4 * b2n c.nv) }) ∧
    Runs n (.furFlc n) s (s.onlyCore n { c with ov := false, dz := false, nv := false })

/-- R228, R259. CALLFB: with EN = LA = 0 nothing changes; with EN = 1, a frame inside the L share, room on the call stack and no
uncorrectable word, the parameters are copied in and the block is entered with the registers of step 4; no byte outside the
block's inputs changes. RET at a block's own top level copies the outputs into the frame after the inputs, sets LAST_MS to
PASS_MS and FIRST_CALL to 0, restores B1 to B3 and continues after the call; LA, W0, W1 and the flags stay as the block left
them. The frame lies below the block's record, as every frame that CALLFB admits does. -/
def Obligations.FunctionBlocksEnterAndReturn : Prop :=
  (∀ (s : State) (n : Fin 4) (inst : BitVec 14) (b : FbBlock) (a : Nat), s.fbBlock? inst.toNat = some b → s.instAddr? inst.toNat = some a →
     let c := s.ahead n
     let frame := areaL + 0x10000 * n.val + c.b3.toNat
     let body := a + 16 + b.inOff
     (c.la = false → Runs n (.furCallfb n inst) s (s.onlyCore n c)) ∧
     (c.la = true → c.b3.toNat + b.inLen + b.outLen ≤ 0x10000 → c.calls.length < 16 →
       s.eccFault frame b.inLen = false → s.eccFault a 16 = false →
       Runs n (.furCallfb n inst) s (fun t =>
         t.bytes body b.inLen = s.bytes frame b.inLen ∧ (∀ k, k < body ∨ body + b.inLen ≤ k → t.byte k = s.byte k) ∧
         (∀ m, m ≠ n → t.core m = s.core m) ∧ t.regs = s.regs ∧
         t.core n = { c with
           calls := ⟨c.pc, some ⟨inst.toNat, c.b1, c.b2, c.b3, c.branch.length, frame⟩⟩ :: c.calls
           pc := b.entry
           b1 := 0
           b2 := 0
           b3 := 0
           la := true
           w0 := BitVec.ofNat 64 (if s.ld (a + 6) 2 % 2 = 1 then 0 else s.passMs - s.ld (a + 8) 8)
           w1 := BitVec.ofNat 64 (s.ld (a + 6) 2 % 2) }))) ∧
  (∀ (s : State) (n : Fin 4) (e : CallEntry) (r : List CallEntry) (fb : FbFrame) (b : FbBlock) (a : Nat), (s.core n).calls = e :: r → e.fb = some fb → s.fbBlock? fb.inst = some b → s.instAddr? fb.inst = some a →
     (s.core n).branch.length = fb.depth → s.eccFault (a + 16 + b.outOff) b.outLen = false →
     fb.frame + b.inLen + b.outLen ≤ a →
     Runs n (.furRet n) s (fun t =>
       t.bytes (fb.frame + b.inLen) b.outLen = s.bytes (a + 16 + b.outOff) b.outLen ∧
       t.ld (a + 8) 8 = s.passMs ∧ t.ld (a + 6) 2 % 2 = 0 ∧ t.ld (a + 6) 2 / 2 = s.ld (a + 6) 2 / 2 ∧
       (∀ k, (k < fb.frame + b.inLen ∨ fb.frame + b.inLen + b.outLen ≤ k) → (k < a + 6 ∨ a + 16 ≤ k) → t.byte k = s.byte k) ∧
       (∀ m, m ≠ n → t.core m = s.core m) ∧ t.regs = s.regs ∧
       t.core n = { s.ahead n with calls := r, pc := e.ret, b1 := fb.b1, b2 := fb.b2, b3 := fb.b3 }))

/-- R235. BAR b arrives at b and at every barrier below b in which the strip participates, and the core waits; other cores and
all registers but the core's status and PASS_PHASE are unchanged, as is memory. BARRIER_RELEASE: once every
participant has arrived, all that wait at the barrier run again, and the others stay as they are; before that nothing happens. -/
def Obligations.BarriersHoldUntilAllHaveArrived : Prop :=
  (∀ (s : State) (n : Fin 4) (b : Fin 16), b.val ∉ (s.core n).arrived →
     Runs n (.furBar n b) s (fun t =>
       (∀ k, k ∈ (t.core n).arrived ↔ k = b.val ∨ k ∈ (s.core n).arrived ∨ (k < b.val ∧ k ∈ s.barriers n)) ∧
       (t.core n).waiting = some b.val ∧ (t.core n).pc = (s.core n).pc + 1 ∧ (t.core n).la = (s.core n).la ∧
       t.rd (PASS_CORE_STAT_STATE n.val) = coreWaiting ∧ (∀ m, m ≠ n → t.core m = s.core m) ∧
       (∀ o, o ≠ PASS_CORE_STAT n.val → o ≠ PASS_PHASE → t.reg o = s.reg o) ∧ t.mem = s.mem)) ∧
  (∀ (s : State) (b : Fin 16),
     (s.allArrived b.val = true →
       Completes (.barrierRelease b) s (fun t =>
         (∀ n : Fin 4, (s.core n).waiting = some b.val →
           t.core n = { s.core n with waiting := none } ∧ t.rd (PASS_CORE_STAT_STATE n.val) = coreRunning) ∧
         (∀ n : Fin 4, (s.core n).waiting ≠ some b.val →
           t.core n = s.core n ∧ t.reg (PASS_CORE_STAT n.val) = s.reg (PASS_CORE_STAT n.val)) ∧ t.mem = s.mem)) ∧
     (s.allArrived b.val = false → exec (.barrierRelease b) s = .next s))

/-- R210, R235, R242. END: the strip stops and counts as arrived at every barrier of its own; the flags of the pass are
ORed into PASS_CORE_STAT.FLAGS; a non-empty stack is discarded with UNBALANCED and an F0 of source PASS.
Points in it that the spec leaves open are the model's choice: log entry 8. -/
def Obligations.EndStopsTheStrip : Prop :=
  ∀ (s : State) (n : Fin 4), let c := s.core n
    Runs n (.furEnd n) s (fun t =>
      (t.core n).arrived = s.barriers n ∧ (t.core n).branch = [] ∧ (t.core n).calls = [] ∧ (t.core n).waiting = none ∧
      t.rd (PASS_CORE_STAT_STATE n.val) = coreIdle ∧ (∀ m, m ≠ n → t.core m = s.core m) ∧
      t.rd (PASS_CORE_STAT_FLAGS n.val) = (s.rd (PASS_CORE_STAT_FLAGS n.val) ||| c.flagBits) ∧
      (c.branch = [] → c.calls = [] →
        t.mem = s.mem ∧ ∀ o, o ≠ PASS_CORE_STAT n.val → o ≠ PASS_PHASE → t.reg o = s.reg o) ∧
      (c.branch ≠ [] ∨ c.calls ≠ [] →
        t.rd (PASS_CORE_STAT_UNBALANCED n.val) = 1 ∧ t.rd GLOBAL_FAULT_LAST_CODE = UNBALANCED ∧
          t.rd GLOBAL_FAULT_LAST_SOURCE = bPass ∧ t.rd GLOBAL_FAULT_LAST_CLASS = 0))

/-- A timer, counter or edge record of a core's strip (R213, R239): its index lies in the strip's share, no block runs, and
its words can be read. -/
def recordReady (s : State) (n : Fin 4) (share : Strip → Nat × Nat) (base size : Nat) (index : BitVec 13) : Prop :=
  (∃ st, s.strip? n = some st ∧ (share st).1 ≤ index.toNat ∧ index.toNat < (share st).1 + (share st).2) ∧
    (s.core n).inFb = none ∧ s.eccFault (base + size * index.toNat) size = false

/-- The fields of a timer record as R230 lays them out. -/
def timerHas (t : State) (a : Nat) (inPrev q run : Bool) (pt et last : Nat) : Prop :=
  t.bit (a + 4) 0 = inPrev ∧ t.bit (a + 4) 1 = q ∧ t.bit (a + 4) 2 = run ∧ t.ld (a + 8) 4 = pt ∧ t.ld (a + 12) 4 = et ∧
    t.ld (a + 16) 8 = last

/-- R228, R230, R232. TON, TOF and TP evaluate as the rule's text: with Δ since LAST_MS and PT clamped to 0 … 2³¹ − 1 (OV where
clamped), the record takes the new RUN, ET and Q, LA takes Q and W0 takes ET; TRD reads Q and ET without an evaluation; TRS
clears RUN, ET and Q where LA is 1 and changes nothing where it is 0; the record's IDENT and every byte outside it are unchanged. -/
def Obligations.TimersEvaluateReadAndReset : Prop :=
  (∀ (s : State) (n : Fin 4) (index : BitVec 13),
     recordReady s n (fun st => (st.tBase, st.tCount)) areaT 32 index →
     let a := areaT + 32 * index.toNat
     let c := s.ahead n
     let inp := c.la
     let run := s.bit (a + 4) 2
     let q := s.bit (a + 4) 1
     let et := s.ld (a + 12) 4
     let w := c.w0.toInt
     let pt := (max 0 (min w (2 ^ 31 - 1))).toNat
     let sum := min pt (et + (s.passMs - s.ld (a + 16) 8))
     let gives (i : Instr) (q' run' : Bool) (et' : Nat) : Prop :=
       Runs n i s (fun t => timerHas t a inp q' run' pt et' s.passMs ∧
         s.onlyCoreAndBytes n { c with
           la := q'
           w0 := BitVec.ofNat 64 et'
           ov := c.ov || decide (w < 0) || decide (2 ^ 31 ≤ w) } (a + 4) 20 t)
     (inp = false → gives (.furTon n index) false false 0) ∧
     (inp = true → run = false → gives (.furTon n index) (decide (pt = 0)) true 0) ∧
     (inp = true → run = true → gives (.furTon n index) (decide (pt ≤ sum)) true sum) ∧
     (inp = true → gives (.furTof n index) true false 0) ∧
     (inp = false → q = false → gives (.furTof n index) false run et) ∧
     (inp = false → q = true → run = false →
       gives (.furTof n index) (decide (pt ≠ 0)) (decide (pt ≠ 0)) 0) ∧
     (inp = false → q = true → run = true →
       gives (.furTof n index) (decide (sum < pt)) (decide (sum < pt)) sum) ∧
     (run = true → gives (.furTp n index) (decide (sum < pt) && q) (decide (sum < pt)) sum) ∧
     (run = false → inp = true → s.bit (a + 4) 0 = false →
       gives (.furTp n index) (decide (pt ≠ 0)) (decide (pt ≠ 0)) 0) ∧
     (run = false → inp = true → s.bit (a + 4) 0 = true → gives (.furTp n index) q false et) ∧
     (run = false → inp = false → gives (.furTp n index) q false 0)) ∧
  (∀ (s : State) (n : Fin 4) (index : BitVec 13),
     recordReady s n (fun st => (st.tBase, st.tCount)) areaT 32 index →
     let a := areaT + 32 * index.toNat
     let c := s.ahead n
     Runs n (.furTrd n index) s
       (s.onlyCore n { c with la := s.bit (a + 4) 1, w0 := BitVec.ofNat 64 (s.ld (a + 12) 4) }) ∧
     (c.la = false → Runs n (.furTrs n index) s (s.onlyCore n c)) ∧
     (c.la = true → Runs n (.furTrs n index) s (fun t =>
       timerHas t a (s.bit (a + 4) 0) false false (s.ld (a + 8) 4) 0 (s.ld (a + 16) 8) ∧
       s.onlyCoreAndBytes n c (a + 4) 20 t)))

/-- R228, R230, R233, R234. The counter instructions: CTU and CTD count a rising LA, saturating, and report CV ≥ PV and CV ≤ 0;
CRS and CLV act where LA is 1; CPV clamps W0 into PV with OV; CRD reads CV and CV ≥ PV. RTRG and FTRG report the rising and
the falling edge of LA against PREV; a record with FRESH takes its first input without reporting one; PREV takes LA, FRESH is
cleared. No other byte of a record changes. -/
def Obligations.CountersAndEdgeDetectors : Prop :=
  (∀ (s : State) (n : Fin 4) (index : BitVec 13),
     recordReady s n (fun st => (st.nBase, st.nCount)) areaN 16 index →
     let a := areaN + 16 * index.toNat
     let c := s.ahead n
     let cv := s.ldS (a + 4) 4
     let pv := s.ldS (a + 8) 4
     let up := if c.la && !s.bit (a + 12) 0 then min (cv + 1) (2 ^ 31 - 1) else cv
     let down := if c.la && !s.bit (a + 12) 1 then max (cv - 1) (-(2 ^ 31)) else cv
     let w := c.w0.toInt
     let pv' := max (-(2 ^ 31)) (min w (2 ^ 31 - 1))
     let holds (c' : PassCore) (cv' pv' : Int) (cu cd : Bool) (t : State) : Prop :=
       t.ldS (a + 4) 4 = cv' ∧ t.ldS (a + 8) 4 = pv' ∧ t.bit (a + 12) 0 = cu ∧ t.bit (a + 12) 1 = cd ∧
         s.onlyCoreAndBytes n c' (a + 4) 12 t
     let cu := s.bit (a + 12) 0
     let cd := s.bit (a + 12) 1
     Runs n (.furCtu n index) s (holds { c with la := decide (pv ≤ up) } up pv c.la cd) ∧
     Runs n (.furCtd n index) s (holds { c with la := decide (down ≤ 0) } down pv cu c.la) ∧
     Runs n (.furCrs n index) s (holds c (if c.la then 0 else cv) pv cu cd) ∧
     Runs n (.furClv n index) s (holds c (if c.la then pv else cv) pv cu cd) ∧
     Runs n (.furCpv n index) s (holds { c with ov := c.ov || decide (pv' ≠ w) } cv pv' cu cd) ∧
     Runs n (.furCrd n index) s (s.onlyCore n { c with w0 := BitVec.ofInt 64 cv, la := decide (pv ≤ cv) })) ∧
  (∀ (s : State) (n : Fin 4) (index : BitVec 13),
     recordReady s n (fun st => (st.eBase, st.eCount)) areaE 8 index →
     let a := areaE + 8 * index.toNat
     let c := s.ahead n
     let prev := s.bit (a + 4) 0
     let fresh := s.bit (a + 4) 1
     let takes (q : Bool) (t : State) : Prop :=
       t.bit (a + 4) 0 = c.la ∧ t.bit (a + 4) 1 = false ∧ s.onlyCoreAndBytes n { c with la := q } (a + 4) 1 t
     Runs n (.furRtrg n index) s (takes (!fresh && c.la && !prev)) ∧
     Runs n (.furFtrg n index) s (takes (!fresh && prev && !c.la)))

/-- R236. WRR is the 32-bit register write that master 2 + n makes of W0[31:0], beside the move to the next instruction;
RDR takes into W0 what a 32-bit read by master 2 + n returns, zero-extended, with the read's side effects, once that core's
earlier writes have landed; HIST offers W0 to the definition named, with the TIME of the pass's header (R404). -/
def Obligations.SystemAccessOfACore : Prop :=
  ∀ (s : State) (n : Fin 4), let c := s.ahead n
    (∀ reg : BitVec 22, s.coreReady n (.furWrr n reg) → ∃ t,
      exec (.registerWrite ⟨2 + n.val, by omega⟩ 32 (4 * reg.toNat) (c.w0.toNat % 2 ^ 32)) (s.setCore n c) = .next t ∧
      exec (.furWrr n reg) s = .next t) ∧
    (∀ reg : BitVec 22, s.fabric.inFlight = [] → s.canAccess (2 + n.val) = true → ∃ (v : Nat) (t u : State),
      exec (.registerRead ⟨2 + n.val, by omega⟩ 32 (4 * reg.toNat)) s = .next t ∧
      t.outbox = .readData (2 + n.val) (4 * reg.toNat) v :: u.outbox ∧ t = { u with outbox := t.outbox } ∧
      Runs n (.furRdr n reg) s (u.onlyCore n { c with w0 := BitVec.ofNat 64 v })) ∧
    (∀ defn : BitVec 10, Runs n (.furHist n defn) s (fun t =>
      t.core n = c ∧ (∀ m, m ≠ n → t.core m = s.core m) ∧ t.mem = s.mem ∧
      (s.gleaner.fifo.length < 256 →
        t.gleaner.fifo = s.gleaner.fifo ++ [(defn.toNat, c.w0, s.ld (s.inBase + 0x10) 8)] ∧ t.regs = s.regs)))


/-! The register fabric, semaphores, the configuration check, clocks and calendar time (chapters 3 and 18). -/

/-- R10, R35, R36, R73, R77, R78, R81. A write or a read that breaks rules of width, alignment, place or register, or at a memory address
those of R35 and R36, is reported with the lowest of their codes, and nothing else changes; a write re-arms its master's lock at
most, and a read returns 0. A memory write that breaks none changes the bytes it names and no other. A master that can make no
access, a host apart, changes nothing. -/
def Obligations.RejectedAccessesAreReportedAlone : Prop :=
  (∀ (cs : List Nat) (c : Nat), pickCode cs = some c → c ∈ cs ∧ ∀ d ∈ cs, c ≤ d) ∧
  ∀ (s : State) (m : Fin 16) (width addr data c : Nat), width ≠ 0 →
    (s.canAccess m = true → addr < 0x400000 →
      (pickCode (s.regWriteCodes m width addr data) = some c →
        Completes (.registerWrite m width addr data) s (fun t =>
          s.rejects m addr c true t ∨ (s.relock m).rejects m addr c true t)) ∧
      (pickCode (widthCodes false width addr ++ s.placeCodes m (addr / 4 * 4) false) = some c →
        Completes (.registerRead m width addr) s (fun t =>
          ∃ u, s.rejects m addr c false u ∧ t = u.send (.readData m addr 0)))) ∧
    (s.canAccess m = true → 0x400000 ≤ addr →
      (pickCode (s.memCodes m width addr true) = some c →
        Completes (.registerWrite m width addr data) s (s.rejects m addr c true)) ∧
      (pickCode (s.memCodes m width addr false) = some c →
        Completes (.registerRead m width addr) s (fun t =>
          ∃ u, s.rejects m addr c false u ∧ t = u.send (.readData m addr 0))) ∧
      (s.memCodes m width addr true = [] →
        Completes (.registerWrite m width addr data) s (fun t => t.ld addr (width / 8) = data % 2 ^ width ∧
          (∀ k, k < addr ∨ addr + width / 8 ≤ k → t.byte k = s.byte k) ∧ t = { s with mem := t.mem, memBad := t.memBad }))) ∧
    (s.canAccess m = false → exec (.registerWrite m width addr data) s = .next s ∧
      (isHost m = false → exec (.registerRead m width addr) s = .next s))

/-- R73, R74, R77, R80, R82. GLOBAL_SCRATCH and its aliases: the register takes the value written, and its set, clear
and toggle aliases lay theirs over the value in force; a write of 8 or 16 bits is rejected with E_WIDTH; a read of the register
or of an alias returns the value; nothing else changes. -/
def Obligations.ScratchAndItsAliases : Prop :=
  ∀ (s : State) (m : Fin 16) (d : Word), s.settled → s.canAccess m = true →
    let writes (off : Nat) (w : Word) : Prop := s.placeCodes m off true = [] →
      Completes (.registerWrite m 32 off d.toNat) s (fun t => s.onlyRegs [GLOBAL_SCRATCH] t ∧ t.reg GLOBAL_SCRATCH = w)
    let reads (off : Nat) : Prop := s.placeCodes m off false = [] →
      Completes (.registerRead m 32 off) s (fun t => ∃ u : State, s.onlyRegs [] u ∧
        t = u.send (.readData m off (s.reg GLOBAL_SCRATCH).toNat))
    let v := s.reg GLOBAL_SCRATCH
    writes GLOBAL_SCRATCH d ∧ writes (GLOBAL_SCRATCH + 0x4000) (v ||| d) ∧ writes (GLOBAL_SCRATCH + 0x8000) (v &&& ~~~d) ∧
      writes (GLOBAL_SCRATCH + 0xC000) (v ^^^ d) ∧ reads GLOBAL_SCRATCH ∧ reads (GLOBAL_SCRATCH + 0x4000) ∧
      (s.placeCodes m GLOBAL_SCRATCH true = [] →
        Completes (.registerWrite m 16 GLOBAL_SCRATCH d.toNat) s (s.rejects m GLOBAL_SCRATCH E_WIDTH true))

/-- R81. The key opens its master's lock for 4,096 cycles from the write on and no other master's; another value
re-arms it, counts BAD_KEYS with LAST_BAD and is rejected with E_LOCKED; at the end of its window a lock is armed again.
Points in it that the spec leaves open are the model's choice: log entry 60. -/
def Obligations.TheKeyUnlocksItsMaster : Prop :=
  ∀ (s : State) (m : Fin 16) (key : Word),
    (s.canAccess m = true → s.placeCodes m ACCESS_UNLOCK true = [] →
      (key = 0x5EEDC0DE → Completes (.unlockKeyWrite m key) s (fun t =>
        t = { s with fabric := { s.fabric with unlocks := t.fabric.unlocks } } ∧
        (∀ x, x < 4096 → ({ t with now := s.now + x }).unlocked m = true) ∧
        (∀ x, 4096 ≤ x → ({ t with now := s.now + x }).unlocked m = false) ∧
        ∀ o, o ≠ m.val → ∀ u, (o, u) ∈ t.fabric.unlocks ↔ (o, u) ∈ s.fabric.unlocks)) ∧
      (key ≠ 0x5EEDC0DE → Completes (.unlockKeyWrite m key) s (fun t => t.unlocked m = false ∧ ∃ u : State,
        (s.relock m).onlyRegs [ACCESS_UNLOCK_STAT] u ∧ u.rejects m ACCESS_UNLOCK E_LOCKED true t ∧
        u.rd ACCESS_UNLOCK_STAT_BAD_KEYS = min (s.rd ACCESS_UNLOCK_STAT_BAD_KEYS + 1) (2 ^ 16 - 1) ∧
        u.rd ACCESS_UNLOCK_STAT_LAST_BAD = m.val))) ∧
    Completes (.unlockWindowExpiry m) s (fun t =>
      t = { s with fabric := { s.fabric with unlocks := t.fabric.unlocks } } ∧
      ∀ o u, (o, u) ∈ t.fabric.unlocks ↔ (o, u) ∈ s.fabric.unlocks ∧ ¬ (o = m.val ∧ u ≤ s.now))

/-- R85, R86. A full read acquires a free semaphore and shows GRANTED with the reader; of one held by another it shows BUSY
with its owner, and is counted; of the reader's own it shows OWN. Only its owner releases it, and the steward and PF1, unlocked,
force it, which sets ABANDONED. No other register changes, and memory stays.
Points in it that the spec leaves open are the model's choice: log entry 63. -/
def Obligations.SemaphoresAreTakenAndReleased : Prop :=
  ∀ (s : State) (m : Fin 16) (n : Fin 32), s.settled → s.canAccess m = true →
    let held := s.rd (ACCESS_SEM_STATE n) ≠ 0
    let owner := s.rd (ACCESS_SEM_OWNER n)
    let ab := s.rd (ACCESS_SEM_ABANDONED n)
    let reads (rs : List Nat) (w : Nat) (p : State → Prop) : Prop :=
      Completes (.semaphoreAcquireRead m n) s (fun t => ∃ u, s.onlyRegs rs u ∧ p u ∧
        t = u.send (.readData m (ACCESS_SEM n) w))
    (s.placeCodes m (ACCESS_SEM n) false = [] →
      (¬ held → reads [ACCESS_SEM n] (0x100 + 16 * ab + m) (fun u =>
        u.rd (ACCESS_SEM_STATE n) = 1 ∧ u.rd (ACCESS_SEM_OWNER n) = m ∧ u.rd (ACCESS_SEM_ABANDONED n) = 0)) ∧
      (held → owner = m → reads [] (0x300 + 16 * ab + m) (fun _ => True)) ∧
      (held → owner ≠ m → reads [ACCESS_SEM_BUSY_CNT, ACCESS_SEM_LAST] (0x200 + 16 * ab + owner) (fun u =>
        u.rd ACCESS_SEM_BUSY_CNT_COUNT = min (s.rd ACCESS_SEM_BUSY_CNT_COUNT + 1) (2 ^ 32 - 1) ∧
        u.rd ACCESS_SEM_LAST_SEM = n ∧ u.rd ACCESS_SEM_LAST_LOSER = m ∧ u.rd ACCESS_SEM_LAST_OWNER = owner))) ∧
    (s.placeCodes m (ACCESS_SEM n) true = [] →
      (held → owner = m → Completes (.semaphoreRelease m n) s (fun t => s.onlyRegs [ACCESS_SEM n] t ∧
        t.rd (ACCESS_SEM_STATE n) = 0 ∧ t.rd (ACCESS_SEM_OWNER n) = 0 ∧ t.rd (ACCESS_SEM_ABANDONED n) = 0)) ∧
      (held → owner ≠ m → Completes (.semaphoreRelease m n) s (s.rejects m (ACCESS_SEM n) E_LOCKED true)) ∧
      (¬ held → Completes (.semaphoreRelease m n) s (s.rejects m (ACCESS_SEM n) E_STATE true))) ∧
    (s.mayWrite m ACCESS_SEM_FORCE → held → (m.val = mSteward ∨ m.val = mPF1) →
      Completes (.semaphoreForce m n) s (fun t => (s.relock m).onlyRegs [ACCESS_SEM n] t ∧
        t.rd (ACCESS_SEM_STATE n) = 0 ∧ t.rd (ACCESS_SEM_OWNER n) = 0 ∧ t.rd (ACCESS_SEM_ABANDONED n) = 1))

/-- R88 to R90. EDIT suspends the comparison from now on, COMMIT waits for the class-A writes that are pending, and its end
takes the CRC of the present configuration as the reference, clears EDIT and is recorded; EDIT alone expires after EDIT_MAX seconds, with
EDIT_EXPIRED and an F0; and a recomputation shows the CRC of the configuration.
Points in it that the spec leaves open are the model's choice: log entries 59, 61 and 67. -/
def Obligations.ConfigurationEditsAndCommits : Prop :=
  ∀ (s : State) (m : Fin 16),
    (s.settled → s.canAccess m = true → s.placeCodes m ACCESS_CFG_CTL true = [] → s.rd ACCESS_CFG_CTL_EDIT_MAX ≠ 0 →
      (s.rd ACCESS_CFG_CTL_EDIT = 0 → Completes (.cfgEdit m) s (fun t =>
        t.rd ACCESS_CFG_CTL_EDIT = 1 ∧ t.fabric.editSince = some s.now ∧
        { s with fabric := { s.fabric with editSince := some s.now } }.onlyRegs [ACCESS_CFG_CTL] t)) ∧
      Completes (.cfgCommit m) s (fun t =>
        t.rd ACCESS_CFG_CTL_COMMIT = 1 ∧ t.rd ACCESS_CFG_CTL_EDIT = s.rd ACCESS_CFG_CTL_EDIT ∧
        { s with fabric := { s.fabric with commitOn := some s.fabric.accepts } }.onlyRegs [ACCESS_CFG_CTL] t)) ∧
    (∀ n, s.fabric.commitOn = some n → s.paired = false →
      (s.commitReady n = true → Completes .cfgCommitComplete s (fun t => ∃ u : State, t = u.event bAccess 0 0 ∧
        u.reg ACCESS_CFG_REF = BitVec.ofNat 32 s.configCrc ∧ u.reg ACCESS_CFG_CRC = BitVec.ofNat 32 s.configCrc ∧
        u.rd ACCESS_CFG_CTL_EDIT = 0 ∧ u.rd ACCESS_CFG_CTL_COMMIT = 0 ∧
        { s with fabric := { s.fabric with commitOn := none, editSince := none } }.onlyRegs
          [ACCESS_CFG_CTL, ACCESS_CFG_REF, ACCESS_CFG_CRC] u)) ∧
      (s.commitReady n = false → exec .cfgCommitComplete s = .next s)) ∧
    (s.fabric.commitOn = none → exec .cfgCommitComplete s = .next s) ∧
    (∀ x, s.fabric.editSince = some x → s.rd ACCESS_CFG_CTL_EDIT = 1 →
      x + s.rd ACCESS_CFG_CTL_EDIT_MAX * cycPerS ≤ s.now →
      Completes .editExpiry s (fun t => t.rd ACCESS_CFG_CTL_EDIT = 0 ∧ t.rd ACCESS_CFG_STAT_EDIT_EXPIRED = 1 ∧
        t.fabric.editSince = none ∧ t.rd GLOBAL_FAULT_LAST_CLASS = 0 ∧ t.rd GLOBAL_FAULT_LAST_SOURCE = bAccess)) ∧
    Completes .cfgRecomputationComplete s (fun t => t.reg ACCESS_CFG_CRC = BitVec.ofNat 32 s.configCrc ∧
      t.reg ACCESS_CFG_REF = s.reg ACCESS_CFG_REF ∧
      (s.rd ACCESS_CFG_CTL_EDIT = 1 → s.onlyRegs [ACCESS_CFG_CRC] t) ∧
      (s.fabric.compareOn = true → s.rd ACCESS_CFG_CTL_EDIT = 0 → s.fabric.commitOn = none →
        t.rd ACCESS_CFG_STAT_MISMATCH_LIVE = b2n ((s.reg ACCESS_CFG_REF).toNat != s.configCrc)))

/-- R28, R31, R82. With no write in flight a landing changes nothing; a write in flight to a register whose clock is stopped
stays until 256 cycles have passed, and is then discarded and reported with E_TIMEOUT.
Points in it that the spec leaves open are the model's choice: log entry 2. -/
def Obligations.WritesInFlightLandOrTimeOut : Prop :=
  (∀ (s : State) (off : Nat), s.fabric.inFlight = [] →
    exec (.registerWriteLand off) s = .next s ∧ exec (.crossingWriteTimeout off) s = .next s) ∧
  ∀ (s : State) (off : Nat) (x : Crossing), s.fabric.inFlight = [x] → x.off = off →
    (s.domainRuns off = true → Completes (.registerWriteLand off) s (fun t =>
      t = ({ s with fabric := { s.fabric with inFlight := [] } }).land x)) ∧
    (s.domainRuns off = false → exec (.registerWriteLand off) s = .next s ∧
      (s.now < x.since + 256 → exec (.crossingWriteTimeout off) s = .next s) ∧
      (x.since + 256 ≤ s.now → x.master < 16 → Completes (.crossingWriteTimeout off) s
        (({ s with fabric := { s.fabric with inFlight := [] } }).rejects x.master x.addr E_TIMEOUT true)))

/-- R31, R32, R429, R437, R438. A clock found stopped sets its bit of STOPPED and of SEEN, and its return clears the first; a
CLK_REF that stops takes every domain that derives from it and is an F3; a time set is sent to the always-on count, lands no sooner than its crossing, and sets STEPPED where it changes calendar time by
more than 1 s; a PPS edge takes over as the source, and corrects by up to 1 s in place.
Points in it that the spec leaves open are the model's choice: log entries 38 and 65. -/
def Obligations.ClocksAndCalendarTime : Prop :=
  ∀ (s : State) (d : Fin 12) (m : Fin 16),
    (d.val ≠ 0 →
      Completes (.clockStopped d) s (fun t => s.onlyRegs [CP_CLK_STAT] t ∧
        ∀ k, k < 12 → bitOf (t.rd CP_CLK_STAT_STOPPED) k = (k == d.val || bitOf (s.rd CP_CLK_STAT_STOPPED) k) ∧
          bitOf (t.rd CP_CLK_STAT_SEEN) k = (k == d.val || bitOf (s.rd CP_CLK_STAT_SEEN) k)) ∧
      Completes (.clockRestored d) s (fun t => s.onlyRegs [CP_CLK_STAT] t ∧
        ∀ k, k < 12 → bitOf (t.rd CP_CLK_STAT_STOPPED) k = (k != d.val && bitOf (s.rd CP_CLK_STAT_STOPPED) k) ∧
          bitOf (t.rd CP_CLK_STAT_SEEN) k = bitOf (s.rd CP_CLK_STAT_SEEN) k)) ∧
    (d.val = 0 → Completes (.clockRestored d) s (fun t => s.onlyRegs [CP_CLK_STAT] t ∧
      ∀ k, k < 12 → bitOf (t.rd CP_CLK_STAT_STOPPED) k = (!refDomains.contains k && bitOf (s.rd CP_CLK_STAT_STOPPED) k))) ∧
    (d.val = 0 → Completes (.clockStopped d) s (fun t => ∃ u : State, s.onlyRegs [CP_CLK_STAT] u ∧ t = u.fatalFault bClockPower 0 0 ∧
      ∀ k, k < 12 → bitOf (u.rd CP_CLK_STAT_STOPPED) k = (refDomains.contains k || bitOf (s.rd CP_CLK_STAT_STOPPED) k) ∧
        bitOf (u.rd CP_CLK_STAT_SEEN) k = (refDomains.contains k || bitOf (s.rd CP_CLK_STAT_SEEN) k))) ∧
    (s.mayWrite m CP_TIME_CTL → s.rd CP_TIME_CTL_TIME_BUSY = 0 → Completes (.timeSet m) s (fun t =>
      { s.relock m with calSet := t.calSet }.onlyRegs [CP_TIME_CTL] t ∧ t.rd CP_TIME_CTL_TIME_BUSY = 1 ∧
      ∃ due, s.now < due ∧ t.calSet = some (s.rd64 CP_TIME_SET_LO CP_TIME_SET_HI * cycPerS +
        s.rd CP_TIME_SET_FRAC_FRAC * cycPerS / 32768, due))) ∧
    (∀ x due, s.calSet = some (x, due) →
      (s.now < due → exec .timeSetLanded s = .next s) ∧
      (due ≤ s.now → Completes .timeSetLanded s (fun t => t.cal = x ∧ t.calSet = none ∧ t.rd CP_TIME_CTL_TIME_BUSY = 0 ∧
        (x + cycPerS < s.cal ∨ s.cal + cycPerS < x → t.rd CP_TIME_CTL_STEPPED = 1) ∧
        (x ≤ s.cal + cycPerS → s.cal ≤ x + cycPerS → t.rd CP_TIME_CTL_STEPPED = s.rd CP_TIME_CTL_STEPPED) ∧
        t.mem = s.mem ∧ ∀ o, o ≠ CP_TIME_CTL → t.reg o = s.reg o))) ∧
    (∀ c : Int, c.natAbs ≤ cycPerS → Completes (.ppsEdge c) s (fun t => t.rd CP_TIME_CTL_SOURCE = 2 ∧
      t.cal = (s.cal + c).toNat ∧
      { s with cal := t.cal, field := { s.field with ppsAt := some s.now } }.onlyRegs [CP_TIME_CTL] t)) ∧
    (∀ c : Int, cycPerS < c.natAbs → Completes (.ppsEdge c) s (fun t => t.rd CP_TIME_CTL_SOURCE = 2 ∧ t.cal = s.cal ∧
      ∃ due, s.now < due ∧ t.calSet = some ((s.cal + c).toNat, due)))


/-! The host link and the mailboxes (chapter 4). -/

/-- A function of the link changes, and nothing else but what is sent. -/
def onlyFn (s : State) (fn : Bool) (p : PcieFn) (t : State) : Prop :=
  t.fn fn = p ∧ t.fn (!fn) = s.fn (!fn) ∧ t = { s with host := { s.host with pf0 := t.host.pf0, pf1 := t.host.pf1 } }

/-- R91, R101 to R103. The link comes up, at a width and a speed of the endpoint, once NVM_BRINGUP has ended and while PORST_N is
high; a reset of the link takes both
functions to their reset states and clears both windows while the pass goes on, and a function-level reset takes one function
there, releases its semaphores with ABANDONED and arms its lock; D3hot is entered and left.
Points in it that the spec leaves open are the model's choice: log entry 54. -/
def Obligations.LinkAndFunctionStates : Prop :=
  ∀ (s : State) (fn : Bool) (width speed : Nat) (cause : PcieResetCause),
    let m := fnMaster fn
    let win := if fn then HL_WIN 1 else HL_WIN 0
    let known := (width = 1 ∨ width = 2 ∨ width = 4) ∧ 1 ≤ speed ∧ speed ≤ 4
    (s.boot.porst = false → s.boot.aon = true → s.host.bringupDone = true → known →
      Completes (.pcieLinkUp width speed) s (fun t => t.rd HL_LINK_STAT_LINK_UP = 1 ∧ t.rd HL_LINK_STAT_WIDTH = width ∧
        t.rd HL_LINK_STAT_SPEED = speed ∧ { s with host := { s.host with perst := true } }.onlyRegs [HL_LINK_STAT] t)) ∧
    (s.boot.porst = true ∨ s.boot.aon = false ∨ s.host.bringupDone = false ∨ ¬ known →
      exec (.pcieLinkUp width speed) s = .next s) ∧
    Completes (.pcieReset cause) s (fun t => t.rd HL_LINK_STAT_LINK_UP = 0 ∧ t.rd HL_LINK_STAT_WIDTH = 0 ∧
      t.rd (HL_WIN_BASE 0) = 0 ∧ t.rd (HL_WIN_BASE 1) = 0 ∧ t.pass = s.pass ∧ t.mem = s.mem ∧
      (∀ f, t.fn f = { pcieFn0 with posted := (s.fn f).posted }) ∧ (cause = .perst → t.host.perst = false)) ∧
    Completes (.functionLevelReset fn) s (fun t => t.fn fn = { pcieFn0 with posted := (s.fn fn).posted } ∧
      t.fn (!fn) = s.fn (!fn) ∧ bitsOf (t.reg win).toNat 3 0 = 0 ∧ t.unlocked m = false ∧ t.mem = s.mem ∧
      (∀ n : Fin 32, s.rd (ACCESS_SEM_STATE n) ≠ 0 → s.rd (ACCESS_SEM_OWNER n) = m →
        t.rd (ACCESS_SEM_STATE n) = 0 ∧ t.rd (ACCESS_SEM_ABANDONED n) = 1) ∧
      (∀ n : Fin 32, s.rd (ACCESS_SEM_STATE n) ≠ 0 → s.rd (ACCESS_SEM_OWNER n) ≠ m →
        t.reg (ACCESS_SEM n) = s.reg (ACCESS_SEM n))) ∧
    Completes (.d3hotEntry fn) s (onlyFn s fn { s.fn fn with d3hot := true }) ∧
    ((s.fn fn).msix.pba = [] → (s.fn fn).d3hot = true →
      Completes (.d0Entry fn) s (onlyFn s fn { s.fn fn with d3hot := false }))

/-- R93, R100, R101, R103. With the link up: masking keeps what is pending; a vector that opens with its bit pending is sent once,
with the address and the data of its table entry, and its bit clears; one that opens with neither a bit pending nor its cause set
sends nothing; in D3hot nothing reaches BAR4; a table entry takes the data written to it; an access to BAR4 of another form reads
0 or is discarded.
Points in it that the spec leaves open are the model's choice: log entries 54 and 55. -/
def Obligations.MsixVectorsFireWhenTheyOpen : Prop :=
  ∀ (s : State) (fn : Bool) (n data width : Nat),
    let p := s.fn fn
    let m := p.msix
    let count := if fn then 16 else 64
    let e := (m.table[n]?).getD ⟨0, 0⟩
    s.hostUp = true →
    Completes (.msixMask fn .enable) s (onlyFn s fn { p with msix := { m with enable := false } }) ∧
    Completes (.msixMask fn .function) s (onlyFn s fn { p with msix := { m with fmask := true } }) ∧
    (p.d3hot = false → Completes (.msixMask fn (.vector n)) s
      (onlyFn s fn { p with msix := { m with unmasked := m.unmasked.filter (fun v => v != n) } })) ∧
    (p.d3hot = true → exec (.msixMask fn (.vector n)) s = .next s ∧ exec (.msixUnmask fn (.vector n)) s = .next s) ∧
    (p.d3hot = false → n < count → Completes (.msixMask fn (.bar4 (.write (16 * n + 8) 32 (data % 2 ^ 32)))) s
      (onlyFn s fn { p with msix := { m with table := m.table.set n { e with data := data % 2 ^ 32 } } })) ∧
    (p.d3hot = false → bar4Ok data width = false →
      exec (.msixMask fn (.bar4 (.write data width n))) s = .next s ∧
      Completes (.msixMask fn (.bar4 (.read data width))) s (fun t =>
        t = s.send (.completion (b2n fn) 0 (List.replicate (width / 8) 0)))) ∧
    (m.enable = true → m.fmask = false → p.d3hot = false → n < count → n ∉ m.unmasked →
      (n ∈ m.pba → Completes (.msixUnmask fn (.vector n)) s (fun t => ∃ u, t = u.send (.msi (b2n fn) n e.address e.data) ∧
        onlyFn s fn { p with msix := { m with unmasked := n :: m.unmasked, pba := m.pba.filter (fun v => v != n) } } u)) ∧
      (n ∉ m.pba → s.causeSet fn n = false →
        Completes (.msixUnmask fn (.vector n)) s (onlyFn s fn { p with msix := { m with unmasked := n :: m.unmasked } }))) ∧
    (m.enable = true → Completes (.msixUnmask fn .enable) s (onlyFn s fn p)) ∧
    (m.fmask = false → Completes (.msixUnmask fn .function) s (onlyFn s fn p))

/-- R96 to R98, R113, R412. A BAR2 write that its window and the buffer admit is posted and reaches its enabled bytes when it
drains, oldest first; into a table, the link table or the Gleaner's areas, or beyond the fitted SDRAM, it is discarded and
reported; a read is served at once where the function has no write waiting, else after them; one that has waited TMO_MS is aborted,
counted and reported, and no other is; in D3hot a read is unsupported, and with the link down nothing happens.
Points in it that the spec leaves open are the model's choice: log entry 54. -/
def Obligations.TheApertureReachesSdram : Prop :=
  ∀ (s : State) (fn : Bool) (offset len : Nat) (bytes : List (Option Byte)),
    let p := s.fn fn
    let off := bitsOf (s.reg (HL_WIN (b2n fn))).toNat 3 0 * 2 ^ 30 + offset % 2 ^ 30
    let meets (r : Nat × Nat) : Prop := r.1 < off + bytes.length ∧ off < r.1 + r.2
    (s.fnUp fn = true →
      (s.sdramSize < off + bytes.length ∨ (∃ r ∈ apertureGuarded, meets r) →
        Completes (.bar2Write fn offset bytes) s (s.rejects (fnMaster fn) (sd off) E_UNKNOWN true)) ∧
      (off + bytes.length ≤ s.sdramSize → (∀ r ∈ apertureGuarded, ¬ meets r) →
        (p.postedBytes + bytes.length ≤ 0x10000 →
          Completes (.bar2Write fn offset bytes) s (onlyFn s fn { p with posted := p.posted ++ [(sd off, bytes)] })) ∧
        (0x10000 < p.postedBytes + bytes.length →
          Completes (.bar2Write fn offset bytes) s (s.onlyRegs [HL_BAR2_STAT]))) ∧
      (p.posted = [] → off + len ≤ s.sdramSize → s.anyBad (sd off) len = false →
        Completes (.bar2Read fn offset len) s (fun t => ∃ u, onlyFn s fn p u ∧
          t = u.send (.completion (b2n fn) 0 (s.bytes (sd off) len)))) ∧
      (p.posted ≠ [] → Completes (.bar2Read fn offset len) s
        (onlyFn s fn { p with reads := p.reads ++ [⟨offset, sd off, len, s.now, p.posted.length⟩] }))) ∧
    (s.hostUp = true → p.d3hot = true →
      exec (.bar2Write fn offset bytes) s = .next s ∧
      Completes (.bar2Read fn offset len) s (fun t => t = s.send (.completion (b2n fn) 3 []))) ∧
    (s.hostUp = false → exec (.bar2Write fn offset bytes) s = .next s ∧ exec (.bar2Read fn offset len) s = .next s) ∧
    (∀ x r, p.reads = x :: r → x.offset = offset → x.since + s.rd HL_BAR2_CFG_TMO_MS * cycPerMs ≤ s.now →
      Completes (.bar2ReadTimeout fn offset) s (fun t => ∃ w u v, onlyFn s fn { p with reads := r } w ∧ w.onlyRegs [HL_BAR2_STAT] u ∧
        u.rejects (fnMaster fn) x.addr E_TIMEOUT false v ∧ t = v.send (.completion (b2n fn) 2 []))) ∧
    ((∀ x ∈ p.reads, x.offset ≠ offset ∨ s.now < x.since + s.rd HL_BAR2_CFG_TMO_MS * cycPerMs) →
      exec (.bar2ReadTimeout fn offset) s = .next s) ∧
    (∀ a bs x, p.posted = [(a, bs)] → p.reads = [x] → x.ahead = 1 → x.addr - aSdram + x.len ≤ s.sdramSize →
      s.anyBad x.addr x.len = false → Completes (.postedWriteDrain fn 1) s (fun t => ∃ u : State,
        t = u.send (.completion (b2n fn) 0 (u.bytes x.addr x.len)) ∧ u.fn fn = { p with posted := [], reads := [] } ∧
        u.regs = s.regs)) ∧
    (∀ a bs r, p.posted = (a, bs) :: r → p.reads = [] → Completes (.postedWriteDrain fn 1) s (fun t =>
      t.fn fn = { p with posted := r } ∧ t.regs = s.regs ∧
      (∀ i v, bs[i]? = some (some v) → t.byte (a + i) = v) ∧ (∀ i, bs[i]? = some none → t.byte (a + i) = s.byte (a + i)) ∧
      (∀ k, k < a ∨ a + bs.length ≤ k → t.byte k = s.byte k) ∧ ∀ k ∈ t.memBad, k ∈ s.memBad)) ∧
    (∀ (w : Fin 2) (base : Word), s.settled → s.canAccess (fnMaster fn) = true → s.placeCodes (fnMaster fn) (HL_WIN w) true = [] →
      base.toNat % 16 * 2 ^ 30 < s.sdramSize → (fn = true ∨ w.val = 0) →
      Completes (.windowWrite fn w base) s (fun t => s.onlyRegs [HL_WIN w] t ∧
        t.rd (HL_WIN_BASE w) = base.toNat % 16))

/-- R105, R106. A post by a direction's sender into a mailbox with room is kept in order, and the last word of a word mailbox shows
FULL; one without room is counted and rejected with E_BUSY; a pop by its receiver takes the oldest word and returns it; a
post by another master is rejected; a gated core for which a word waits is woken.
Points in it that the spec leaves open are the model's choice: log entries 47 and 59. -/
def Obligations.MailboxesKeepWordsInOrder : Prop :=
  ∀ (s : State) (m : Fin 16) (d : MbDir) (w : Word), d ∈ allDirs → (s.fn false).posted = [] → (s.fn true).posted = [] →
    (s.fn false).reads = [] → (s.fn true).reads = [] → s.canAccess m = true →
    (s.placeCodes m d.data true = [] →
      (d.sender = m.val → s.mbBusy d = false → d.queue = true →
        Completes (.mailboxPost m d.data w) s (fun t => t.waiting d.data = s.waiting d.data ++ [⟨w, s.now⟩] ∧
          (∀ o, o ≠ d.data → t.waiting o = s.waiting o) ∧ t.regs = s.regs ∧ t.mem = s.mem)) ∧
      (d.sender = m.val → s.mbBusy d = false → d.queue = false →
        Completes (.mailboxPost m d.data w) s (fun t => t.reg d.data = w ∧ t.rd d.full = 1 ∧ t.queues = s.queues ∧
          t.mem = s.mem ∧ ∀ o, o ≠ d.data → o ≠ d.stat → t.reg o = s.reg o)) ∧
      (d.sender = m.val → s.mbBusy d = true → Completes (.mailboxPost m d.data w) s (fun t => ∃ u : State,
        u.rejects m d.data E_BUSY true t ∧ u.rd d.busyCnt = min (s.rd d.busyCnt + 1) (2 ^ (d.busyCnt.hi + 1 - d.busyCnt.lo) - 1) ∧
        t.queues = s.queues ∧ ∀ o, o ≠ d.stat → u.reg o = s.reg o)) ∧
      (d.sender ≠ m.val → Completes (.mailboxPost m d.data w) s (fun t => ∃ u : State,
        u.rejects m d.data E_WRONG_END true t ∧ t.queues = s.queues ∧ u.regs = s.regs))) ∧
    (s.placeCodes m d.data false = [] → s.settled → d.receiver = m.val → s.requests.replies = [] →
      (∀ x r, d.queue = true → s.waiting d.data = x :: r →
        Completes (.mailboxPop m d.data) s (fun t => t.waiting d.data = r ∧ t.outbox.head? = some (.readData m d.data x.word.toNat) ∧
          (∀ o, o ≠ d.data → t.waiting o = s.waiting o) ∧ t.mem = s.mem ∧ ∀ o, o ≠ d.stat → t.reg o = s.reg o)) ∧
      (d.queue = false → s.rd d.full = 1 →
        Completes (.mailboxPop m d.data) s (fun t => t.rd d.full = 0 ∧
          t.outbox.head? = some (.readData m d.data (s.reg d.data).toNat) ∧ t.queues = s.queues ∧ t.mem = s.mem ∧
          ∀ o, o ≠ d.stat → t.reg o = s.reg o)) ∧
      (s.mbUnread d = false → Completes (.mailboxPop m d.data) s (fun t => ∃ u, s.rejects m d.data E_STATE false u ∧
        t = u.send (.readData m d.data 0)))) ∧
    (∀ n : Fin 4, (s.core n).gated = true → d.receiver = 2 + n.val → s.mbUnread d = true →
      Completes (.passCoreWake (some n)) s (fun t => t.core n = { s.core n with gated := false } ∧
        (∀ k, k ≠ n → t.core k = s.core k) ∧ t.mem = s.mem ∧
        ∀ o, o ≠ PASS_PHASE → t.reg o = s.reg o)) ∧
    exec (.passCoreWake none) s = .next s

/-! Restarts, sowing and the power-fail save (chapter 2). -/

/-- t has every register of s but those named, and the memory of s. -/
def keepsBut (s : State) (rs : List Nat) (t : State) : Prop := (∀ o, o ∉ rs → t.reg o = s.reg o) ∧ t.mem = s.mem

/-- A restart has left everything at its reset value but the NOR and retention devices, the queue, the clock and what is
sent. -/
def restarted (s : State) (t : State) : Prop :=
  t.pass = pass0 ∧ t.loops = loops0 ∧ t.lanes = [] ∧ t.fabric = fabric0 ∧ t.active = [] ∧ t.requests = requests0 ∧
    t.outputs = outputs0 ∧ t.pair = pair0 ∧ t.field = fieldEx0 ∧ t.meter = metering0 ∧ t.now = s.now ∧
    t.rd CP_BOOT_STAT_STAGE = 0 ∧ t.rd GLOBAL_MODE_AUTH = 0 ∧ t.rd GLOBAL_MODE_MODE = modeStop ∧
    (∀ a, aNor ≤ a → a < aWork → t.byte a = s.byte a)

/-- R39 to R41, R66, R69, R421. With VDD_AON down, always-on state is lost too: every register reads its reset value, calendar time
0 and every queue empty; its rise samples PAIR_ROLE; PORST_N low takes everything but always-on state to reset, and its release
samples PAIR_ROLE and begins a sowing, but not while TEST_MODE reads high; WARM_N and CP_RESTART restart a unit that makes no save, and wait for a save in progress.
Points in it that the spec leaves open are the model's choice: log entries 5, 52 and 73. -/
def Obligations.RestartsLeaveTheResetState : Prop :=
  ∀ (s : State) (role : Bool) (m : Fin 16) (kind : Fin 4),
    Completes (.powerUp ⟨role, false⟩) s (fun t => restarted s t ∧ t.boot.aon = true ∧ t.boot.porst = false ∧ t.cal = 0 ∧
      t.queues = [] ∧ t.rd GLOBAL_MODE_ROLE = b2n role ∧ ∀ o, o ≠ GLOBAL_MODE → t.reg o = regReset o) ∧
    Completes (.powerUp ⟨role, true⟩) s (fun t => restarted s t ∧ t.boot.aon = true ∧ t.boot.porst = true ∧ t.cal = 0 ∧
      t.queues = [] ∧ t.regs = []) ∧
    Completes .aonPowerLoss s (fun t => restarted s t ∧ t.boot.aon = false ∧ t.cal = 0 ∧ t.queues = [] ∧ t.regs = []) ∧
    (s.boot.aon = true → s.boot.porst = false →
      Completes .porstAssert s (fun t => restarted s t ∧ t.boot.porst = true ∧ t.cal = s.cal ∧
        t.rd GLOBAL_MODE_ROLE = s.rd GLOBAL_MODE_ROLE ∧
        (∀ o ∈ [CP_CTR_RESERVE_LO, CP_CTR_RESERVE_HI, HR_ARCH_WR, HR_ARCH_ACK, PAIR_EPOCH], t.reg o = s.reg o) ∧
        t.rd (HL_WIN_BASE 0) = 0 ∧ t.rd HL_LINK_STAT_LINK_UP = 0)) ∧
    (s.boot.aon = true → s.boot.porst = true →
      Completes (.porstRelease ⟨role, false⟩) s (fun t => s.onlyRegs [GLOBAL_MODE] { t with boot := s.boot } ∧
        t.boot = { s.boot with porst := false, testMode := false, wasOut := true, startAt := s.now } ∧
        t.rd GLOBAL_MODE_ROLE = b2n role) ∧
      Completes (.porstRelease ⟨role, true⟩) s (fun t => t = { s with boot := { s.boot with testMode := true } })) ∧
    (s.boot.aon = true → s.boot.porst = false → s.boot.saving = none →
      Completes .warmReset s (fun t => restarted s t ∧ t.boot.kind = 3 ∧ t.cal = s.cal)) ∧
    (∀ r, s.boot.aon = true → s.boot.porst = false → s.boot.saving = some r →
      Completes .warmReset s (fun t => t = { s with boot := { s.boot with held := some ⟨true, 3, false⟩ } })) ∧
    (s.mayWrite m CP_RESTART → 9 ≤ s.rd CP_BOOT_STAT_STAGE → s.rd CP_BOOT_STAT_STAGE ≤ 12 → s.boot.saving = none →
      Completes (.cpRestart m kind false) s (fun t => restarted s t ∧ t.boot.kind = kind.val ∧ t.boot.fromHost = false ∧
        t.cal = s.cal)) ∧
    (s.boot.aon = false ∨ s.boot.porst = true → exec .warmReset s = .next s)

/-- R21, R41, R42, R44 to R46, R60, R90, R421. The stages follow one another, each from its predecessor alone: RESET_EXIT with the clock of
HEAD stopped, the ROM's entry of the measurement, the devices as they answered, and the SDRAM with its size. RESTORE ends sowing: the
pass timer runs with the first tick due at once and the period of PASS_PERIOD, and the configuration then in force is the reference
of the comparison, which begins.
Points in it that the spec leaves open are the model's choice: log entries 68 and 69. -/
def Obligations.StagesOfSowingFollowOneAnother : Prop :=
  ∀ (s : State) (n0 n1 r0 r1 : Byte) (ok : Bool) (gib : Nat) (d : Fin 2),
    let reaches (i : Instr) (n : Nat) (p : State → Prop) : Prop :=
      (s.atStage n = false → exec i s = .next s) ∧
        (s.atStage n = true → Completes i s (fun t => t.rd CP_BOOT_STAT_STAGE = n + 1 ∧ p t))
    (s.boot.testMode = false →
      reaches .resetExit 0 (fun t => bitOf (t.rd CP_CLK_STAT_STOPPED) 6 = true ∧ keepsBut s [CP_BOOT_STAT, CP_CLK_STAT] t)) ∧
    (s.boot.testMode = true → exec .resetExit s = .next s) ∧
    (s.keys.area.target = none → reaches .securityRom 1 (fun t => t.keys.measure = romMeasure ∧ t.keys.lc = s.keys.lc ∧
      t.mem = s.mem ∧ t.rd KS_STAT_LC = s.keys.lc % 4)) ∧
    reaches (.nvmBringup n0 n1 r0 r1 ok) 2 (fun t => t.rd CP_XSPI_STAT_XN0 = n0.toNat ∧ t.rd CP_XSPI_STAT_XN1 = n1.toNat ∧
      t.rd CP_XSPI_STAT_XR0 = r0.toNat ∧ t.rd CP_XSPI_STAT_XR1 = r1.toNat ∧ t.host.bringupDone = true ∧
      (r0.toNat % 2 = 0 → t.rd CP_RETAIN_FLAGS_RETAIN_REDUCED = 1)) ∧
    (4 ≤ gib → gib ≤ 16 → reaches (.sdramInit gib) 3 (fun t => t.rd CP_DDR_STAT_SIZE_GIB = gib ∧ t.rd CP_DDR_STAT_TRAINED = 1 ∧
      keepsBut s [CP_BOOT_STAT, CP_DDR_STAT] t)) ∧
    (gib < 4 ∨ 16 < gib → exec (.sdramInit gib) s = .next s) ∧
    (s.rd CP_DDR_STAT_TRAINED = 1 → Completes .sdramEccInitComplete s (fun t => s.onlyRegs [CP_DDR_STAT] t ∧
      t.rd CP_DDR_STAT_ECC_DONE = 1)) ∧
    ((s.atStage 2 = true ∨ s.atStage 3 = true) → Completes (.norIdentTimeout d) s (fun t => s.onlyRegs [CP_XSPI_STAT] t ∧
      (d = 0 → t.rd CP_XSPI_STAT_XN0 = 0) ∧ (d = 1 → t.rd CP_XSPI_STAT_XN1 = 0))) ∧
    (s.atStage 8 = true → s.pass.timerOn = false → Completes .restore s (fun t =>
      t.pass.timerOn = true ∧ t.pass.nextTick = t.now ∧ t.pass.first = true ∧ t.pass.period = t.rd PASS_PERIOD_PERIOD_MS ∧
      t.fabric.compareOn = true ∧ t.fabric.commitOn = none ∧ t.rd ACCESS_CFG_CTL_EDIT = 0 ∧
      t.reg ACCESS_CFG_REF = t.reg ACCESS_CFG_CRC))

/-- R45, R53 to R55, R57, R59 to R61. A slot that answers is read whole into the staging area; it is verified, measured and unpacked stage by
stage; no slot is read in DECOMMISSIONED; what fails in slot A is shown in SLOT_A_CODE and leaves slot B to be tried from stage 4; what fails in slot B leaves the
factory default.
Points in it that the spec leaves open are the model's choice: log entries 70 and 74. -/
def Obligations.SlotsAreReadVerifiedAndUnpacked : Prop :=
  ∀ (s : State),
    let failed (code : Nat) (t : State) : Prop :=
      (s.boot.slot = 0 → t.boot.slot = 1 ∧ t.rd CP_BOOT_STAT_SLOT_A_CODE = code % 2 ^ 8 ∧
        t.rd CP_BOOT_STAT_STAGE = 4 ∧ t.keys.measure = romMeasure ∧ t.keys.closed = false) ∧
      (s.boot.slot ≠ 0 → t.rd CP_BOOT_STAT_SLOT_B_CODE = code % 2 ^ 8 ∧
        t.rd CP_BOOT_STAT_STAGE = 0xA ∧ t.rd CP_BOOT_STAT_SEED_DEFAULTED = 1 ∧ t.rd GLOBAL_FAULT_LAST_CLASS = 3 ∧
        t.keys.measure = defaultMeasure ∧ t.keys.closed = true)
    let fails (i : Instr) (code : Nat) : Prop := Completes i s (failed code)
    (s.atStage 4 = true → s.keys.lc = 3 → Completes .slotRead s (fun t => t.rd CP_BOOT_STAT_STAGE = 0xA ∧
      t.rd CP_BOOT_STAT_SLOT_A_CODE = E_STATE ∧ t.rd CP_BOOT_STAT_SLOT_B_CODE = E_STATE ∧ t.rd CP_BOOT_STAT_SEED_DEFAULTED = 1)) ∧
    (s.atStage 4 = true → s.keys.lc ≠ 3 →
      (s.triesHost = false → s.norAnswers s.boot.slot = false → fails .slotRead E_TIMEOUT) ∧
      (s.triesHost = true ∨ s.norAnswers s.boot.slot = true →
        let a := s.slotPlace.1
        let len := s.ld (a + 8) 4
        let n := if imgLenOk len s.slotPlace.2 then len else 0x100
        n ≤ 0x8000000 → 0x10000000 ≤ s.sdramSize →
        Completes .slotRead s (fun t => t.boot.imageLen = n ∧ t.rd CP_BOOT_STAT_STAGE = 5 ∧
          t.bytes s.imageBase n = s.bytes a n ∧ (∀ o, o ≠ CP_BOOT_STAT → t.reg o = s.reg o) ∧
          ∀ k, k < s.imageBase ∨ s.imageBase + 0x8000000 ≤ k → t.byte k = s.byte k))) ∧
    (s.atStage 5 = true →
      (∀ code sec, s.slotCheck = some (code, sec) → fails (.verify () () ()) code) ∧
      (s.slotCheck = none → Completes (.verify () () ()) s (fun t => t.rd CP_BOOT_STAT_STAGE = 6 ∧
        t.boot.prehash = shake256 (s.bytes s.imageBase (s.boot.imageLen - 128)) 64 ∧ keepsBut s [CP_BOOT_STAT] t))) ∧
    (s.atStage 6 = true → Completes .firmwareStart s (fun t => t.rd CP_BOOT_STAT_STAGE = 7 ∧ t.keys.closed = true ∧
      t.keys.signedOnly = bitOf (s.image.u 0x42 2) 2 ∧ t.keys.rollback = s.image.u 0xC 4 ∧ t.mem = s.mem)) ∧
    (s.atStage 7 = true → s.image.directory.filter (fun e => !secKnown.contains e.type) = [] →
      Completes .unpack s (fun t => match s.unpackSlot with
        | .ok u => u.boot = s.boot → t.rd CP_BOOT_STAT_STAGE = 8 ∧
          (s.boot.slot = 0 → t.rd CP_BOOT_STAT_SLOT_A_CODE = E_OK) ∧ (s.boot.slot ≠ 0 → t.rd CP_BOOT_STAT_SLOT_B_CODE = E_OK)
        | .error f => f.access = none → failed (sectionCodes f.code).1 t))

/-- R64 to R66, R69. Checkpoints fall due and are written in turn; PWR_WARN is confirmed after 20 µs and not before, and a shorter one
is a glitch; a save stops the passes, and its commit, which waits for the last metering sample, or its failure with a code, ends it;
the reservation of counters is
written above every TX_CTR and lands after its crossing.
Points in it that the spec leaves open are the model's choice: log entries 50, 51 and 71. -/
def Obligations.CheckpointsSavesAndReservations : Prop :=
  ∀ (s : State) (cap : Bool),
    let b := s.boot
    (s.rd CP_BOOT_STAT_STAGE = 9 → s.retained = true → b.ckptDue = false →
      b.ckptAt + s.rd CP_RETAIN_CFG_CHECKPOINT_S * cycPerS ≤ s.now →
      Completes .checkpointDue s (fun t => t = { s with boot := { b with ckptDue := true, ckptAt := s.now } })) ∧
    (∀ r, b.writing = some r → Completes .checkpointWriteComplete s (fun t => ∃ c, t = { s with boot := c } ∧
      c.writing = none ∧ c.nextArea = 1 - b.nextArea ∧ (b.nextArea = 0 → c.ckpt0 = some r ∧ c.ckpt1 = b.ckpt1) ∧
      (b.nextArea ≠ 0 → c.ckpt1 = some r ∧ c.ckpt0 = b.ckpt0) ∧ c.save = b.save)) ∧
    (b.aon = true → b.porst = false → b.warnAt = none → b.confirmed = false →
      Completes .pwrWarnAssert s (fun t => t = { s with boot := { b with warnAt := some s.now } })) ∧
    (∀ x, b.warnAt = some x → b.confirmed = false →
      (s.now < x + 20 * cycPerUs → exec .pwrWarnConfirmed s = .next s ∧
        Completes .pwrWarnGlitch s (fun t => t.boot = { b with warnAt := none } ∧ t.rd CP_RETAIN_FLAGS_PWR_WARN_GLITCH = 1 ∧
          (∀ o, o ≠ CP_RETAIN_FLAGS → o ≠ GL_LOSS bDevice → t.reg o = s.reg o))) ∧
      (x + 20 * cycPerUs ≤ s.now → exec .pwrWarnGlitch s = .next s ∧
        (s.rd CP_BOOT_STAT_STAGE ≠ 9 → Completes .pwrWarnConfirmed s (fun t => t.boot = { b with confirmed := true, released := false } ∧
          t.rd MT_STAT_CAL_BUSY = 0 ∧ keepsBut s [MT_STAT] t)) ∧
        (s.rd CP_BOOT_STAT_STAGE = 9 → Completes .pwrWarnConfirmed s (fun t => t.rd CP_BOOT_STAT_STAGE = 0xB ∧
          t.boot.confirmed = true ∧ t.boot.writing = none ∧ t.boot.ckptDue = false ∧ (s.retained = false → t.boot.saving = none))))) ∧
    (b.saving.isSome = true → s.meter.closing = true → exec .powerFailSaveCommit s = .next s) ∧
    (∀ r, b.saving = some r → b.held = none → b.released = false → s.meter.closing = false →
      Completes .powerFailSaveCommit s (fun t => t.boot = { b with saving := none, save := some r } ∧
        t.rd CP_RETAIN_STAT_LAST_SAVE_CODE = E_OK ∧ t.rd CP_BOOT_STAT_STAGE = 0xC ∧ keepsBut s [CP_RETAIN_STAT, CP_BOOT_STAT] t) ∧
      Completes .pwrWarnRelease s (fun t => t = { s with boot := { b with released := true } }) ∧
      (s.rd CP_BOOT_STAT_STAGE = 0xB → Completes (.saveError cap) s (fun t => t.boot = { b with saving := none, save := none } ∧
        t.rd CP_RETAIN_FLAGS_SAVE_INCOMPLETE = 1 ∧
        t.rd CP_RETAIN_STAT_LAST_SAVE_CODE = (if cap then E_CAPACITY else E_TIMEOUT) ∧
        keepsBut s [CP_RETAIN_FLAGS, CP_RETAIN_STAT] t))) ∧
    (let top := (s.gzAll.map (fun g => s.gz g 0x28 8) ++ s.field.waiting.map HeldTelegram.floor).foldl max 0 + 2 ^ 24
     (top ≤ s.reservation → exec .counterReservationWrite s = .next s) ∧
     (s.field.reserving = none → s.reservation < top → Completes .counterReservationWrite s (fun t => ∃ due, s.now < due ∧
       t = { s with field := { s.field with reserving := some (top, due) } }))) ∧
    (∀ v due, s.field.reserving = some (v, due) →
      (s.now < due → exec .counterReservationLanded s = .next s) ∧
      (due ≤ s.now → v < 2 ^ 63 → s.field.waiting = [] → Completes .counterReservationLanded s (fun t => t.reservation = v ∧
        t.field = { s.field with reserving := none } ∧ keepsBut s [CP_CTR_RESERVE_LO, CP_CTR_RESERVE_HI] t)))

/-! Passes and modes (chapters 1 and 10). -/

/-- The frame of a pass start: keys, outputs, metering, requests and what else a freeze edge does not touch are unchanged. -/
def passFrame (s t : State) : Prop :=
  t = { s with
    survey := t.survey, loops := t.loops, field := t.field, outbox := t.outbox, host := t.host, gleaner := t.gleaner,
    bus := t.bus, busAges := t.busAges, mem := t.mem, memBad := t.memBad, regs := t.regs, pass := t.pass }

/-- A pass has started at the present freeze edge for a tick: the count and the header of its input image, which is now the
other buffer. -/
def passStarted (s : State) (tick : Nat) (t : State) : Prop :=
  t.rd PASS_PHASE_PHASE = phFreeze ∧ t.pass.tickOf = tick ∧ t.pass.freezeAt = s.now ∧ t.pass.inBuf = !s.pass.inBuf ∧
    t.pass.lateDue = none ∧ t.pass.first = false ∧ t.pass.faulted = false ∧ t.passNo = (s.passNo + 1) % 2 ^ 64 ∧
    t.ld t.inBase 8 = t.passNo ∧ t.ld (t.inBase + 0x18) 4 = t.pass.period % 2 ^ 32 ∧
    (s.pass.first = true → t.rd CP_BOOT_STAT_STAGE = 9) ∧ passFrame s t

/-- R21, R22, R214, R252. A tick starts a pass at a freeze edge when the one before has ended, or leaves it due, and the pass
that was late starts when the one before ends, counted; ticks of the first 200 µs after a watchdog start none.
Points in it that the spec leaves open are the model's choice: log entry 46. -/
def Obligations.PassesStartOnTheGrid : Prop :=
  ∀ (s : State) (gpio : BitVec 64), s.pass.timerOn = true →
    let p := s.pass
    let period := p.periodNext.getD p.period
    let next := { p with period := period, periodNext := none, nextTick := p.nextTick + period * cycPerMs }
    (s.now < p.nextTick → exec (.passTimerTick gpio) s = .next s) ∧
    (p.nextTick ≤ s.now → s.ownPasses = true →
      (p.nextTick < p.holdTicksUntil → Completes (.passTimerTick gpio) s (fun t => t = { s with pass := next })) ∧
      (p.holdTicksUntil ≤ p.nextTick → s.rd PASS_PHASE_PHASE ≠ phRemainder →
        Completes (.passTimerTick gpio) s (fun t => t = { s with pass := { next with lateDue := some p.nextTick } })) ∧
      (p.holdTicksUntil ≤ p.nextTick → s.rd PASS_PHASE_PHASE = phRemainder →
        Completes (.passTimerTick gpio) s (fun t => passStarted s p.nextTick t ∧ t.pass.nextTick = next.nextTick ∧
          t.pass.period = period))) ∧
    (p.lateDue = none → exec (.latePassStart gpio) s = .next s) ∧
    (∀ tick, p.lateDue = some tick → s.rd PASS_PHASE_PHASE = phRemainder →
      Completes (.latePassStart gpio) s (fun t => passStarted s tick t ∧ t.pass.nextTick = p.nextTick ∧
        t.rd PASS_WD_CNT_LATE = min (s.rd PASS_WD_CNT_LATE + 1) (2 ^ 16 - 1)))

/-- R21, R23, R24, R219, R220, R245. In RUN the strips start when input freeze ends, each at its ENTRY; otherwise output write
follows at once; it follows when the last strip has ended, too, and turns the output buffers; the headland takes the class-A values
that are pending, and its end puts them in force.
Points in it that the spec leaves open are the model's choice: log entries 17, 46 and 61. -/
def Obligations.PhasesFollowOneAnother : Prop :=
  ∀ (s : State),
    let phase := s.rd PASS_PHASE_PHASE
    let outputs (t : State) : Prop := t.rd PASS_PHASE_PHASE = phOutput ∧ t.pass.outBuf = !s.pass.outBuf ∧ t = { s with
      loops := t.loops, outputs := t.outputs, field := t.field, bus := t.bus, mem := t.mem, memBad := t.memBad, regs := t.regs,
      outbox := t.outbox, host := t.host, pair := t.pair, pass := t.pass }
    (phase ≠ phFreeze → exec .inputFreezeComplete s = .next s) ∧
    (phase = phFreeze → s.rd PASS_MODE_STAT_MODE = modeRun → s.pass.fatal = false →
      Completes .inputFreezeComplete s (fun t => t.rd PASS_PHASE_PHASE = phLogic ∧ t.pass.logicAt = s.now ∧
        (∀ n st, s.strip? n = some st → (s.core n).gated = false →
          t.core n = { core0 with pc := st.entry, gated := false } ∧ t.rd (PASS_CORE_STAT_STATE n.val) = coreRunning) ∧
        (∀ n : Fin 4, s.strip? n = none ∨ (s.core n).gated = true → t.core n = s.core n ∧
          t.reg (PASS_CORE_STAT n.val) = s.reg (PASS_CORE_STAT n.val)) ∧
        t.mem = s.mem ∧ ∀ o, o ≠ PASS_PHASE → (∀ n : Fin 4, o ≠ PASS_CORE_STAT n.val) → t.reg o = s.reg o)) ∧
    (phase = phFreeze → s.rd PASS_MODE_STAT_MODE ≠ modeRun ∨ s.pass.fatal = true →
      Completes .inputFreezeComplete s outputs) ∧
    (phase = phLogic → s.stripsDone = true → Completes .logicPhaseEnd s (fun t => outputs t ∧
      t.rd PASS_LOGIC_TIME_LAST_US = min ((s.now - s.pass.logicAt) / cycPerUs) (2 ^ 16 - 1))) ∧
    (phase ≠ phLogic ∨ s.stripsDone = false → exec .logicPhaseEnd s = .next s) ∧
    (phase ≠ phOutput → exec .outputWriteEnd s = .next s) ∧
    (phase = phOutput → (∀ x ∈ s.fabric.inFlight, x.mask &&& aBits x.off = 0) → Completes .outputWriteEnd s (fun t => t.rd PASS_PHASE_PHASE = phHeadland ∧
      t.fabric = { s.fabric with
        pendA := s.fabric.pendA.filter (fun p => isLoopReg p.off),
        pendNow := s.fabric.pendA.filter (fun p => !isLoopReg p.off) } ∧
      t.mem = s.mem ∧ t.pass = s.pass ∧ t.outputs = s.outputs ∧ t.keys = s.keys)) ∧
    (phase ≠ phHeadland → exec .headlandEnd s = .next s) ∧
    (phase = phHeadland → Completes .headlandEnd s (fun t => t.rd PASS_PHASE_PHASE = phRemainder ∧ t.fabric.pendNow = [] ∧
      t.keys = s.keys ∧ t.boot = s.boot ∧ t.now = s.now)) ∧
    (∀ mask value born, phase = phHeadland → s.paired = false → s.requests.applying = [] → s.camp.publishing = false →
      s.fabric.pendNow = [⟨PASS_WD_CFG, mask, value, born⟩] →
      Completes .headlandEnd s (fun t => t.reg PASS_WD_CFG = (s.reg PASS_WD_CFG &&& ~~~mask) ||| (value &&& mask) ∧
        (s.pass.faulted = true → t.rd PASS_MODE_STAT_MODE = modeStop ∧ t.rd PASS_MODE_STAT_STOP_CAUSE = stopFault ∧
          t.rd PASS_MODE_CTL_REQ = modeStop)))

/-- R247, R248, R252, R253. A mode that is asked for waits for the headland and is shown by the register from then on; RUN needs a
program, RUNNING and no boundary scan, HOLD a mode other than STOP. A pass whose headland has not ended t_WD after its tick ends in
STOP with safe outputs, its phase is recorded, and ticks of the next 200 µs start no pass.
Points in it that the spec leaves open are the model's choice: log entry 8. -/
def Obligations.ModeRequestsAndTheWatchdog : Prop :=
  ∀ (s : State) (m : Fin 16),
    let asks (i : Instr) (mode : Nat) : Prop := Completes i s (fun t =>
      { s with fabric := { (s.relock m).fabric with pendA := t.fabric.pendA, accepts := t.fabric.accepts } }.onlyRegs [] t ∧
        bitsOf (t.view PASS_MODE_CTL).toNat 1 0 = mode)
    let refused (i : Instr) : Prop := Completes i s ((s.relock m).rejects m PASS_MODE_CTL E_STATE true)
    (s.mayWrite m PASS_MODE_CTL → s.pass.timerOn = true →
      asks (.reqStop m) modeStop ∧
      (s.pass.prog.isSome = true → s.rd CP_BOOT_STAT_STAGE = 9 → s.scan = false → asks (.reqRun m) modeRun) ∧
      (s.pass.prog = none ∨ s.rd CP_BOOT_STAT_STAGE ≠ 9 ∨ s.scan = true → refused (.reqRun m)) ∧
      (s.pass.faulted = false → s.rd PASS_MODE_STAT_MODE ≠ modeStop → asks (.reqHold m) modeHold) ∧
      (s.pass.faulted = true ∨ s.rd PASS_MODE_STAT_MODE = modeStop → refused (.reqHold m))) ∧
    (s.pass.timerOn = false ∨ s.rd PASS_PHASE_PHASE = phRemainder ∨ s.now < s.pass.tickOf + s.wdLimit →
      exec .passWatchdog s = .next s) ∧
    (s.pass.timerOn = true → s.rd PASS_PHASE_PHASE ≠ phRemainder → s.pass.tickOf + s.wdLimit ≤ s.now →
      Completes .passWatchdog s (fun t => t.rd PASS_PHASE_PHASE = phRemainder ∧ t.rd PASS_MODE_STAT_MODE = modeStop ∧
        t.rd PASS_MODE_STAT_STOP_CAUSE = stopWatchdog ∧ t.rd PASS_MODE_CTL_REQ = modeStop ∧
        t.rd PASS_WD_LAST_PHASE = s.rd PASS_PHASE_PHASE ∧ t.rd PASS_WD_LAST_RUNNING = s.rd PASS_PHASE_RUNNING ∧
        t.rd PASS_WD_CNT_FIRED = min (s.rd PASS_WD_CNT_FIRED + 1) (2 ^ 16 - 1) ∧ t.pass.holdTicksUntil = s.now + 200 * cycPerUs ∧
        t.pass.lateDue = none ∧ (s.healthyStandby = false → t.outputs.gpio = s.outputs.gpio.zipIdx.map (fun x =>
          if blockGpio s.outputs.safe x.2 = 3 then 2 else blockGpio s.outputs.safe x.2)) ∧
        t.keys = s.keys ∧ t.boot = s.boot ∧ t.camp.inFlight = s.camp.inFlight))

/-! Amendments and steward commands (chapters 4, 5, 8, 10, 12, 14 and 17). -/

/-- A request stands whole and alone at the head of its channel, its words came within 10 ms of its header, its staged payload is
len bytes long, and it breaks no rule of form: only its opcode's own checks can turn it away. -/
def offered (s : State) (ch : ReqChannel) (a : Amend) (len : Nat) : Prop :=
  let d := qchXY (chNum ch)
  a.ch = chNum ch ∧ a.group = none ∧ a.op < 256 ∧ a.tag < 256 ∧ a.inl.length ≤ 29 ∧ s.rd d.senderReset = 0 ∧
    s.groupOn (chNum ch) = none ∧ s.mustWait (chNum ch) = false ∧
    s.formCodes ch (s.requestWords d) (decide (0 < s.rd d.preLevel)) = [] ∧
    (∀ w, (s.waiting d.data).head? = some w →
      ∀ x ∈ (s.waiting d.data).take (3 + a.inl.length), x.at_ ≤ w.at_ + 10 * cycPerMs) ∧
    ∃ off rest, s.requestWords d =
        (a.op * 2 ^ 24 + a.tag * 2 ^ 16 + a.inl.length) :: len :: off :: (a.inl.map BitVec.toNat ++ rest) ∧
      a.payload = if a.op = 0x41 then [] else s.bytes (s.stagingBase + off) len

/-- A reply has been posted behind what waits on the channel, and n words of its requests have been taken. -/
def answered (s : State) (ch : ReqChannel) (op tag code : Nat) (w : Word) (n : Nat) (t : State) : Prop :=
  let d := qchXY (chNum ch)
  let y := (qchYX (chNum ch)).data
  t.waiting d.data = (s.waiting d.data).drop n ∧
    t.waiting y = s.waiting y ++ [⟨replyWord op tag code, s.now⟩, ⟨w, s.now⟩] ∧
    (∀ o, o ≠ d.data → o ≠ y → t.waiting o = s.waiting o) ∧ t.requests = s.requests ∧ t.pass = s.pass ∧ t.keys = s.keys ∧
    ∀ o, o ≠ d.stat → o ≠ ATLAS_STAT → o ≠ GAZ_GEN → o ≠ PASS_EXCH_STAT → t.reg o = s.reg o

/-- The amendments by opcode. -/
def amendmentRows (ch : ReqChannel) : List (Nat × Instr) :=
  [(0x01, .atlasWrite ch), (0x02, .atlasClear ch), (0x03, .atlasService ch), (0x04, .atlasReplace ch), (0x10, .gazWrite ch),
   (0x11, .gazDelete ch), (0x12, .gazAdmit ch), (0x13, .gazSubst ch), (0x14, .gazEnable ch), (0x15, .gazRefuse ch),
   (0x20, .exchLoad ch), (0x21, .exchSwap ch), (0x22, .exchRevert ch), (0x23, .exchDiscard ch), (0x28, .tariffWrite ch),
   (0x30, .glDefWrite ch), (0x31, .glDefClear ch), (0x38, .profileWrite ch), (0x39, .campaignNow ch)]

/-- R108, R111, R114, R134. An amendment that passes the checks of its opcode is accepted: it waits for a headland, and only
an atlas amendment prepares the spare bank; one that does not is answered with the lowest code, and changes nothing. An advance
that still runs in the spare bank ends first.
Points in it that the spec leaves open are the model's choice: log entries 11, 47 and 86. -/
def Obligations.AmendmentsAreAcceptedOrAnswered : Prop :=
  ∀ (s : State) (ch : ReqChannel) (a : Amend) (len : Nat) (i : Instr), offered s ch a len → (a.op, i) ∈ amendmentRows ch →
    let d := qchXY (chNum ch)
    let n := 3 + a.inl.length
    let spare := bankBase s.spareBank
    let codes := ((s.popWords d n).draft []).codes a
    (codes = [] → Completes i s (fun t => t.requests = { s.requests with accepted := s.requests.accepted ++ [a] } ∧
      t.fabric = s.fabric ∧ t.keys = s.keys ∧ t.pass = s.pass)) ∧
    (codes = [] → (isAtlasOp a.op = true → ∀ v ∈ s.survey.advances, v.bank ≠ s.spareBank) → Completes i s (fun t =>
      t.requests = { s.requests with accepted := s.requests.accepted ++ [a] } ∧
      t.waiting d.data = (s.waiting d.data).drop n ∧ (∀ o, o ≠ d.data → t.waiting o = s.waiting o) ∧
      (isAtlasOp a.op = false → t.mem = s.mem) ∧
      (∀ k, k < spare ∨ spare + 0x400000 ≤ k → t.byte k = s.byte k) ∧
      (a.op = 0x21 ∨ a.op = 0x22 → t.rd PASS_EXCH_STAT_PENDING = 1) ∧
      (∀ o, o ≠ d.stat → o ≠ PASS_EXCH_STAT → t.reg o = s.reg o) ∧
      t = { s with
        requests := t.requests, queues := t.queues, regs := t.regs, mem := t.mem, outbox := t.outbox, host := t.host })) ∧
    (∀ c, pickCode codes = some c → s.requests.replies = [] → (s.waiting (qchYX (chNum ch)).data).length ≤ 30 →
      Completes i s (fun t => answered s ch a.op a.tag c 0 n t ∧ t.mem = s.mem))

/-- R110, R111. NOR_WRITE erases and programs a range of a slot, and NOR_CHECK answers with its CRC-32C; a range outside
the slot, and a device that does not answer or reports a failure, are answered with their codes; a request not all there after
10 ms, and a group open for 100 ms, are turned away with E_TIMEOUT.
Points in it that the spec leaves open are the model's choice: log entries 47 and 79. -/
def Obligations.StewardCommandsAndTimeouts : Prop :=
  ∀ (s : State) (ch : ReqChannel), s.requests.replies = [] → (s.waiting (qchYX (chNum ch)).data).length ≤ 30 →
    (∀ (a : Amend) (len : Nat) (slot off : Word) (failed : Bool), offered s ch a len → a.inl = [slot, off] →
      let base := slotBase slot.toNat + off.toNat
      let size := (len + 0xFFFF) / 0x10000 * 0x10000
      let fits := slot.toNat < 2 ∧ off.toNat % 0x10000 = 0 ∧ 1 ≤ len ∧ off.toNat + len ≤ s.norHalf
      let tells (code : Nat) (w : Word) (t : State) : Prop := answered s ch a.op a.tag code w 5 t
      let outside (t : State) : Prop := ∀ k, k < base ∨ base + size ≤ k → t.byte k = s.byte k
      (a.op = 0x40 → ¬ fits → Completes (.norWrite ch failed) s (fun t => tells E_RANGE 0 t ∧ t.mem = s.mem)) ∧
      (a.op = 0x40 → fits → s.norAnswers slot.toNat = true → Completes (.norWrite ch false) s (fun t =>
        tells E_OK (BitVec.ofNat 32 len) t ∧ t.bytes base len = a.payload ∧ outside t ∧
        ∀ k, base + len ≤ k → k < base + size → t.byte k = memDefault k)) ∧
      (a.op = 0x40 → fits → failed = true ∨ s.norAnswers slot.toNat = false →
        Completes (.norWrite ch failed) s (fun t => tells E_NOR_FAIL 0 t ∧ outside t)) ∧
      (a.op = 0x41 → ¬ fits → Completes (.norCheck ch) s (fun t => tells E_RANGE 0 t ∧ t.mem = s.mem)) ∧
      (a.op = 0x41 → fits → Completes (.norCheck ch) s (fun t =>
        tells E_OK (BitVec.ofNat 32 (crc32c (s.bytes base len))) t ∧ t.mem = s.mem))) ∧
    (∀ w ws, s.waiting (qchXY (chNum ch)).data = w :: ws →
      let h := w.word.toNat
      let came := ((w :: ws).takeWhile (fun x => decide (x.at_ ≤ w.at_ + 10 * cycPerMs))).length
      (29 < h % 32 ∨ 3 + h % 32 ≤ came ∨ s.now < w.at_ + 10 * cycPerMs → exec (.requestWordsTimeout ch) s = .next s) ∧
      (h % 32 ≤ 29 → came < 3 + h % 32 → w.at_ + 10 * cycPerMs ≤ s.now → s.groupOn (chNum ch) = none →
        (bitOf h 15 = false ∨ isStewardOp (h / 2 ^ 24) = true → Completes (.requestWordsTimeout ch) s (fun t =>
          answered s ch (h / 2 ^ 24) (h / 2 ^ 16 % 256) E_TIMEOUT 0 came t ∧ t.mem = s.mem)) ∧
        (bitOf h 15 = true → isStewardOp (h / 2 ^ 24) = false → Completes (.requestWordsTimeout ch) s (fun t =>
          (∃ g, t.groupOn (chNum ch) = some g ∧ g.since = w.at_ ∧ g.members.length = 1 ∧ g.bad = some (0, E_TIMEOUT)) ∧
          t.waiting (qchXY (chNum ch)).data = (w :: ws).drop came ∧ t.mem = s.mem ∧ t.requests.accepted = s.requests.accepted)))) ∧
    (∀ g a, s.groupOn (chNum ch) = some g → g.members = [a] →
      let inTime := (s.waiting (qchXY (chNum ch)).data).head?.any (fun w => decide (w.at_ < g.since + 100 * cycPerMs))
      (s.now < g.since + 100 * cycPerMs ∨ inTime = true → exec (.groupTimeout ch) s = .next s) ∧
      (g.since + 100 * cycPerMs ≤ s.now → inTime = false → Completes (.groupTimeout ch) s (fun t =>
        t.groupOn (chNum ch) = none ∧ t.requests.accepted = s.requests.accepted ∧ t.mem = s.mem ∧
        t.waiting (qchYX (chNum ch)).data = s.waiting (qchYX (chNum ch)).data ++
          [⟨replyWord a.op a.tag E_TIMEOUT, s.now⟩, ⟨0, s.now⟩])))

/-- R24, R87, R111, R193, R261. On the edge that ends a headland the amendments it has taken are applied, semaphore 31 is released
if the steward still holds it, and every one is answered E_OK with the number of the pass: a profile write stands in SDRAM, a campaign is asked for, and a staged
program that was discarded is gone.
Points in it that the spec leaves open are the model's choice: log entries 7, 11 and 75. -/
def Obligations.AmendmentsTakeEffectAtTheHeadland : Prop :=
  ∀ (s : State) (ch : ReqChannel) (a : Amend), a.ch = chNum ch → s.rd PASS_PHASE_PHASE = phHeadland → s.paired = false →
    s.pass.faulted = false → s.camp.publishing = false → s.fabric.pendNow = [] → s.requests.applying = [a] →
    s.requests.replies = [] → (s.waiting (qchYX (chNum ch)).data).length ≤ 30 →
    let answers (t : State) : Prop := t.requests = { s.requests with applying := [] } ∧
      (s.semHeld 31 = true ∧ s.semOwner 31 = mSteward → t.rd (ACCESS_SEM_STATE 31) = 0) ∧
      (¬(s.semHeld 31 = true ∧ s.semOwner 31 = mSteward) → t.reg (ACCESS_SEM 31) = s.reg (ACCESS_SEM 31)) ∧
      t.rd PASS_PHASE_PHASE = phRemainder ∧ t.waiting (qchYX (chNum ch)).data = s.waiting (qchYX (chNum ch)).data ++
        [⟨replyWord a.op a.tag E_OK, s.now⟩, ⟨s.reg GLOBAL_PASS_CNT_LO, s.now⟩]
    (a.op = 0x38 → 256 * inlW a.inl 1 + a.payload.length ≤ 0x10000 → Completes .headlandEnd s (fun t => answers t ∧
      t.bytes (sd 0x2500000 + 256 * inlW a.inl 1) a.payload.length = a.payload)) ∧
    (a.op = 0x39 → Completes .headlandEnd s (fun t => answers t ∧ t.camp.asked = true)) ∧
    (a.op = 0x23 → Completes .headlandEnd s (fun t => answers t ∧ t.pass.staged = none ∧ t.rd PASS_EXCH_STAT_STAGED = 0))

/-! Surveyors, lanes and campaigns (chapters 6 to 8). -/

/-- R86, R136, R138, R142, R148. A restarted surveyor gives its semaphores up, drops its unfinished work, leaves unassembled the
fields of its region of which nothing has been handed to a lane, is recorded, and resumes when the restart completes; an advance
shows the pass it belongs to and its time; a snapshot holds the points, the draws and the other plant values of the region's fields
as they stood.
Points in it that the spec leaves open are the model's choice: log entries 14, 25, 26 and 27. -/
def Obligations.SurveyorsWorkAndRestart : Prop :=
  ∀ (s : State) (m : Fin 16) (region : Fin 8),
    let r := region.val
    (s.mayWrite m (SV_CTL r) → Completes (.surveyorRestart m region) s (fun t =>
      t.survey = { s.survey with
        advances := s.survey.advances.filter (fun a => a.region != r),
        snapDue := s.survey.snapDue.filter (fun x => x != r),
        late := s.survey.late.filter (fun x => x.region != r),
        restarting := (r, s.now + 20 * cycPerUs) :: s.survey.restarting.filter (fun x => x.1 != r) } ∧
      t.camp = { s.camp with inFlight := s.camp.inFlight.map (fun c => { c with
        fields := c.fields.map (fun f => if f.region = r && f.pending && !f.estGo && !f.optGo then
          { f with notAssembled := true } else f) }) } ∧
      t.rd (SV_STAT_ADV_BUSY r) = 0 ∧ t.rd (SV_STAT_SNAP_BUSY r) = 0 ∧ t.rd GLOBAL_FAULT_LAST_CLASS = 1 ∧
      t.rd GLOBAL_FAULT_LAST_SOURCE = bSurveyor ∧
      (∀ n : Fin 32, s.rd (ACCESS_SEM_STATE n) ≠ 0 → s.rd (ACCESS_SEM_OWNER n) = mSurveyor r →
        t.rd (ACCESS_SEM_STATE n) = 0 ∧ t.rd (ACCESS_SEM_ABANDONED n) = 1) ∧
      (∀ n : Fin 32, s.rd (ACCESS_SEM_STATE n) ≠ 0 → s.rd (ACCESS_SEM_OWNER n) ≠ mSurveyor r →
        t.reg (ACCESS_SEM n) = s.reg (ACCESS_SEM n)) ∧
      t.pass = s.pass ∧ t.fabric = (s.relock m).fabric ∧ t.lanes = s.lanes ∧ t.keys = s.keys)) ∧
    Completes (.surveyorRestartComplete region) s (fun t => t = { s with
      survey := { s.survey with restarting := s.survey.restarting.filter (fun x => x.1 != r) } }) ∧
    (s.svRestarting r = true ∨ s.survey.snapDue.contains r = true → exec (.furrowAdvanceComplete region) s = .next s) ∧
    (∀ a, s.svRestarting r = false → s.survey.snapDue.contains r = false →
      s.survey.advances.find? (fun x => x.region == r) = some a →
      Completes (.furrowAdvanceComplete region) s (fun t => t.rd (SV_STAT_ADV_BUSY r) = 0 ∧
        t.reg (SV_ADV_PASS r) = BitVec.ofNat 32 a.pass ∧
        t.rd (SV_ADV_TIME_LAST_US r) = min ((s.now - a.began) / cycPerUs) (2 ^ 16 - 1) ∧
        t.survey.advances = s.survey.advances.filter (fun x => x.region != r) ∧
        ((s.atlas a.bank).regionPipes r = [] → (∀ x ∈ s.survey.late, x.region ≠ r) → t.mem = s.mem) ∧
        { s with survey := t.survey, mem := t.mem, memBad := t.memBad }.onlyRegs
          [SV_STAT r, SV_ADV_PASS r, SV_ADV_TIME r, SV_CNT_MERGE r] t)) ∧
    (∀ c, s.camp.inFlight = some c → s.survey.snapDue.contains r = true → s.svRestarting r = false →
      let b := s.atlas c.bank
      let fields := (c.fields.filter (fun f => f.region == r)).map (fun f => f.field)
      Completes (.snapshotComplete region) s (fun t =>
        t.survey = { s.survey with
          snapDue := s.survey.snapDue.filter (fun x => x != r),
          snap := s.survey.snap ++ (fields.flatMap b.fieldPoints).map (s.snapOf s.inBase),
          snapMore := s.survey.snapMore ++ fields.flatMap (s.snapMoreOf b),
          dSnap := s.survey.dSnap ++ fields.map (fun f => (f, s.fieldDraw b s.inBase f)),
          profiles := s.survey.profiles ++ (b.regionPipes r).map (s.profileOf b c.launchTime) } ∧
        t.rd (SV_STAT_SNAP_BUSY r) = 0 ∧ t.rd (SV_STAT_ASM_BUSY r) = 1 ∧
        { s with survey := t.survey }.onlyRegs [SV_STAT r] t)) ∧
    (s.camp.inFlight = none → exec (.snapshotComplete region) s = .next s)

/-- R16, R159, R190, R192, R193, R195. A launch that is due takes place at a freeze edge in RUN with CMN_CFG.EN set: it pins the
bank in force, is numbered and abandons the self-tests of the lanes it binds; with either condition unmet it is skipped and counted; an estimation problem that is assembled is copied
into its lane's slice and its GO is posted under the surveyor's identity.
Points in it that the spec leaves open are the model's choice: log entries 28, 76 and 93. -/
def Obligations.CampaignsLaunchAndHandOver : Prop :=
  ∀ (s : State),
    (s.rd PASS_PHASE_PHASE ≠ phFreeze ∨ s.camp.decidedAt = some s.passCount ∨ s.camp.inFlight.isSome = true →
      exec .campaignLaunch s = .next s) ∧
    (s.rd PASS_PHASE_PHASE = phFreeze → s.camp.decidedAt ≠ some s.passCount → s.camp.inFlight = none →
      (s.camp.asked = false → s.launchDue = false → exec .campaignLaunch s = .next s) ∧
      (s.camp.asked = true ∨ s.launchDue = true →
        (s.mayLaunch = true → Completes .campaignLaunch s (fun t => t.camp = { s.camp with
            inFlight := some s.newCampaign, due := some s.passCount, asked := false, launched := s.camp.launched + 1,
            decidedAt := t.camp.decidedAt,
            noWarm := s.camp.noWarm.filter (fun f => !s.newCampaign.fields.any (fun x => x.field == f)) } ∧
          (∀ n : Fin 256, (∃ x ∈ s.newCampaign.fields, x.lane = some n.val) → t.rd (LANE_STAT_STATE n) ≠ laneTest) ∧
          t.reg CMN_NUM = s.reg CMN_NUM + 1 ∧ t.reg CMN_PASS = s.reg GLOBAL_PASS_CNT_LO ∧ t.rd CMN_STAT_IN_FLIGHT = 1 ∧
          t.rd CMN_STAT_ROUND = 0 ∧ t.rd ATLAS_STAT_PINNED = s.rd ATLAS_STAT_IN_FORCE ∧ t.survey.snap = [] ∧
          t.pass = s.pass ∧ t.lanes = s.lanes ∧ t.fabric = s.fabric)) ∧
        (s.mayLaunch = false → Completes .campaignLaunch s (fun t =>
          t.camp = { s.camp with due := none, asked := false, decidedAt := some s.passCount } ∧
          t.rd CMN_CNT_SKIPPED = min (s.rd CMN_CNT_SKIPPED + 1) (2 ^ 16 - 1) ∧
          { s with camp := t.camp }.onlyRegs [CMN_CNT] t)))) ∧
    (∀ (region : Fin 8) (field : Fin 256) (c : Campaign) (x : FieldRun) (lane : Fin 256),
      let r := region.val
      let b := s.atlas c.bank
      let base := sliceBase lane
      let a := s.estProblem c x
      s.camp.inFlight = some c → s.survey.snapDue.contains r = false → s.svRestarting r = false →
      s.survey.advances.any (fun y => y.region == r) = false →
      (c.fields.filter (fun y => y.region == r)).find? (fun y => y.work != 0) = some x → x.field = field.val →
      x.lane = some lane.val → x.work = 1 →
      (a.capacity 1 s = false → s.rd (SV_ERR_CODE r) = 0 → Completes (.problemAssembled region field) s (fun t =>
        t.rd (SV_ERR_CODE r) = E_CAPACITY ∧ t.rd (SV_ERR_FIELD r) = field ∧ t.fabric = s.fabric ∧ t.lanes = s.lanes ∧
        ∀ k, k < logBase ∨ logBase + 0x20000 ≤ k → t.byte k = s.byte k)) ∧
      (a.capacity 1 s = true → b.paired field = true → Completes (.problemAssembled region field) s (fun t =>
        t.fabric = { s.fabric with inFlight := s.fabric.inFlight ++
          [⟨mSurveyor r, LANE_CTL lane, LANE_CTL lane, 0, 0, 0, 1, false, s.now⟩] } ∧
        t.ld base 4 = 0x54494C4C ∧ t.ld (base + 4) 1 = 1 ∧ t.ld (base + 5) 1 = a.stages.length ∧ t.ld (base + 8) 1 = field ∧
        (∀ k, 0x100 ≤ k → k < (a.bytes 1).length → t.byte (base + k) = (a.bytes 1).getD k 0) ∧
        (∀ k, k < base ∨ base + sliceLen ≤ k → t.byte k = s.byte k) ∧ t.lanes = s.lanes ∧ t.survey = s.survey)))

/-- R164, R165, R172, R182 to R185. GO starts a solve on an idle lane with its job shown, and a problem that breaks a rule is
decided FORMAT and reported; GO and ABORT of another master, or in a state that does not take them, are rejected; ABORT decides
ABORTED; an update is counted; a delivery writes its record last of all with SEQ one higher, and frees the lane.
Points in it that the spec leaves open are the model's choice: log entry 29. -/
def Obligations.LanesSolveAndDeliver : Prop :=
  ∀ (s : State) (m : Fin 16) (lane : Fin 256),
    let n := lane.val
    let st := s.rd (LANE_STAT_STATE n)
    let v := s.slice_ n
    let u := s.goLanded n
    let mine := m.val = mSteward ∨ m.val = mSurveyor (n / 32)
    let shows : List Nat := [LANE_STAT n, CL_STAT (n / 8)]
    let base := sliceBase n
    (mine → st = laneIdle ∨ st = laneTest → Completes (.laneGo m lane) s (fun t =>
      t.rd (LANE_JOB_FIELD n) = v.u 8 1 ∧ t.rd (LANE_JOB_CAMPAIGN n) = v.u 0xA 2 ∧ t.mem = s.mem ∧
      { u with lanes := t.lanes }.onlyRegs (LANE_JOB n :: LANE_ERR n :: shows) t ∧
      ∃ r, t.laneRun? n = some r ∧ r.k = 0 ∧ r.goAt = s.now ∧ r.prob = s.bytes base (max 0x100 (min sliceLen (v.u 0x34 4))) ∧
        (r.decided = none → t.rd (LANE_STAT_STATE n) = laneRun) ∧ (r.decided ≠ none → t.rd (LANE_STAT_STATE n) = laneDeliver) ∧
        (s.deadlineRaised = true → r.decided = some (deadlineStatus r.prob 0)) ∧
        (∀ e, s.deadlineRaised = false → v.laneCheck = some e → r.decided = some stFormat ∧
          (s.rd (LANE_ERR_CODE n) = 0 → t.rd (LANE_ERR_CODE n) = e.1 % 256 ∧ t.rd (LANE_ERR_OFFSET n) = e.2 % 2 ^ 19)))) ∧
    (¬ mine → Completes (.laneGo m lane) s (u.rejects m (LANE_CTL n) E_LOCKED true)) ∧
    (mine → st = laneRun ∨ st = laneDeliver → Completes (.laneGo m lane) s (u.rejects m (LANE_CTL n) E_BUSY true)) ∧
    (mine → st = laneOut → Completes (.laneGo m lane) s (u.rejects m (LANE_CTL n) E_STATE true)) ∧
    (¬ mine → Completes (.laneAbort m lane) s (s.rejects m (LANE_CTL n) E_LOCKED true)) ∧
    (mine → st ≠ laneRun → Completes (.laneAbort m lane) s (s.rejects m (LANE_CTL n) E_STATE true)) ∧
    (∀ r, s.laneRun? n = some r →
      (mine → st = laneRun → Completes (.laneAbort m lane) s (fun t =>
        t.laneRun? n = some { r with decided := some stAborted } ∧ t.rd (LANE_STAT_STATE n) = laneDeliver ∧
        { s with lanes := t.lanes }.onlyRegs shows t)) ∧
      (st ≠ laneRun → exec (.laneUpdateComplete lane) s = .next s) ∧
      (st = laneRun → r.decided = none → Completes (.laneUpdateComplete lane) s (fun t =>
        { s with lanes := t.lanes }.onlyRegs (LANE_REG_CNT n :: CL_SEQ_WAIT (n / 8) :: shows) t ∧
        ∃ q, t.laneRun? n = some q ∧ q.prob = r.prob ∧ q.goAt = r.goAt ∧
          (∀ f, updateOf (r.sec s).problem (r.sec s).deltaExp r.iter = (f, none) →
            q.k = r.k ∧ q.iter = r.iter ∧ q.decided = some stNumeric) ∧
          (∀ f w, updateOf (r.sec s).problem (r.sec s).deltaExp r.iter = (f, some w) → q.k = r.k + 1 ∧ q.iter = w.1) ∧
          (q.decided = none → t.rd (LANE_STAT_STATE n) = laneRun) ∧
          (q.decided ≠ none → t.rd (LANE_STAT_STATE n) = laneDeliver))) ∧
      (r.decided = none → exec (.laneDeliveryComplete lane) s = .next s) ∧
      (∀ d, r.decided = some d → s.camp.inFlight = none → Completes (.laneDeliveryComplete lane) s (fun t =>
        t.laneRun? n = none ∧ t.rd (LANE_STAT_STATUS n) = d % 256 ∧ t.rd (LANE_STAT_ITER n) = r.k % 256 ∧
        t.rd (LANE_STAT_VALID n) = validOf d r.prob ∧
        t.rd (LANE_STAT_STATE n) =
          (if s.rd (LANE_STAT_OOS n) = 1 ∨ s.heldOut n = true then laneOut else laneIdle) ∧
        t.reg (LANE_CYC n) = BitVec.ofNat 32 ((s.now - r.goAt) * 2 / 3) ∧
        t.ld (base + 0xB0) 4 = (s.ld (base + 0xB0) 4 + 1) % 2 ^ 32 ∧
        (∀ k, 0xB4 ≤ k → k < 0x100 → t.byte (base + k) = 0) ∧
        (writesIterate d r.k = false → ∀ k, k < base + 0x80 ∨ base + 0x100 ≤ k → t.byte k = s.byte k) ∧
        { s with lanes := t.lanes, mem := t.mem }.onlyRegs (LANE_CYC n :: shows) t))) ∧
    (s.laneRun? n = none → exec (.laneUpdateComplete lane) s = .next s ∧ exec (.laneDeliveryComplete lane) s = .next s)

/-- R165, R187 to R189. A workspace error puts a lane out of service and is counted and recorded, a solve on it is decided FAULT, and
a test on it goes on to its end; RETEST loads the benchmark problem into an idle lane, and into one that is out under OOS alone; the
test's outcome is what the CRC of its result says, is counted, and returns the lane or takes it out; HOLD_OUT waits for a headland,
and in flight while the clock of the lane's domain is stopped.
Points in it that the spec leaves open are the model's choice: log entries 29 and 94. -/
def Obligations.LanesAreTestedAndHeldOut : Prop :=
  ∀ (s : State) (m : Fin 16) (lane : Fin 256) (offset : Nat) (wrong : List (Nat × Byte)) (hold : Bool),
    let n := lane.val
    let st := s.rd (LANE_STAT_STATE n)
    Completes (.workspaceUncorrectable lane offset) s (fun t => t.rd (LANE_STAT_OOS n) = 1 ∧
      t.rd (CL_ECC_UNCORR (n / 8)) = min (s.rd (CL_ECC_UNCORR (n / 8)) + 1) (2 ^ 16 - 1) ∧
      t.memBad = addOnce s.memBad ((sliceBase n + offset % sliceLen) / 8 * 8) ∧ t.rd GLOBAL_FAULT_LAST_CLASS = 1 ∧
      t.rd GLOBAL_FAULT_LAST_SOURCE = bTiller ∧
      (s.laneRun? n = none → st = laneTest → t.rd (LANE_STAT_STATE n) = laneTest ∧ t.testErrs = addOnce s.testErrs n) ∧
      (s.laneRun? n = none → st ≠ laneRun → st ≠ laneDeliver → st ≠ laneTest → t.rd (LANE_STAT_STATE n) = laneOut) ∧
      (∀ r, s.laneRun? n = some r → r.decided = none → t.laneRun? n = some { r with decided := some stFault } ∧
        t.rd (LANE_STAT_STATE n) = laneDeliver)) ∧
    (st ≠ laneTest → exec (.selfTestComplete lane wrong) s = .next s) ∧
    (st = laneTest →
      let ok := benchPasses wrong
      let oos := !ok || s.testErrs.contains n
      Completes (.selfTestComplete lane wrong) s (fun t =>
        t.rd (LANE_TEST_PASSES n) = min (s.rd (LANE_TEST_PASSES n) + b2n ok) (2 ^ 16 - 1) ∧
        t.rd (LANE_TEST_FAILS n) = min (s.rd (LANE_TEST_FAILS n) + b2n (!ok)) (2 ^ 8 - 1) ∧
        t.rd (LANE_TEST_LAST n) = (if ok then 1 else 2) ∧ t.rd (LANE_STAT_OOS n) = b2n oos ∧
        t.rd (LANE_STAT_HELD n) = b2n (s.heldOut n) ∧
        t.rd (LANE_STAT_STATE n) = (if oos = true ∨ s.heldOut n = true then laneOut else laneIdle) ∧
        t.rd GLOBAL_FAULT_LAST_CLASS = (if ok then s.rd GLOBAL_FAULT_LAST_CLASS else 1) ∧
        (∀ i, i < sliceLen → i < 0x88 ∨ 0x8C ≤ i → t.byte (sliceBase n + i) = (benchWrong wrong).getD i 0) ∧
        (ok = true → (∀ k, k < sliceBase n ∨ sliceBase n + sliceLen ≤ k → t.byte k = s.byte k) ∧
          { s with mem := t.mem, free := t.free, testErrs := s.testErrs.filter (· != n) }.onlyRegs
            [LANE_TEST n, LANE_STAT n, CL_STAT (n / 8)] t))) ∧
    (s.mayWrite m (LANE_CTL n) → s.domainRuns (LANE_CTL n) = true →
      (st = laneIdle ∨ (st = laneOut ∧ s.rd (LANE_STAT_OOS n) = 1 ∧ s.rd (LANE_STAT_HELD n) = 0) →
        Completes (.laneRetest m lane) s (fun t => t.rd (LANE_STAT_STATE n) = laneTest ∧
          (∀ i, i < sliceLen → t.byte (sliceBase n + i) = benchSlice.getD i 0) ∧
          (∀ k, k < sliceBase n ∨ sliceBase n + sliceLen ≤ k → t.byte k = s.byte k) ∧
          { s.relock m with mem := t.mem, memBad := t.memBad, testErrs := s.testErrs.filter (· != n) }.onlyRegs
            [LANE_STAT n, CL_STAT (n / 8)] t)) ∧
      (st = laneRun ∨ st = laneDeliver ∨ st = laneTest → Completes (.laneRetest m lane) s (fun t =>
        ∃ u, (s.relock m).onlyRegs [] u ∧ u.rejects m (LANE_CTL n) E_BUSY true t)) ∧
      (st = laneOut → ¬(s.rd (LANE_STAT_OOS n) = 1 ∧ s.rd (LANE_STAT_HELD n) = 0) → Completes (.laneRetest m lane) s (fun t =>
        ∃ u, (s.relock m).onlyRegs [] u ∧ u.rejects m (LANE_CTL n) E_STATE true t))) ∧
    (s.settled → s.canAccess m = true → s.placeCodes m (LANE_CTL n) true = [] → s.pass.timerOn = true → s.paired = false →
      (s.domainRuns (LANE_CTL n) = true → Completes (.laneHoldOut m lane hold) s (fun t =>
        bitOf (t.view (LANE_CTL n)).toNat 3 = hold ∧
        { s with fabric := { (s.relock m).fabric with pendA := t.fabric.pendA, accepts := t.fabric.accepts } }.onlyRegs [] t)) ∧
      (s.domainRuns (LANE_CTL n) = false → Completes (.laneHoldOut m lane hold) s (fun t =>
        bitOf (t.view (LANE_CTL n)).toNat 3 = hold ∧ t.rd (LANE_CTL_HOLD_OUT n) = s.rd (LANE_CTL_HOLD_OUT n) ∧
        { s with fabric := { (s.relock m).fabric with inFlight := t.fabric.inFlight } }.onlyRegs [] t)))

/-- R184, R199, R201 to R203, R206. The deadline reaches every lane that still solves; a round in which every participant has
delivered is kept and leads to the next, unless the group has converged or had its last; a publication is prepared at a headland and,
on the edge that ends it, turns the table's buffer and ends the campaign.
Points in it that the spec leaves open are the model's choice: log entries 18 and 76. -/
def Obligations.CampaignsEndWithAPublication : Prop :=
  ∀ (s : State) (c : Campaign) (first : Fin 256), s.camp.inFlight = some c →
    let head := s.rd PASS_PHASE_PHASE = phHeadland
    (¬ head ∨ s.passCount + 1 < c.launchPass + c.deadline ∨ c.raised = true ∨ c.ready = true →
      exec .campaignDeadline s = .next s) ∧
    (head → c.launchPass + c.deadline ≤ s.passCount + 1 → c.raised = false → c.ready = false →
      Completes .campaignDeadline s (fun t =>
        (∃ d, t.camp = { s.camp with inFlight := some d } ∧ d.raised = true ∧ d.hit = true ∧ d.launchPass = c.launchPass) ∧
        (∀ lane : Fin 256, ∀ r, s.lanes = [r] → r.lane = lane.val → r.decided = none →
          t.lanes = [{ r with decided := some (deadlineStatus r.prob r.k) }] ∧
          t.rd (LANE_STAT_STATE lane) = laneDeliver) ∧
        t.mem = s.mem ∧ t.pass = s.pass ∧ t.fabric = s.fabric)) ∧
    (s.groupFor c first = none → exec (.consensusStep first) s = .next s) ∧
    (∀ g, s.groupFor c first = some g →
      (g.converged = true ∨ g.done = some g.round ∨ c.roundDone g = false ∨ c.raised = true →
        exec (.consensusStep first) s = .next s) ∧
      (g.converged = false → g.done ≠ some g.round → c.roundDone g = true → c.raised = false →
        Completes (.consensusStep first) s (fun t => ∃ d h, t.camp.inFlight = some d ∧ h ∈ d.groups ∧ h.fields = g.fields ∧
          h.done = some g.round ∧
          (h.converged = true ∨ c.roundsMax ≤ g.round → h.round = g.round ∧ t.fabric = s.fabric ∧ t.mem = s.mem) ∧
          (h.converged = false → g.round < c.roundsMax → h.round = g.round + 1 ∧
            t.fabric.inFlight.length = s.fabric.inFlight.length + (c.members g).length)))) ∧
    (head → c.ready = true ∨ (c.raised = true ∧ s.lanesQuiet c = true) →
      Completes .campaignPublish s (fun t => t = { s with camp := { s.camp with publishing := true } })) ∧
    (¬ head ∨ (c.ready = false ∧ (c.raised = false ∨ s.lanesQuiet c = false)) → exec .campaignPublish s = .next s) ∧
    (head → s.camp.publishing = true → s.paired = false → s.pass.faulted = false → s.fabric.pendNow = [] →
      s.requests.applying = [] →
      Completes .headlandEnd s (fun t => t.camp.inFlight = none ∧ t.camp.publishing = false ∧ t.rd CMN_STAT_IN_FLIGHT = 0 ∧
        t.rd CMN_STAT_BUF = 1 - s.rd CMN_STAT_BUF ∧ t.rd CMN_STAT_DEADLINE_HIT = b2n c.hit ∧ t.rd ATLAS_STAT_PINNED = 3 ∧
        t.ld (tableBase (1 - s.rd CMN_STAT_BUF)) 4 = 0x53505442 ∧
        t.ld (tableBase (1 - s.rd CMN_STAT_BUF) + 4) 4 = (s.reg CMN_NUM).toNat))

/-! Loop engines, the external set-point port and the PWM periods (chapter 11, R433). -/

/-- The engines and their outputs may have changed, with what an F2 of an engine touches; all other state is unchanged. -/
def loopFrame (s t : State) : Prop :=
  t = { s with
    regs := t.regs, mem := t.mem, gleaner := t.gleaner, outbox := t.outbox, host := t.host, active := t.active, bus := t.bus,
    outputs := t.outputs, loops := t.loops, free := t.free, fabric := t.fabric }

/-- R276, R277, R281. RUN written 1 starts a stopped engine whose PV_MIN lies below PV_MAX, with I at the value that the output is
driven at, within U_MIN to U_MAX, and is rejected with E_CONFLICT where it does not; RUN written 0 stops a running one and drives
its safe value; HOLD_LAW copies the coefficients and gives them back, and expires after 16 samples with HOLD_EXPIRED set.
Points in it that the spec leaves open are the model's choice: log entries 33 and 34. -/
def Obligations.LoopEnginesStartStopAndHold : Prop :=
  ∀ (s : State) (m : Fin 16) (engine : Fin 32),
    let n := engine.val
    let e := s.engine n
    let put (x : LoopEngine) : Loops := { s.loops with engines := s.loops.engines.set n x }
    let lo := q31 (s.q15 (LOOP_ULIM_U_MIN n))
    let hi := q31 (s.q15 (LOOP_ULIM_U_MAX n))
    (s.settled → s.canAccess m = true → s.placeCodes m (LOOP_CTL n) true = [] →
      (s.pvOk n = true → s.rd (LOOP_CTL_RUN n) = 0 → Completes (.loopStart m engine) s (fun t =>
        t.rd (LOOP_CTL_RUN n) = 1 ∧ t.rd (LOOP_STAT_STATE n) = leRunning ∧ t.rd (LOOP_STAT_CONSEC n) = 0 ∧
        t.acc n = (if s.rd (LOOP_OUT_OUT_KIND n) = 0 then lo else clampInt lo hi (q31 ((s.drivenCode n / 2 : Nat) : Int))) ∧
        t.loops = put { e with first := true, due := none } ∧
        { s with loops := t.loops }.onlyRegs [LOOP_CTL n, LOOP_STAT n, LOOP_INT_LO n, LOOP_INT_HI n] t)) ∧
      (s.pvOk n = true → s.rd (LOOP_CTL_RUN n) = 1 → Completes (.loopStart m engine) s (s.onlyRegs [])) ∧
      (s.pvOk n = false → Completes (.loopStart m engine) s (s.rejects m (LOOP_CTL n) E_CONFLICT true)) ∧
      (s.rd (LOOP_CTL_RUN n) = 1 → Completes (.loopStop m engine) s (fun t =>
        t.rd (LOOP_CTL_RUN n) = 0 ∧ t.rd (LOOP_STAT_STATE n) = leStopped ∧ t.loops = put { e with due := none } ∧
        t.outputs = (s.driveEngine n (s.safeCode n)).outputs ∧
        { s with loops := t.loops, outputs := t.outputs }.onlyRegs [LOOP_CTL n, LOOP_STAT n] t)) ∧
      (s.rd (LOOP_CTL_RUN n) = 0 → Completes (.loopStop m engine) s (s.onlyRegs [])) ∧
      (s.rd (LOOP_CTL_RUN n) = 0 ∨ s.pvOk n = true →
        (s.rd (LOOP_CTL_HOLD_LAW n) = 0 → Completes (.holdLawSet m engine) s (fun t => t.rd (LOOP_CTL_HOLD_LAW n) = 1 ∧
          t.loops = put { e with held := some (s.coefs n), heldCount := 0 } ∧
          { s with loops := t.loops }.onlyRegs [LOOP_CTL n] t)) ∧
        (s.rd (LOOP_CTL_HOLD_LAW n) = 1 → Completes (.holdLawSet m engine) s (s.onlyRegs []) ∧
          Completes (.holdLawClear m engine) s (fun t => t.rd (LOOP_CTL_HOLD_LAW n) = 0 ∧
            t.loops = put { e with held := none, heldCount := 0 } ∧
            { s with loops := t.loops }.onlyRegs [LOOP_CTL n] t)) ∧
        (s.rd (LOOP_CTL_HOLD_LAW n) = 0 → Completes (.holdLawClear m engine) s (s.onlyRegs [])))) ∧
    (e.held = none ∨ e.heldCount < 16 → exec (.holdLawExpiry engine) s = .next s) ∧
    (e.held.isSome = true → 16 ≤ e.heldCount → Completes (.holdLawExpiry engine) s (fun t =>
      t.loops = put { e with held := none, heldCount := 0 } ∧ t.rd (LOOP_CTL_HOLD_LAW n) = 0 ∧
      t.rd (LOOP_STAT_HOLD_EXPIRED n) = 1 ∧ t.rd GLOBAL_FAULT_LAST_CLASS = 0 ∧ t.rd GLOBAL_FAULT_LAST_SOURCE = bLoop ∧
      t.rd (LOOP_STAT_STATE n) = s.rd (LOOP_STAT_STATE n) ∧ t.outputs = s.outputs ∧ loopFrame s t))

/-- R267 to R270, R273, R276, R278, R433. A tick comes every 150,000 SYS cycles and makes a sample of a running engine due on
its grid; a sample whose feedback is present and valid runs the law: I moves by the sum of the products over the errors,
saturated and clamped into U_MIN to U_MAX, and the output is u widened; an invalid feedback, or a sample not started by the next
tick of the grid, is an overrun, and the eighth in a row ends the engine in FAULT. A complete frame of the set-point port
replaces its words; none for 250 µs makes them invalid; waiting PWM duties take effect at the period.
Points in it that the spec leaves open are the model's choice: log entries 14 and 33. -/
def Obligations.LoopSamplesRunTheLaw : Prop :=
  ∀ (s : State) (engine : Fin 32) (m t0 : Nat) (frame : BitVec 128),
    let n := engine.val
    let e := s.engine n
    let c := s.rd (LOOP_STAT_CONSEC n)
    let kind := s.rd (LOOP_SRC_PV_KIND n)
    let ref := s.rd (LOOP_SRC_PV_REF n)
    let k (f : Nat → Fld) : Int := s.q15 (f n)
    let tick := s.loops.ticks
    (s.loops.nextTick = none → exec .loopTick s = .next s) ∧
    (s.loops.nextTick = some t0 → s.now < t0 → exec .loopTick s = .next s) ∧
    (s.loops.nextTick = some t0 → t0 ≤ s.now → Completes .loopTick s (fun t =>
      t.loops.nextTick = some (t0 + 150000) ∧ t.loops.ticks = tick + 1 ∧ loopFrame s t ∧
      (s.fabric.pendA = [] → s.loops.engines.length = 32 → s.leState n = leRunning →
        tick % s.rd (LOOP_SAMPLE_DIV n) = s.rd (LOOP_SAMPLE_PHASE n) →
        (e.due = none → (t.engine n).due = some tick ∧ t.rd (LOOP_STAT_STATE n) = leRunning) ∧
        (e.due.isSome = true → c < 7 → (t.engine n).due = some tick ∧ t.rd (LOOP_STAT_CONSEC n) = c + 1 ∧
          t.rd (LOOP_STAT_OVR_CAUSE n) = 1) ∧
        (e.due.isSome = true → c = 7 → (t.engine n).due = none ∧ t.rd (LOOP_STAT_STATE n) = leFault ∧
          t.rd (LOOP_CTL_RUN n) = 0 ∧ t.rd (LOOP_STAT_FAULT_CAUSE n) = causeOverrun)))) ∧
    (e.due = none ∨ s.leState n ≠ leRunning → exec (.loopSample engine) s = .next s) ∧
    (e.due = some m → s.leState n = leRunning →
      (s.feedbackPresent n m = false → exec (.loopSample engine) s = .next s) ∧
      (s.feedbackPresent n m = true → s.sourceOk kind ref = false → c < 7 → Completes (.loopSample engine) s (fun t =>
        t.rd (LOOP_STAT_CONSEC n) = c + 1 ∧ t.rd (LOOP_STAT_OVR_CAUSE n) = 2 ∧ t.outputs = s.outputs ∧
        { s with loops := t.loops }.onlyRegs [LOOP_STAT n, LOOP_OVR_CNT n] t)) ∧
      (s.feedbackPresent n m = true → s.sourceOk kind ref = true → Completes (.loopSample engine) s (fun t =>
        t.rd (LOOP_SAMPLES_COUNT n) = (s.rd (LOOP_SAMPLES_COUNT n) + 1) % 2 ^ 32 ∧ t.rd (LOOP_STAT_CONSEC n) = 0 ∧
        t.rd (LOOP_STAT_STATE n) = leRunning ∧
        t.q15 (LOOP_VAL_Y n) =
          scale15 (s.reg (LOOP_PV_MIN n)).toNat (s.reg (LOOP_PV_MAX n)).toNat (s.sourceValue kind ref) ∧
        t.outputs = (s.driveEngine n (wideCode (t.q15 (LOOP_VAL_U n)))).outputs ∧ loopFrame s t ∧
        (e.held = none → e.first = false → s.rd (LOOP_CTL_MANUAL n) = 0 → s.rd (LOOP_OUT_LIM_POS n) = 0 →
          let r := t.q15 (LOOP_RVAL_R n)
          let e0 := r - t.q15 (LOOP_VAL_Y n)
          let f0 := if s.rd (LOOP_SRC_FF_SEL n) = 1 then r else if s.rd (LOOP_SRC_FF_SEL n) = 2 then e.ff else 0
          let d := k LOOP_KP_COEF * (e0 - e.e1) + k LOOP_KI_COEF * e0 + k LOOP_KD_COEF * (e0 - 2 * e.e1 + e.e2) +
            k LOOP_KF_COEF * (f0 - e.f1) + k LOOP_KA_COEF * e.d1
          t.acc n = clampInt (q31 (k LOOP_ULIM_U_MIN)) (q31 (k LOOP_ULIM_U_MAX))
            (sat40 (s.acc n + sat40 (2 * d * 2 ^ s.rd (LOOP_SHIFT_SHIFT n)))) ∧
          t.q15 (LOOP_VAL_U n) = rnd15 (t.acc n))))) ∧
    exec (.xspFrame none) s = .next s ∧
    Completes (.xspFrame (some frame)) s (fun t => t = { s with loops := { s.loops with
      xsp := t.loops.xsp, xspAt := some s.now, xspFrames := s.loops.xspFrames + 1 } } ∧
      t.loops.xsp.length = 8 ∧ ∀ w : Fin 8, t.loops.xsp[w.val]? = some (frame.extractLsb' (112 - 16 * w.val) 16).toNat) ∧
    (s.loops.xspAt = none → exec .xspWordTimeout s = .next s) ∧
    (s.loops.xspAt = some m → (s.now < m + 300000 → exec .xspWordTimeout s = .next s) ∧
      (m + 300000 ≤ s.now → Completes .xspWordTimeout s (fun t => t = { s with loops := { s.loops with xspAt := none } }))) ∧
    (s.now < s.loops.pwmNextAt → exec .pwmPeriodStart s = .next s) ∧
    (s.loops.pwmNextAt ≤ s.now → Completes .pwmPeriodStart s (fun t => t = { s with
      outputs := { s.outputs with pwm := s.outputs.pwmNext }
      loops := { s.loops with pwmNextAt := (s.now / 65536 + 1) * 65536 } }))

/-! Field exchange (chapter 12). -/

/-- The value of a saturating counter after one more event (R84). -/
def counted (s : State) (f : Fld) : Nat := min (s.rd f + 1) (2 ^ (f.hi + 1 - f.lo) - 1)

/-- R82, R284, R308. EN written 1 starts a stopped port with the clock state of its role, and written 0 stops a running one;
an enabled port's link comes up, and its group is reported on it; a link that goes down on an enabled port is an F1 that persists until it comes up, and so is
one that is still down 2 s after EN; the module's signals are shown.
Points in it that the spec leaves open are the model's choice: log entries 97 and 99. -/
def Obligations.FieldPortsStartAndCarryTheLink : Prop :=
  ∀ (s : State) (m : Fin 16) (port : Fin 4) (x y : Bool),
    let n := port.val
    let role := s.rd (FP_CTL_PTP_ROLE n)
    let down : ActiveFault := ⟨1, bField, 0, n⟩
    let late : Prop := s.rd (FP_CTL_EN n) = 1 ∧ s.rd (FP_STAT_LINK n) = 0 ∧ (s.fport n).enabledAt + 2 * cycPerS ≤ s.now ∧
      down ∉ s.active
    let frame (t : State) : Prop := t = { s with
      regs := t.regs, mem := t.mem, gleaner := t.gleaner, outbox := t.outbox, host := t.host, active := t.active,
      field := t.field, pair := t.pair }
    (s.settled → s.canAccess m = true → s.placeCodes m (FP_CTL n) true = [] → checkField s (FP_CTL 0) n = [] → s.domainRuns (FP_CTL n) = true →
      (s.rd (FP_CTL_EN n) = 0 → Completes (.portEnable m port true) s (fun t => t.rd (FP_CTL_EN n) = 1 ∧
          t.rd (FP_STAT_PTP_STATE n) = (if role = 1 then 1 else if role = 2 then 3 else 0) ∧
          t.field.ports = s.field.ports.set n { s.fport n with
            enabledAt := s.now, lockRun := 0, ptp := { ptpPort0 with dueAnnounce := s.now, dueSync := s.now } } ∧
          { s.relock m with field := t.field, pair := t.pair }.onlyRegs [FP_CTL n, FP_STAT n] t) ∧
        Completes (.portEnable m port false) s ((s.relock m).onlyRegs [])) ∧
      (s.rd (FP_CTL_EN n) = 1 → Completes (.portEnable m port true) s ((s.relock m).onlyRegs []) ∧
        Completes (.portEnable m port false) s (fun t => t.rd (FP_CTL_EN n) = 0 ∧ t.rd (FP_STAT_PTP_STATE n) = 0 ∧
          t.rd (FP_STAT_LINK n) = 0 ∧ t.rd (FP_STAT_AN_DONE n) = 0 ∧ down ∉ t.active ∧ t.field = s.field ∧ t.fabric = (s.relock m).fabric ∧
          frame { t with fabric := s.fabric }))) ∧
    (s.rd (FP_CTL_EN n) = 0 → exec (.portLinkUp port x) s = .next s) ∧
    (s.rd (FP_CTL_EN n) = 1 → Completes (.portLinkUp port x) s (fun t => t.rd (FP_STAT_LINK n) = 1 ∧
      t.rd (FP_STAT_LOS n) = 0 ∧ t.rd (FP_STAT_MOD_ABS n) = 0 ∧
      t.rd (FP_STAT_AN_DONE n) = b2n (x && s.rd (FP_CTL_SPEED n) == 1) ∧ down ∉ t.active ∧
      (∀ f ∈ s.active, f.source ≠ bField → f ∈ t.active) ∧
      { s with active := t.active, outbox := (s.mldReport n 4).outbox }.onlyRegs [FP_STAT n] t)) ∧
    Completes (.portLinkDown port x y) s (fun t => t.rd (FP_STAT_LOS n) = b2n x ∧ t.rd (FP_STAT_MOD_ABS n) = b2n y ∧
      (s.rd (FP_CTL_EN n) = 0 ∨ s.rd (FP_STAT_LINK n) = 0 → s.onlyRegs [FP_STAT n] t) ∧
      (s.rd (FP_CTL_EN n) = 1 → s.rd (FP_STAT_LINK n) = 1 → t.rd (FP_STAT_LINK n) = 0 ∧ t.rd (FP_STAT_AN_DONE n) = 0 ∧
        t.rd (FP_STAT_PTP_STATE n) ≠ ptpLocked ∧ down ∈ t.active ∧ t.rd GLOBAL_FAULT_LAST_CLASS = 1 ∧
        t.rd GLOBAL_FAULT_LAST_SOURCE = bField ∧ t.field = s.field ∧ frame t)) ∧
    (¬ late → exec (.portLinkTimeout port) s = .next s) ∧
    (late → Completes (.portLinkTimeout port) s (fun t => t.active = down :: s.active ∧
      t.rd GLOBAL_FAULT_LAST_CLASS = 1 ∧ t.rd GLOBAL_FAULT_LAST_SOURCE = bField ∧ t.field = s.field ∧ frame t))

/-- R284 to R286, R295, R305. A stopped port takes nothing; PAUSE frames, frames whose length, FCS or destination fail the MAC checks
and frames that find the queue full are counted and dropped; others are queued behind those before them, with their time of
arrival. At the head of the queue, Neighbor Discovery and MLD are answered, an echo request too unless 10 have been in the last
second, and a frame whose layers are not the port's is dropped and counted; a time transmitter answers a Delay_Req, either role
answers its peer, and a one-step Sync of the transmitter that a time receiver follows shows its offset, of which 8 in a row within
1 µs make lock.
Points in it that the spec leaves open are the model's choice: log entries 82, 97 and 99. -/
def Obligations.FieldFramesAreQueuedAndAnswered : Prop :=
  ∀ (s : State) (port : Fin 4) (bs : List Byte) (f : RxFrame) (q : List RxFrame) (corr : Int),
    let n := port.val
    let p := s.fport n
    let off : Prop := s.rd (FP_CTL_EN n) = 0 ∨ s.rd (FP_STAT_LINK n) = 0
    let g : RxFrame := ⟨bs.take (bs.length - 4), s.cal⟩
    let room := p.level + frameRoom g
    let passes : Prop := frameSound bs = true ∧ s.macAdmitted n (frameDest bs) = true
    let drops (c : Nat → Nat) (x : Nat → Fld) : Prop := Completes (.frameReceive port bs) s (fun t =>
      t.rd (x n) = counted s (x n) ∧ (t.fport n).queue = p.queue ∧ { s with field := t.field }.onlyRegs [c n] t)
    let others : List Instr := [.hello port, .report port, .neighborDiscovery port, .echoRequest port, .ptpMessage ⟨port, corr⟩]
    let sends (i : Instr) (u : State) : Prop := Completes i s (fun t => (t.fport n).queue = q ∧
      { s with field := t.field, outbox := u.outbox }.onlyRegs [FP_RXQ n] t)
    let mac := frameSource f.bytes
    let at_ := stampNs f.time
    let role := s.rd (FP_CTL_PTP_ROLE n)
    let peer := s.rd (FP_CTL_PTP_P2P n)
    (off → exec (.frameReceive port bs) s = .next s) ∧
    (¬ off →
      (isPause bs = true → drops FP_CNT_PAUSE FP_CNT_PAUSE_COUNT) ∧
      (isPause bs = false → ¬ passes → drops FP_CNT_BAD FP_CNT_BAD_COUNT) ∧
      (isPause bs = false → passes → 0x200000 < room → Completes (.frameReceive port bs) s (fun t =>
        t.rd (FP_CNT_QDROP_COUNT n) = counted s (FP_CNT_QDROP_COUNT n) ∧ (t.fport n).queue = p.queue ∧
        (p.qdrop = false → t.rd GLOBAL_FAULT_LAST_CLASS = 0 ∧ t.rd GLOBAL_FAULT_LAST_SOURCE = bField) ∧
        (p.qdrop = true → { s with field := t.field }.onlyRegs [FP_CNT_QDROP n] t))) ∧
      (isPause bs = false → passes → room ≤ 0x200000 → Completes (.frameReceive port bs) s (fun t =>
        t.field = { s.field with ports := s.field.ports.set n { p with queue := p.queue ++ [g] } } ∧
        t.rd (FP_CNT_RX_COUNT n) = counted s (FP_CNT_RX_COUNT n) ∧
        (n < s.field.ports.length → t.rd (FP_RXQ_LEVEL_KIB n) = (room + 1023) / 1024) ∧
        { s with field := t.field }.onlyRegs [FP_CNT_RX n, FP_RXQ n] t))) ∧
    (p.queue = [] → ∀ i ∈ others, exec i s = .next s) ∧
    (p.queue = [f] → s.carried n f.bytes = .other → ∀ i ∈ others, Completes i s (fun t =>
      (t.fport n).queue = [] ∧ t.rd (FP_CNT_OTHER_COUNT n) = counted s (FP_CNT_OTHER_COUNT n) ∧
      { s with field := t.field }.onlyRegs [FP_RXQ n, FP_CNT_OTHER n] t)) ∧
    (p.queue = f :: q →
      (∀ x, s.carried n f.bytes = .neighbor x → sends (.neighborDiscovery port) (s.neighborReply n mac x)) ∧
      (∀ x, s.carried n f.bytes = .mld x → sends (.neighborDiscovery port) (s.mldReply n x)) ∧
      (∀ x, s.carried n f.bytes = .echo x →
        ((p.echoes.filter (fun t => decide (s.now < t + cycPerS))).length < 10 →
          sends (.echoRequest port) (s.echoReply n mac x)) ∧
        (10 ≤ (p.echoes.filter (fun t => decide (s.now < t + cycPerS))).length → sends (.echoRequest port) s)) ∧
      (∀ m, s.carried n f.bytes = .ptp m →
        (s.ptpSound n m = false ∨ role = 0 ∨ role = 3 → sends (.ptpMessage ⟨port, corr⟩) s) ∧
        (s.ptpSound n m = true →
          (role = 1 ∨ role = 2 → pmType m = pmPeerReq → peer = 1 → sends (.ptpMessage ⟨port, corr⟩) (s.peerAnswer n at_ m)) ∧
          (role = 2 → pmType m = pmDelayReq → peer = 0 → sends (.ptpMessage ⟨port, corr⟩) (s.delayAnswer n at_ m)) ∧
          (role = 2 → pmType m = pmSync → sends (.ptpMessage ⟨port, corr⟩) s) ∧
          (role = 1 → pmType m = pmSync → p.ptp.parent ≠ some (pmSource m) → sends (.ptpMessage ⟨port, corr⟩) s) ∧
          (role = 1 → pmType m = pmSync → p.ptp.parent = some (pmSource m) → pmTwoStep m = false →
            let o := (at_ : Int) - stampOf m 34 - pmCorrection m - p.ptp.delay
            Completes (.ptpMessage ⟨port, corr⟩) s (fun t => (t.fport n).queue = q ∧
              t.reg (FP_PTP_OFS n) = BitVec.ofInt 32 (max (-(2 ^ 31)) (min o (2 ^ 31 - 1))) ∧
              (o.natAbs ≤ 1000 → 7 ≤ p.lockRun → t.rd (FP_STAT_PTP_STATE n) = ptpLocked) ∧
              (o.natAbs ≤ 1000 → p.lockRun < 7 → t.rd (FP_STAT_PTP_STATE n) = s.rd (FP_STAT_PTP_STATE n)) ∧
              (1000 < o.natAbs → t.rd (FP_STAT_PTP_STATE n) ≠ ptpLocked) ∧
              (s.ppsValid = true → t.cal = s.cal))))))

/-- R69, R287, R288, R295 to R297, R300, R303. An authentic HELLO to an entry records its counter, raises TX_CTR to the station's
floor, opens the session to WELCOMED and is answered by a WELCOME that carries the next counter, or that waits for the
reservation; a REPORT in a session takes the valid values and opens it, one outside a session closes it and is counted; a HELLO
from an unknown address enters a free slot of the waiting room, which empties once the station has not been seen for WR_AGE_M minutes.
Points in it that the spec leaves open are the model's choice: log entries 36 and 98. -/
def Obligations.TelegramsChangeTheirEntries : Prop :=
  ∀ (s : State) (port : Fin 4) (f : RxFrame) (q : List RxFrame) (pk : Packet) (g : Nat) (slot : Fin 256),
    let n := port.val
    let x := s.telegramOf pk.udpData
    let plain := x.plain.getD []
    let head : Prop := (s.fport n).queue = f :: q ∧ s.carried n f.bytes = .udp pk ∧ s.ownField = true ∧ s.saving = false
    let floor := ofBeBytes ((plain.drop 0x10).take 8)
    let ctr := max (s.gz g 0x28 8) floor + 1
    let mayGo : Prop := s.maySend = true ∧ s.rd (FP_CTL_EN n) = 1
    let entryOnly (t : State) : Prop := ∀ k, (k < gazAddr g ∨ gazAddr g + 256 ≤ k) →
      (k < linkAddr g ∨ linkAddr g + 8 ≤ k) → t.byte k = s.byte k
    let word (k w : Nat) : Nat := ofBeBytes ((plain.drop k).take w)
    let valid := word 0x28 4 % 256
    let st := s.gz g 0x22 1
    let k := slot.val
    let age := s.ld (wrAddr k + 0x28) 8 + s.rd FX_CFG_WR_AGE_M * minuteUnits
    (head → s.checkTelegram n pk = .known g → s.presence g ≠ prDisabled →
      (x.type = tgHello → Completes (.hello port) s (fun t => (t.fport n).queue = q ∧
        t.gz g 0x30 8 = x.ctr % 2 ^ 64 ∧ t.gz g 0x22 1 = seWelcomed ∧ entryOnly t ∧
        (mayGo → (∀ w ∈ s.field.waiting, w.addr ≠ x.addr) → ctr ≤ s.reservation → s.reservation < 2 ^ 64 →
          t.gz g 0x28 8 = ctr ∧ t.rd (FP_CNT_TX_COUNT n) = counted s (FP_CNT_TX_COUNT n) ∧
          ∃ bytes, t.outbox = .frame n bytes :: s.outbox) ∧
        (mayGo → (∃ w ∈ s.field.waiting, w.addr = x.addr) ∨ s.reservation < ctr →
          t.outbox = s.outbox ∧ t.field.waiting.length = s.field.waiting.length + 1) ∧
        (¬ mayGo → t.outbox = s.outbox))) ∧
      (x.type = tgReport → (st = seWelcomed ∨ st = seOpen) → Completes (.report port) s (fun t =>
        (t.fport n).queue = q ∧ t.gz g 0x30 8 = x.ctr % 2 ^ 64 ∧ t.gz g 0x22 1 = seOpen ∧ t.gz g 0x5C 1 = valid ∧
        t.gz g 0x9C 4 = word 0x2C 4 ∧ g ∈ t.field.reported ∧
        ∀ i : Fin 8, t.gz g (0x38 + 4 * i) 4 = if bitOf valid i then word (8 + 4 * i) 4 else s.gz g (0x38 + 4 * i) 4)) ∧
      (x.type = tgReport → st ≠ seWelcomed → st ≠ seOpen → Completes (.report port) s (fun t =>
        (t.fport n).queue = q ∧ t.gz g 0x30 8 = x.ctr % 2 ^ 64 ∧ t.gz g 0x22 1 = seClosed ∧ entryOnly t ∧
        t.rd (FP_CNT_NOSESS_COUNT n) = counted s (FP_CNT_NOSESS_COUNT n) ∧ t.field.reported = s.field.reported))) ∧
    (head → s.checkTelegram n pk = .unknown →
      (x.plain = none ∨ s.rootValid = false → Completes (.hello port) s (fun t => (t.fport n).queue = q ∧
        t.rd (FP_CNT_AUTH_COUNT n) = counted s (FP_CNT_AUTH_COUNT n) ∧
        { s with field := t.field }.onlyRegs [FP_RXQ n, FP_CNT_AUTH n] t)) ∧
      (x.plain.isSome = true → s.rootValid = true → (∀ j < 256, s.wrStation j ≠ x.addr) → s.wrStation k = 0 →
        (∀ j < k, s.wrStation j ≠ 0) → Completes (.hello port) s (fun t => (t.fport n).queue = q ∧
          t.wrStation k = x.addr % 2 ^ 64 ∧ t.ld (wrAddr k + 0x30) 8 = x.ctr % 2 ^ 64 ∧
          t.rd FX_WR_CNT_ENTERED = counted s FX_WR_CNT_ENTERED ∧
          ∀ a, a < wrAddr k ∨ wrAddr k + 64 ≤ a → t.byte a = s.byte a))) ∧
    (s.wrStation k = 0 ∨ s.time ≤ age → exec (.waitingRoomAgeExpiry slot) s = .next s) ∧
    (s.wrStation k ≠ 0 → age < s.time → Completes (.waitingRoomAgeExpiry slot) s (fun t =>
      (∀ a, t.byte a = if wrAddr k ≤ a ∧ a < wrAddr k + 64 then 0 else s.byte a) ∧
      { s with mem := t.mem, memBad := t.memBad }.onlyRegs [FX_STAT] t))

/-! Plant bus controllers (chapter 13). -/

/-- The state that the counters give a channel that takes part in its bus (R322). -/
def byErrors (t : State) (c : Nat) : Nat :=
  if 127 < t.rd (CB_STAT_TEC c) ∨ 127 < t.rd (CB_STAT_REC c) then cbPassive else cbActive

/-- R312, R314, R315, R320, R322, R324. EN starts a stopped channel whose bit timing is right, which integrates with its counters and
objects cleared, and is rejected with E_TIMING where it is not; EN 0 stops it; after integration it monitors or takes part as
its counters say; recovery from bus-off clears them; the close of a window and a sleep request end what has not won
arbitration; a sleeping channel wakes by what CB_CTL and CB_WAKE ask for, and integrates.
Points in it that the spec leaves open are the model's choice: log entries 21, 22 and 28. -/
def Obligations.BusChannelsStartSleepAndWake : Prop :=
  ∀ (s : State) (m : Fin 16) (channel : Fin 8) (past : Bool) (f : CanFrame),
    let c := channel.val
    let st := s.cbState c
    let ch := s.canCh c
    let ended (past : Bool) : List CanReq := if ch.onBus.isNone && past then ch.queue.drop 1 else ch.queue
    let going (past : Bool) : Option CanReq := if ch.onBus.isNone && past then ch.queue.head? else ch.onBus
    let open_ := past && !s.windowShort c
    let f1 : ActiveFault → Bool := fun x => !(x.source == bPlantBus && x.code == 0 && x.info == c)
    let results (past : Bool) (r : Nat) (t : State) : Prop := (t.canCh c).queue = [] ∧ (t.canCh c).onBus = going past ∧
      (∀ x ∈ ended past, t.rd (OBJ_STAT_RESULT c x.object) = r) ∧
      ∀ o, o ≠ CB_CTL c → o ≠ CB_STAT c → (∀ x ∈ ended past, o ≠ OBJ_STAT c x.object) → t.reg o = s.reg o
    let sleeps : Bool := s.rd (CB_CTL_SLEEP_REQ c) == 1 && ch.quiet
    let woken (t : State) : Prop := t.cbState c = cbIntegrating ∧ t.rd (CB_CTL_SLEEP_REQ c) = 0 ∧ t.rd (CB_STAT_WAKE c) = 1
    let wakes (i : Instr) : Prop := Completes i s (fun t => woken t ∧ t.bus = s.bus.set c { ch with woke := true } ∧
      { s with bus := t.bus }.onlyRegs [CB_CTL c, CB_STAT c] t)
    (st = cbStopped → exec (.channelEnable m channel false) s = .next s) ∧
    (st ≠ cbStopped → Completes (.channelEnable m channel false) s (fun t => t.cbState c = cbStopped ∧
      t.rd (CB_CTL_EN c) = 0 ∧
      { s with bus := s.bus.set c canChannel0, active := s.active.filter f1 }.onlyRegs [CB_CTL c, CB_STAT c] t)) ∧
    (s.rd (CB_CTL_EN c) = 1 → exec (.channelEnable m channel true) s = .next s) ∧
    (s.rd (CB_CTL_EN c) = 0 → s.cbTimingOk c = true → Completes (.channelEnable m channel true) s (fun t =>
      t.cbState c = cbIntegrating ∧ t.rd (CB_CTL_EN c) = 1 ∧ t.rd (CB_STAT_TEC c) = 0 ∧ t.rd (CB_STAT_REC c) = 0 ∧
      t.rd (CB_STAT_ALONE c) = 0 ∧ (∀ k < 256, t.reg (OBJ_STAT c k) = 0) ∧
      t = { s with
        regs := t.regs
        bus := s.bus.set c canChannel0
        busAges := s.busAges.filter (fun a => a.channel != c) } ∧
      ∀ o, o ≠ CB_CTL c → o ≠ CB_STAT c → (∀ k < 256, o ≠ OBJ_STAT c k) → t.reg o = s.reg o)) ∧
    (s.rd (CB_CTL_EN c) = 0 → s.cbTimingOk c = false →
      Completes (.channelEnable m channel true) s (s.rejects m (CB_CTL c) E_TIMING true)) ∧
    (st ≠ cbIntegrating → exec (.integrationComplete channel) s = .next s) ∧
    (st = cbIntegrating → s.cbMonitors c = true → Completes (.integrationComplete channel) s (fun t =>
      t.cbState c = (if s.rd (CB_CTL_SLEEP_REQ c) = 1 ∧ ch.onBus = none then cbAsleep else cbMonitoring) ∧
      t.rd (CB_STAT_TEC c) = 0 ∧ t.rd (CB_STAT_REC c) = 0 ∧ results false txMonitor t ∧ t.reg (CB_CTL c) = s.reg (CB_CTL c) ∧
      t = { s with regs := t.regs, bus := t.bus, active := s.active.filter f1 })) ∧
    (st = cbIntegrating → s.cbMonitors c = false → Completes (.integrationComplete channel) s (fun t =>
      t.cbState c = (if sleeps then cbAsleep else byErrors s c) ∧ t.rd (CB_STAT_TEC c) = s.rd (CB_STAT_TEC c) ∧
      t.rd (CB_STAT_REC c) = s.rd (CB_STAT_REC c) ∧ s.onlyRegs [CB_STAT c] t)) ∧
    (st ≠ cbBusOff → exec (.busoffRecovery channel) s = .next s) ∧
    (st = cbBusOff → Completes (.busoffRecovery channel) s (fun t =>
      t.cbState c = (if sleeps then cbAsleep else cbActive) ∧ t.rd (CB_STAT_TEC c) = 0 ∧
      t.rd (CB_STAT_REC c) = 0 ∧ { s with active := s.active.filter f1 }.onlyRegs [CB_STAT c] t)) ∧
    (s.now < s.windowEnd c → exec (.transmitWindowClose channel past) s = .next s) ∧
    (s.windowEnd c ≤ s.now → Completes (.transmitWindowClose channel past) s (fun t => results open_ txNotSent t ∧
      t.cbState c = st ∧ t.reg (CB_CTL c) = s.reg (CB_CTL c) ∧ t = { s with regs := t.regs, bus := t.bus })) ∧
    Completes (.channelSleepRequest channel past) s (fun t => results past txAsleep t ∧ t.rd (CB_CTL_SLEEP_REQ c) = 1 ∧
      t.cbState c = (if going past = none ∧ (st = cbActive ∨ st = cbPassive ∨ st = cbMonitoring) then cbAsleep else st) ∧
      t = { s with regs := t.regs, bus := t.bus }) ∧
    (st ≠ cbAsleep → exec (.channelWake channel .dominant) s = .next s ∧ exec (.channelWake channel (.frame f)) s = .next s) ∧
    (st = cbAsleep →
      (s.rd (CB_CTL_WAKE_MODE c) = 0 → wakes (.channelWake channel .dominant) ∧
        exec (.channelWake channel (.frame f)) s = .next s) ∧
      (s.rd (CB_CTL_WAKE_MODE c) = 1 → exec (.channelWake channel .dominant) s = .next s ∧
        (s.wakeMatch c f = false ∨ (f.fdf = true ∧ s.rd (CB_CTL_FD_EN c) = 0) →
          exec (.channelWake channel (.frame f)) s = .next s) ∧
        (s.wakeMatch c f = true → f.fdf = false ∨ s.rd (CB_CTL_FD_EN c) = 1 →
          s.busCopied = true ∨ s.rxObject c f.ide f.id = none → wakes (.channelWake channel (.frame f))) ∧
        (∀ o, s.wakeMatch c f = true → f.fdf = false ∨ s.rd (CB_CTL_FD_EN c) = 1 → s.busCopied = false →
          s.rxObject c f.ide f.id = some o →
          Completes (.channelWake channel (.frame f)) s (fun t => woken t ∧ t.rd (OBJ_STAT_UNREAD c o) = 1 ∧
            t.rd (OBJ_RXCNT_COUNT c o) = (s.rd (OBJ_RXCNT_COUNT c o) + 1) % 2 ^ 32 ∧ t.rd (CB_STAT_ALONE c) = 0))))

/-- R311, R317, R321 to R323. A frame received without error goes to the RX object of its identifier, which counts it and shows that
an unread one was lost, or is counted as unmatched; REC falls by 1, or to 119 to 127 from above 127. A frame sent lowers TEC by
1 and shows its data; one without acknowledgement is counted and raises TEC by 8 unless the channel is error passive, and the
16th in a row sets ALONE; a bus error raises it by 8, and above 255 the channel is bus-off with its queue ended.
Points in it that the spec leaves open are the model's choice: log entries 21 and 22. -/
def Obligations.CanFramesAreReceivedAndSent : Prop :=
  ∀ (s : State) (channel : Fin 8) (f : CanFrame) (r : CanReq) (q : List CanReq) (loop : Option Nat) (e : CanErr)
      (step : CanStep),
    let c := channel.val
    let st := s.cbState c
    let tec := s.rd (CB_STAT_TEC c)
    let rec_ := s.rd (CB_STAT_REC c)
    let hears : Prop := st = cbActive ∨ st = cbPassive ∨ st = cbMonitoring
    let recHeard (t : State) : Prop :=
      (st = cbMonitoring → t.rd (CB_STAT_REC c) = rec_ ∧ t.cbState c = st) ∧
      (st ≠ cbMonitoring → t.cbState c = byErrors t c ∧ (rec_ ≤ 127 → t.rd (CB_STAT_REC c) = rec_ - 1) ∧
        (127 < rec_ → 119 ≤ t.rd (CB_STAT_REC c) ∧ t.rd (CB_STAT_REC c) ≤ 127))
    let frame (t : State) : Prop := t = { s with regs := t.regs, bus := t.bus, busAges := t.busAges, free := t.free }
    let errFld : Fld := match e with
      | .bit => CB_ERR_BIT c
      | .stuff => CB_ERR_STUFF c
      | .ack => CB_ERR_ACK c
      | _ => CB_ERR_CRC_FORM c
    let object := r.object
    let wins : Prop := s.ending c = some (r, q) ∧ (st = cbActive ∨ st = cbPassive) ∧ s.rd (CB_CTL_SLEEP_REQ c) = 0 ∧
      ∀ x ∈ r :: q, x.object < 256
    let sends : Prop := wins ∧ s.cbMonitors c = false
    let offBus (t : State) : Prop := t.cbState c = cbBusOff ∧ t.rd (CB_STAT_TEC c) = 255 ∧ t.rd (CB_STAT_BUSOFF_SEEN c) = 1 ∧
      (t.canCh c).queue = [] ∧ t.rd GLOBAL_FAULT_LAST_CLASS = 1 ∧ t.rd GLOBAL_FAULT_LAST_SOURCE = bPlantBus ∧
      ⟨1, bPlantBus, 0, c⟩ ∈ t.active
    (¬ hears ∨ (f.fdf = true ∧ s.rd (CB_CTL_FD_EN c) = 0) → exec (.canFrameReceived channel f) s = .next s) ∧
    (hears → (f.fdf = false ∨ s.rd (CB_CTL_FD_EN c) = 1) → s.busCopied = true → Completes (.canFrameReceived channel f) s (fun t =>
      t.rd (CB_STAT_ALONE c) = 0 ∧ recHeard t ∧ { s with bus := t.bus, free := t.free }.onlyRegs [CB_STAT c] t)) ∧
    (hears → (f.fdf = false ∨ s.rd (CB_CTL_FD_EN c) = 1) → s.busCopied = false →
      (∀ o, f.remote = false → s.rxObject c f.ide f.id = some o → Completes (.canFrameReceived channel f) s (fun t =>
        t.rd (OBJ_STAT_UNREAD c o) = 1 ∧ t.rd (OBJ_STAT_DLC c o) = f.dlc % 16 ∧ t.rd (OBJ_STAT_FDF c o) = b2n f.fdf ∧
        t.rd (OBJ_STAT_BRS c o) = b2n f.brs ∧ t.rd (OBJ_STAT_ESI c o) = b2n f.esi ∧
        (∀ k : Fin 16, (t.reg (OBJ_DATA c o k)).toNat =
          ofLeBytes (((f.data.take (dlcBytes f.dlc) ++ List.replicate 64 0).drop (4 * k)).take 4)) ∧
        t.rd (OBJ_RXCNT_COUNT c o) = (s.rd (OBJ_RXCNT_COUNT c o) + 1) % 2 ^ 32 ∧
        (s.rd (OBJ_STAT_UNREAD c o) = 1 → t.rd (OBJ_STAT_LOST c o) = 1 ∧
          t.rd (CB_CNT_LOST_COUNT c) = counted s (CB_CNT_LOST_COUNT c)) ∧
        (s.rd (OBJ_STAT_UNREAD c o) = 0 → t.rd (OBJ_STAT_LOST c o) = s.rd (OBJ_STAT_LOST c o)) ∧
        t.ageOf c o = 0 ∧ t.rd (CB_STAT_ALONE c) = 0 ∧ recHeard t ∧ frame t)) ∧
      (f.remote = true ∨ s.rxObject c f.ide f.id = none → Completes (.canFrameReceived channel f) s (fun t =>
        t.rd (CB_CNT_UNMATCHED_COUNT c) = counted s (CB_CNT_UNMATCHED_COUNT c) ∧ t.rd (CB_STAT_ALONE c) = 0 ∧ recHeard t ∧
        { s with bus := t.bus, free := t.free }.onlyRegs [CB_CNT_UNMATCHED c, CB_STAT c] t))) ∧
    (¬ hears → exec (.canProtocolError channel e step) s = .next s) ∧
    (hears → e = .exception → s.rd (CB_CTL_PEX_EN c) = 1 → Completes (.canProtocolError channel e step) s (fun t =>
      t.rd (CB_STAT_PEX_SEEN c) = 1 ∧ t.rd (CB_STAT_REC c) = rec_ ∧ s.onlyRegs [CB_STAT c] t)) ∧
    (hears → e ≠ .exception ∨ s.rd (CB_CTL_PEX_EN c) = 0 →
      let raises (by_ : Nat) (t : State) : Prop := t.rd errFld = counted s errFld ∧ s.onlyRegs [CB_STAT c, CB_ERR c] t ∧
        t.rd (CB_STAT_TEC c) = tec ∧
        (st = cbMonitoring → t.rd (CB_STAT_REC c) = rec_ ∧ t.cbState c = st) ∧
        (st ≠ cbMonitoring → t.rd (CB_STAT_REC c) = min 255 (rec_ + by_) ∧ t.cbState c = byErrors t c)
      Completes (.canProtocolError channel e .same) s (fun t => t.rd errFld = counted s errFld ∧ s.onlyRegs [CB_ERR c] t) ∧
      Completes (.canProtocolError channel e .rec1) s (raises 1) ∧ Completes (.canProtocolError channel e .rec8) s (raises 8) ∧
      (st = cbMonitoring → Completes (.canProtocolError channel e .tec8) s (fun t =>
        t.rd errFld = counted s errFld ∧ s.onlyRegs [CB_ERR c] t)) ∧
      (st ≠ cbMonitoring → tec < 248 → Completes (.canProtocolError channel e .tec8) s (fun t =>
        t.rd errFld = counted s errFld ∧ t.rd (CB_STAT_TEC c) = tec + 8 ∧ t.rd (CB_STAT_REC c) = rec_ ∧
        t.cbState c = byErrors t c ∧ s.onlyRegs [CB_STAT c, CB_ERR c] t)) ∧
      (st ≠ cbMonitoring → 248 ≤ tec → Completes (.canProtocolError channel e .tec8) s (fun t =>
        t.rd errFld = counted s errFld ∧ offBus t))) ∧
    (s.ending c = none ∨ (st ≠ cbActive ∧ st ≠ cbPassive) → ∀ how, exec (.canTransmitEnd channel how loop) s = .next s) ∧
    (sends →
      Completes (.canTransmitEnd channel .sent loop) s (fun t => (t.canCh c).queue = q ∧ (t.canCh c).onBus = none ∧
        (t.canCh c).noAcks = 0 ∧
        (∀ d, loop = some d → s.rd (OBJ_FMT_BRS c object) = 1 → s.rd (CB_CTL_TDC_EN c) = 1 →
          t.rd (CB_TDCV_TDCV c) = min d 127) ∧
        t.rd (OBJ_STAT_RESULT c object) = txSent ∧ t.rd (CB_STAT_TEC c) = tec - 1 ∧ t.cbState c = byErrors t c ∧
        t.outbox = .canFrame c object r.data :: s.outbox ∧ t.rd (CB_STAT_ALONE c) = 0 ∧ t.ageOf c object = 0 ∧
        t.mem = s.mem ∧ t.active = s.active) ∧
      Completes (.canTransmitEnd channel .noAck loop) s (fun t =>
        t.rd (CB_ERR_ACK c) = counted s (CB_ERR_ACK c) ∧
        (st = cbPassive → t.rd (CB_STAT_TEC c) = tec ∧ t.cbState c = st ∧ t.rd (OBJ_STAT_RESULT c object) = txNoAck) ∧
        (st = cbActive → tec < 248 → t.rd (CB_STAT_TEC c) = tec + 8 ∧ t.cbState c = byErrors t c ∧ (t.canCh c).queue = q ∧
          t.rd (OBJ_STAT_RESULT c object) = txNoAck) ∧
        ((s.canCh c).noAcks = 15 → (st = cbPassive ∨ tec < 248) → t.rd (CB_STAT_ALONE c) = 1 ∧
          t.rd GLOBAL_FAULT_LAST_CLASS = 0 ∧ t.rd GLOBAL_FAULT_LAST_SOURCE = bPlantBus)) ∧
      (e ≠ .exception → Completes (.canTransmitEnd channel (.busError e) loop) s (fun t =>
        t.rd errFld = counted s errFld ∧ (t.canCh c).noAcks = 0 ∧
        (tec < 248 → t.rd (CB_STAT_TEC c) = tec + 8 ∧ t.cbState c = byErrors t c ∧ (t.canCh c).queue = q ∧
          t.rd (OBJ_STAT_RESULT c object) = txBusError ∧ t.outbox = s.outbox ∧ t.mem = s.mem) ∧
        (248 ≤ tec → offBus t ∧ t.rd (OBJ_STAT_RESULT c object) = txBusOff ∧
          ∀ x ∈ q, t.rd (OBJ_STAT_RESULT c x.object) = txBusOff)))) ∧
    (wins → s.cbMonitors c = true → Completes (.canTransmitEnd channel .sent loop) s (fun t =>
      t.cbState c = cbMonitoring ∧ t.rd (CB_STAT_TEC c) = 0 ∧ t.rd (CB_STAT_REC c) = 0 ∧ (t.canCh c).queue = [] ∧
      (∀ x ∈ q, t.rd (OBJ_STAT_RESULT c x.object) = txMonitor) ∧ t.outbox = .canFrame c object r.data :: s.outbox))

/-! Energy and quantity metering (chapter 14). -/

/-- R327, R329 to R333, R340, R346. A sample of an enabled channel scales the voltage of the modulator in use, which is the
high-gain one within its limits; an overload sets FAULT, which lasts for three samples after it, and is counted; metering that
does not run or is frozen takes nothing, and the sample that completes after a confirmed PWR_WARN is the last. A conversion shows an
open or short sensor and keeps its temperature, or takes it from the resistance ratio, and a meter of such a sensor is at fault. A
level of a pulse input counts once it has been stable, and an edge of the counted sense is counted and stamped. Calibration visits
the enabled channels one after another: a step measures the spare chain, compares, measures the channel's own chain, compares again
and takes the new coefficients, or fails with an F1 and E_CAL and keeps the old ones.
Points in it that the spec leaves open are the model's choice: log entries 14, 23, 24, 102 and 103. -/
def Obligations.MeteringSamplesCountsAndCalibrates : Prop :=
  ∀ (s : State) (adc : List AdcSample) (ohms : List (BitVec 64)) (input ch : Fin 32) (rtd n : Fin 16) (level : Bool)
      (x : AdcSample) (low high : CalReading) (dif : BitVec 64),
    let c := input.val
    let p := s.pulseIn c
    let a := s.adcCh ch
    let m := s.meter
    let o := ((ohms[rtd.val]?).getD 0).toNat
    let ratio := r64 o / rtdR0 (s.rd (MT_RTD_CFG_TYPE rtd))
    let isOpen : Prop := fpDecode fmt64 o = .inf false ∨ 4 < ratio
    let broken (t : State) (r : Nat) : Bool := t.rd (MT_RTD_STAT_OPEN r) == 1 || t.rd (MT_RTD_STAT_SHORT r) == 1
    let faulty (t : State) : Bool := broken t (s.rd (MT_HM_SRC_SUP_RTD n)) || broken t (s.rd (MT_HM_SRC_RET_RTD n))
    let begins : Prop := s.rd MT_CTL_CAL_EN = 1 ∧ s.rd MT_STAT_CAL_BUSY = 0 ∧ m.running = true ∧ s.rd MT_STAT_FROZEN = 0 ∧
      m.calAt + s.rd MT_CTL_CAL_S * cycPerS ≤ s.now
    let frame (t : State) : Prop := t = { s with
      regs := t.regs, mem := t.mem, gleaner := t.gleaner, outbox := t.outbox, host := t.host, meter := t.meter,
      fabric := t.fabric, free := t.free }
    let volts := fun g : Rat => f64 (g * r32 (s.reg (MT_ADC_SCALE ch)).toNat + r32 (s.reg (MT_ADC_OFS ch)).toNat)
    let k := s.adcCal ch
    let vLow := r64 x.low.toNat * k.lowGain + k.lowOfs
    let vHigh := r64 x.high.toNat * k.highGain + k.highOfs
    let useHigh : Prop := ch.val < 16 ∧ s.rd (MT_ADC_CFG_HG_EN ch) = 1 ∧ x.highOver = false ∧ 3 ≤ a.sinceHigh ∧
      rabs vHigh ≤ mkRat (s.rd (MT_ADC_CFG_HG_LIMIT ch)) 256 * highScale
    let settles : Prop := p.raw ≠ p.level ∧ p.since + s.stableCycles c ≤ s.now
    let counts : Prop := settles ∧ s.rd MT_STAT_FROZEN = 0 ∧ s.rd (MT_PLS_CFG_EN c) = 1 ∧ p.raw = (s.rd (MT_PLS_CFG_EDGE c) == 0)
    let kept (q : PulseIn) : List PulseIn :=
      m.pulse.set c (if p.raw = level then q else { q with raw := level, since := s.now })
    let cal := s.rd MT_STAT_CAL_CH
    let ended : Metering := { m with calPhase := 0 }
    let fails (how : CalStep) : Prop := Completes (.calibrationStep how) s (fun t => t.rd MT_STAT_CAL_BUSY = 0 ∧
      t.rd MT_STAT_CAL_CH = 0x3F ∧ t.rd (MT_ADC_STAT_CAL_FAIL cal) = 1 ∧
      t.rd MT_CNT_CALFAIL_COUNT = counted s MT_CNT_CALFAIL_COUNT ∧ t.rd GLOBAL_FAULT_LAST_CLASS = 1 ∧
      t.rd GLOBAL_FAULT_LAST_CODE = E_CAL ∧ t.rd GLOBAL_FAULT_LAST_SOURCE = bMeter ∧ t.meter = ended ∧ frame t)
    let waits (how : CalStep) (w : Metering) : Prop :=
      exec (.calibrationStep how) s = .next { s with meter := { w with calFrom := s.now } }
    (m.running = false ∨ s.rd MT_STAT_FROZEN = 1 → exec (.meterSample adc) s = .next s) ∧
    (m.running = true → s.rd MT_STAT_FROZEN = 0 → m.closing = true → Completes (.meterSample adc) s (fun t =>
      t.rd MT_STAT_FROZEN = 1 ∧ t.meter.closing = false ∧ t.meter.samples = m.samples + 1 ∧ t.now = s.now)) ∧
    (m.running = true → s.rd MT_STAT_FROZEN = 0 → m.closing = false → s.fabric.armed = [] → m.outageFrom = none →
      m.adc.length = 32 → adc[ch.val]? = some x → Completes (.meterSample adc) s (fun t =>
        t.meter.samples = m.samples + 1 ∧ t.meter.lastAt = s.cal ∧ frame t ∧
        (s.rd (MT_ADC_CFG_EN ch) = 0 → t.adcCh ch = a ∧ t.reg (MT_ADC_STAT ch) = s.reg (MT_ADC_STAT ch)) ∧
        (s.rd (MT_ADC_CFG_EN ch) = 1 →
          (useHigh → t.rd (MT_ADC_STAT_HG_IN_USE ch) = 1) ∧ (¬ useHigh → t.rd (MT_ADC_STAT_HG_IN_USE ch) = 0) ∧
          (x.lowOver = true → t.rd (MT_ADC_STAT_FAULT ch) = 1 ∧
            t.rd (MT_ADC_STAT_OVERLOADS ch) = counted s (MT_ADC_STAT_OVERLOADS ch) ∧
            (t.adcCh ch).hist.head? = some (volts (if r64 x.low.toNat < 0 then -fullScale else fullScale))) ∧
          (x.lowOver = false → t.rd (MT_ADC_STAT_OVERLOADS ch) = s.rd (MT_ADC_STAT_OVERLOADS ch) ∧
            (a.sinceLow < 3 → t.rd (MT_ADC_STAT_FAULT ch) = 1 ∧
              (t.adcCh ch).hist.head? = some (volts (if a.lowNeg then -fullScale else fullScale))) ∧
            (3 ≤ a.sinceLow → t.rd (MT_ADC_STAT_FAULT ch) = 0 ∧
              (useHigh → (t.adcCh ch).hist = (volts vHigh :: a.hist).take 255) ∧
              (¬ useHigh → (t.adcCh ch).hist = (volts vLow :: a.hist).take 255)))) ∧
        (s.rd (MT_HM_SRC_EN n) = 1 → t.rd (MT_HM_STAT_T_FAULT n) = b2n (faulty s) ∧
          (s.rd (MT_HM_SRC_FLOW_KIND n) = 0 →
            t.rd (MT_HM_STAT_FLOW_FAULT n) = t.rd (MT_ADC_STAT_FAULT (s.rd (MT_HM_SRC_FLOW_CH n))))))) ∧
    (s.rd MT_STAT_FROZEN = 1 → exec (.rtdConversion ohms) s = .next s) ∧
    (s.rd MT_STAT_FROZEN = 0 → s.fabric.armed = [] → m.rtd.length = 16 → Completes (.rtdConversion ohms) s (fun t =>
      frame t ∧ t.meter.adc = m.adc ∧ t.meter.pulse = m.pulse ∧
      (s.rd (MT_HM_SRC_EN n) = 1 → t.rd (MT_HM_STAT_T_FAULT n) = b2n (faulty t)) ∧
      (s.rd (MT_RTD_CFG_TYPE rtd) = 0 → t.rd (MT_RTD_STAT_OPEN rtd) = 0 ∧ t.rd (MT_RTD_STAT_SHORT rtd) = 0 ∧
        t.rtdCh rtd = s.rtdCh rtd) ∧
      (s.rd (MT_RTD_CFG_TYPE rtd) ≠ 0 → (t.rtdCh rtd).ohms = o ∧ (t.rtdCh rtd).at_ = s.now ∧
        (isOpen → t.rd (MT_RTD_STAT_OPEN rtd) = 1 ∧ t.rd (MT_RTD_STAT_SHORT rtd) = 0 ∧
          (t.rtdCh rtd).temp = (s.rtdCh rtd).temp) ∧
        (¬ isOpen → ratio < mkRat 4 10 → t.rd (MT_RTD_STAT_OPEN rtd) = 0 ∧ t.rd (MT_RTD_STAT_SHORT rtd) = 1 ∧
          (t.rtdCh rtd).temp = (s.rtdCh rtd).temp) ∧
        (¬ isOpen → mkRat 4 10 ≤ ratio → t.rd (MT_RTD_STAT_OPEN rtd) = 0 ∧ t.rd (MT_RTD_STAT_SHORT rtd) = 0 ∧
          (t.rtdCh rtd).temp = f64 (ptInverse ratio))))) ∧
    (¬ settles → exec (.pulseEdge input level) s = .next { s with meter := { m with pulse := kept p } }) ∧
    (settles → ¬ counts →
      exec (.pulseEdge input level) s = .next { s with meter := { m with pulse := kept { p with level := p.raw } } }) ∧
    (counts → Completes (.pulseEdge input level) s (fun t =>
      t.rd (MT_PLS_CNT_COUNT c) = (s.rd (MT_PLS_CNT_COUNT c) + 1) % 2 ^ 32 ∧
      t.meter.pulse = kept { p with
        level := p.raw, edges := p.edges + 1, lastEdge := s.metNow, started := min 2 (p.started + 1) } ∧
      t = { s with regs := t.regs, meter := t.meter, gleaner := t.gleaner } ∧
      ((∀ j < 16, s.rd (MT_HM_SRC_EN j) = 0 ∨ s.rd (MT_HM_SRC_FLOW_KIND j) = 0 ∨ s.rd (MT_HM_SRC_FLOW_CH j) ≠ c) →
        { s with meter := t.meter }.onlyRegs [MT_PLS_CNT c] t))) ∧
    (¬ begins → exec (.calibrationStep .begins) s = .next s) ∧
    (∀ j, begins → s.calNext m.calLast = some j → Completes (.calibrationStep .begins) s (fun t =>
      t.rd MT_STAT_CAL_BUSY = 1 ∧ t.rd MT_STAT_CAL_CH = j ∧
      { s with meter := { m with calLast := j, calAt := s.now, calPhase := 1, calFrom := s.now } }.onlyRegs [MT_STAT] t)) ∧
    (s.now < m.calFrom + 2 * cycPerS ∨ m.calPhase ≠ 1 ∧ m.calPhase ≠ 4 → exec (.calibrationStep (.measured low high)) s = .next s) ∧
    (m.calFrom + 2 * cycPerS ≤ s.now →
      (m.calPhase = 1 → waits (.measured low high) { m with spare := calOf low high, calPhase := 2 }) ∧
      (m.calPhase = 4 → calBad cal (s.adcCh cal).cal (calOf low high) = false →
        waits (.measured low high) { m with calNew := calOf low high, calPhase := 5 }) ∧
      (m.calPhase = 4 → cal < 32 → calBad cal (s.adcCh cal).cal (calOf low high) = true → fails (.measured low high))) ∧
    (s.now < m.calFrom + cycPerS ∨ m.calPhase ≠ 2 ∧ m.calPhase ≠ 5 → exec (.calibrationStep (.compared dif)) s = .next s) ∧
    (m.calFrom + cycPerS ≤ s.now →
      (m.calPhase = 2 ∨ m.calPhase = 5 → cal < 32 → mkRat 5 100000 < rabs (r64 dif.toNat) → fails (.compared dif)) ∧
      (rabs (r64 dif.toNat) ≤ mkRat 5 100000 →
        (m.calPhase = 2 → waits (.compared dif) { m with calPhase := 4 }) ∧
        (m.calPhase = 5 → Completes (.calibrationStep (.compared dif)) s (fun t => t.rd MT_STAT_CAL_BUSY = 0 ∧
          t.rd MT_STAT_CAL_CH = 0x3F ∧
          { s with meter := { ended with adc := m.adc.set cal { s.adcCh cal with cal := m.calNew } } }.onlyRegs [MT_STAT] t))))

/-! The redundant pair (chapter 15). -/

/-- The pair's hidden state has changed, and nothing else but the registers named. -/
def pairOnly (s : State) (p : Pair) (rs : List Nat) (t : State) : Prop := { s with pair := p }.onlyRegs rs t

/-- R355, R360 to R363, R365, R371 to R373. ALIVE keeps the link; lanes without lock, or 100 µs of silence, end it with an F1 that
persists until it is up again; a HELLO shows the partner, is answered if it is the link's first, and one of the unit's own role
is an F2 with E_ROLE; the frames of a set are gathered, a set with every frame is acknowledged and staged by a standby, and one
that is broken, or has not ended by the next ALIGN, is refused and counted; a shadow pass starts at ALIGN on the image of the set
after the committed one, and a set that does not follow it is committed without one; a digest that differs, of the outputs or of a
campaign, is a mismatch.
Points in it that the spec leaves open are the model's choice: log entries 40, 41, 42 and 100. -/
def Obligations.PairLinkFramesAndSets : Prop :=
  ∀ (s : State) (auth crcOk : Bool) (pass seq frames epoch mode digest d e e' k : Nat) (lock : BitVec 2) (h : PairHello)
      (bs : List PairBlock) (ws : List PairWrite) (view : List Host.Cell) (r : PairSet) (f : PairJoin),
    let p := s.pair
    let st := s.prState
    let gone : ActiveFault := ⟨1, bPair, 0, 0⟩
    let silent : Prop := p.aliveAt + 100 * cycPerUs ≤ s.now
    let x := s.recvOf pass
    let crc (i : Instr) : Prop := Completes i s (fun t => t.rd PAIR_LINK_CRC_ERR = min (s.rd PAIR_LINK_CRC_ERR + 1) 255 ∧
      s.onlyRegs [PAIR_LINK] t)
    let gathers (i : Bool → Instr) (g : PairSet → PairSet) : Prop :=
      (s.receives = false → exec (i crcOk) s = .next s) ∧
      (s.receives = true →
        Completes (i true) s (fun t => t = { s with pair := { p with recv := some { g x with
          frames := x.frames + 1, broken := x.broken || seq != x.frames } } }) ∧
        Completes (i false) s (fun t => t.rd PAIR_LINK_CRC_ERR = min (s.rd PAIR_LINK_CRC_ERR + 1) 255 ∧
          pairOnly s { p with recv := some { x with broken := true } } [PAIR_LINK] t))
    (s.onLink = false → exec (.alive auth pass) s = .next s ∧ exec (.linkFailure lock) s = .next s ∧ exec .align s = .next s ∧
      exec (.pairAck pass auth crcOk) s = .next s ∧ exec (.pairJoinFrame f crcOk) s = .next s ∧
      exec (.pairDigest pass seq digest none crcOk) s = .next s) ∧
    (s.onLink = true →
      Completes (.alive auth pass) s (fun t => t.rd PAIR_LINK_ALIVE = 1 ∧
        pairOnly s { p with aliveAt := s.now, alive := some (auth, pass) } [PAIR_LINK] t) ∧
      (lock = 3 → ¬ silent → exec (.linkFailure lock) s = .next s) ∧
      (lock ≠ 3 ∨ silent → Completes (.linkFailure lock) s (fun t => t.linkUp = false ∧ t.rd PAIR_STAT_PARTNER = 0 ∧
        t.rd PAIR_STAT_READY = 0 ∧ t.rd PAIR_LINK_LOCK = lock.toNat ∧
        t.rd PAIR_LINK_DOWN_CNT = counted s PAIR_LINK_DOWN_CNT ∧ bitOf (t.rd CP_CLK_STAT_STOPPED) 6 = true ∧
        gone ∈ t.active ∧ t.rd GLOBAL_FAULT_LAST_CLASS = 1 ∧ t.rd GLOBAL_FAULT_LAST_SOURCE = bPair ∧
        t.pair.hello = none ∧ t.pair.told = none ∧ t.pair.recv = none ∧ t.pair.handover = false ∧
        t.prState = if st = prJoining then prWaiting else st)) ∧
      (st = prActive →
        (crcOk = false → crc (.pairAck pass auth crcOk) ∧ crc (.pairDigest pass seq digest none crcOk)) ∧
        Completes (.pairAck pass true true) s (fun t => t.rd PAIR_CNT_COPY_COUNT = counted s PAIR_CNT_COPY_COUNT ∧
          t.pair = { p with sent := none, failedRun := p.failedRun + 1 } ∧
          (p.failedRun = 2 → t.rd GLOBAL_FAULT_LAST_CLASS = 1 ∧ t.rd GLOBAL_FAULT_LAST_SOURCE = bPair) ∧
          (p.failedRun ≠ 2 → pairOnly s t.pair [PAIR_CNT_COPY] t)) ∧
        (p.sent.map (fun x => x.1) ≠ some pass → exec (.pairAck pass false true) s = .next s) ∧
        (p.sent = some (pass, view, k) →
          let ended : State := { s with pair := { p with
            acked := view, sent := none, forward := p.forward.drop k, failedRun := 0, joining := false } }
          (p.joining = false → exec (.pairAck pass false true) s = .next ended) ∧
          (p.joining = true →
            exec (.pairAck pass false true) s = .next { ended with outbox := .pairFrame (.join .complete) :: s.outbox })) ∧
        (p.own.lookup pass = none → exec (.pairDigest pass seq digest none true) s = .next s) ∧
        (p.own.lookup pass = some d → p.ownCamp = none →
          (digest = d → Completes (.pairDigest pass seq digest none true) s (fun t => t.rd PAIR_STAT_CONSEC = 0 ∧
            pairOnly s { p with matched := true } [PAIR_STAT] t)) ∧
          (digest ≠ d → Completes (.pairDigest pass seq digest none true) s (fun t =>
            t.rd PAIR_CNT_MISMATCH_MISMATCH = counted s PAIR_CNT_MISMATCH_MISMATCH ∧
            t.rd PAIR_STAT_TRI_BUSY = (if s.rd PAIR_CFG_COMPARE_EN = 1 then 1 else s.rd PAIR_STAT_TRI_BUSY) ∧
            pairOnly s { p with matched := false } [PAIR_STAT, PAIR_CNT_MISMATCH] t))) ∧
        (p.own.lookup pass = some digest → p.ownCamp = some (pass, e, false) → e ≠ e' →
          Completes (.pairDigest pass seq digest (some (e', false)) true) s (fun t =>
            t.rd PAIR_CNT_MISMATCH_MISMATCH = counted s PAIR_CNT_MISMATCH_MISMATCH ∧
            pairOnly s { p with matched := false, campDue := true, ownCamp := none } [PAIR_STAT, PAIR_CNT_MISMATCH] t))) ∧
      (st ≠ prActive → gathers (fun c => .pairDigest pass seq digest none c)
        (fun q => { q with digest := some digest, campaign := none })) ∧
      (st = prActive → s.journalFull = false → Completes (.pairJoinFrame .request true) s (fun t =>
        t.outbox = .pairFrame (.join (.journal p.journal)) :: s.outbox ∧ t.pair.serving = true ∧ t.pair.joining = true ∧
        t.pair.acked = [] ∧ t.pair.journal = p.journal ∧ t.regs = s.regs ∧ t.mem = s.mem)) ∧
      (st = prActive → s.journalFull = true → Completes (.pairJoinFrame .request true) s (fun t =>
        .pairFrame (.join .refused) ∈ t.outbox ∧ t.rd GLOBAL_FAULT_LAST_CLASS = 1 ∧
        t.rd GLOBAL_FAULT_LAST_CODE = E_CAPACITY ∧ t.pair = p)) ∧
      (st = prJoining →
        Completes (.pairJoinFrame (.blocks bs) true) s (fun t => t = { s with pair := { p with acked := applyBlocks p.acked bs } }) ∧
        Completes (.pairJoinFrame .refused true) s (fun t => t.prState = prFallow ∧ t.pair.acked = [])) ∧
      crc (.pairJoinFrame f false) ∧
      (st ≠ prActive → st ≠ prJoining → exec (.pairJoinFrame f true) s = .next s) ∧
      (st ≠ prStandby → exec .align s = .next s) ∧
      (st = prStandby → s.rd PASS_PHASE_PHASE ≠ phRemainder ∨ p.staged = none →
        (p.setEnded = true → Completes .align s (fun t => t = { s with pair := t.pair, bus := t.bus } ∧
          t.pair.alignAt = s.now ∧ t.pair.setEnded = false ∧ t.pair.staged = p.staged)) ∧
        (p.setEnded = false → Completes .align s (fun t => t.rd PAIR_CNT_COPY_COUNT = counted s PAIR_CNT_COPY_COUNT ∧
          t.rd PAIR_STAT_READY = 0 ∧ t.pair.alignAt = s.now ∧ t.pair.setEnded = false ∧ t.pair.recv = none ∧
          t.pair.setOk = false ∧ t.pair.failedRun = p.failedRun + 1 ∧ t.pair.staged = p.staged ∧
          (p.failedRun = 2 → t.rd GLOBAL_FAULT_LAST_CLASS = 1)))) ∧
      (st = prStandby → s.rd PASS_PHASE_PHASE = phRemainder → p.staged = some r → r.blocks = [] → r.writes = [] →
        p.committed.any (fun c => (c.1 + 1) % 2 ^ 32 == r.pass) = false → Completes .align s (fun t =>
          t.rd PASS_PHASE_PHASE = phRemainder ∧ t.pair.staged = none ∧ t.pair.shadow = p.shadow ∧
          t.pair.committed = some (r.pass, r.at_) ∧ t.pair.setOk = true)) ∧
      (st = prStandby → s.rd PASS_PHASE_PHASE = phRemainder → p.staged = some r →
        p.committed.any (fun c => (c.1 + 1) % 2 ^ 32 == r.pass) = true → Completes .align s (fun t =>
          t.rd PASS_PHASE_PHASE = phFreeze ∧ t.pair.shadow = some r ∧ t.pair.staged = none ∧ t.pass.inBuf = false ∧
          t.pass.freezeAt = s.now ∧ t.passNo = t.ld aImage 8))) ∧
    (s.paired = false ∨ s.linkUp = true ∨ p.hello = none → exec .headlandLinkUp s = .next s) ∧
    (s.paired = true → s.linkUp = false → p.hello ≠ none → Completes .headlandLinkUp s (fun t => t.linkUp = true ∧
      t.rd PAIR_LINK_LOCK = 3 ∧ t.rd PAIR_LINK_ALIVE = 1 ∧ t.pair.aliveAt = s.now ∧ gone ∉ t.active ∧
      bitOf (t.rd CP_CLK_STAT_STOPPED) 6 = false)) ∧
    (s.paired = false → exec (.pairHello h crcOk) s = .next s) ∧
    (s.paired = true → crc (.pairHello h false) ∧ Completes (.pairHello h true) s (fun t =>
      t.rd PAIR_STAT_PARTNER = 1 ∧ t.rd PAIR_STAT_PARTNER_ROLE = b2n h.role ∧ t.pair.hello = some h ∧
      (p.hello = none → .pairFrame (.hello s.hello) ∈ t.outbox) ∧
      (b2n h.role = s.rd GLOBAL_MODE_ROLE → t.rd GLOBAL_FAULT_LAST_CLASS = 2 ∧ t.rd GLOBAL_FAULT_LAST_CODE = E_ROLE ∧
        t.prState = if st = prActive then prActive else prFallow))) ∧
    gathers (fun c => .pairBlocks pass seq bs c) (fun q => { q with blocks := q.blocks ++ bs }) ∧
    gathers (fun c => .pairWriteFrame pass seq ws c) (fun q => { q with writes := q.writes ++ ws }) ∧
    (s.receives = false → exec (.pairEnd pass frames epoch mode crcOk) s = .next s) ∧
    (s.receives = true →
      (st = prStandby → x.frames = frames → x.broken = false → Completes (.pairEnd pass frames epoch mode true) s (fun t =>
        .pairFrame (.ack pass false) ∈ t.outbox ∧ t.pair.recv = none ∧ t.pair.failedRun = 0 ∧
        (∃ q, t.pair.staged = some q ∧ q.pass = x.pass ∧ q.blocks = x.blocks ∧ q.epoch = epoch ∧
          (p.staged = none → q.writes = x.writes)) ∧
        t.rd PAIR_EPOCH_EPOCH = max (s.rd PAIR_EPOCH_EPOCH) (min epoch (2 ^ 32 - 1)))) ∧
      (st = prJoining → x.frames = frames → x.broken = false → x.blocks = [] → x.writes = [] →
        Completes (.pairEnd pass frames epoch mode true) s (fun t => t.prState = prStandby ∧ t.pair.setOk = true ∧
          t.pair.committed.map (fun c => c.1) = some x.pass)) ∧
      (x.frames ≠ frames ∨ x.broken = true ∨ crcOk = false → Completes (.pairEnd pass frames epoch mode crcOk) s (fun t =>
        t.rd PAIR_CNT_COPY_COUNT = counted s PAIR_CNT_COPY_COUNT ∧ .pairFrame (.ack pass true) ∈ t.outbox ∧
        t.rd PAIR_STAT_READY = 0 ∧
        t.pair = { p with recv := none, failedRun := p.failedRun + 1, setOk := false, setEnded := true } ∧
        (p.failedRun = 2 → t.rd GLOBAL_FAULT_LAST_CLASS = 1))))

/-- R354, R365 to R372, R374. Triangulation gives this unit's verdict, and the two verdicts say which unit is bad; a ready standby that
sees AUTH_IN fall takes over at once, one whose copies are in doubt waits, and takes over at the end of its wait; a takeover goes on
with the next epoch of the unit's role and with every TX_CTR 2²⁴ higher, and freezes an image of its own; the commands of
PAIR_CMD are taken in the states that R374 gives them, and otherwise rejected.
Points in it that the spec leaves open are the model's choice: log entries 42, 43, 44 and 94. -/
def Obligations.PairVerdictsTakeoverAndCommands : Prop :=
  ∀ (s : State) (m : Fin 16) (wrong : List (Nat × Byte)) (signatures : List (Fin 4)) (crcOk : Bool) (tests : BitVec 3)
      (gpio : BitVec 64) (own : Nat) (h : PairHello),
    let p := s.pair
    let st := s.prState
    let v := b2n (!benchPasses wrong) + 2 * b2n (!signatures.isEmpty) +
      4 * b2n (p.eccBad || decide (s.rd PAIR_CFG_TRI_ECC_MAX < p.eccCorr))
    let lane := s.rd PAIR_CFG_TRI_LANE
    let given : Pair := { p with eccCorr := 0, eccBad := false, verdict := some v, verdictDue := true }
    let crc (i : Instr) : Prop := Completes i s (fun t => t.rd PAIR_LINK_CRC_ERR = min (s.rd PAIR_LINK_CRC_ERR + 1) 255 ∧
      s.onlyRegs [PAIR_LINK] t)
    let free : Prop := p.staged = none ∧ p.shadow = none ∧ Memory.wf s.mem = true
    let taken (t : State) : Prop := t.prState = prActive ∧ t.pair.freezeDue = true ∧ t.pair.trigger = some s.now ∧
      t.rd PAIR_STAT_READY = 0 ∧ t.rd PASS_PHASE_PHASE = phRemainder ∧
      t.rd PAIR_EPOCH_EPOCH = nextEpoch (s.rd PAIR_EPOCH_EPOCH) (s.rd GLOBAL_MODE_ROLE) % 2 ^ 32 ∧
      (∀ g ∈ s.gzAll, t.gz g 0x28 8 = (s.gz g 0x28 8 + 2 ^ 24) % 2 ^ 64) ∧
      (p.committed = none → t.rd GLOBAL_FAULT_LAST_CLASS = 1 ∧ t.rd GLOBAL_FAULT_LAST_SOURCE = bPair)
    let wait := some (s.now + (if s.rd GLOBAL_MODE_ROLE = 1 then 3 else 1) * s.pass.period * cycPerMs)
    let ready : Prop := st = prStandby ∧ s.linkUp = true ∧ (s.rd PAIR_STAT_READY = 1 ∨ p.handover = true) ∧ s.sameRole = false
    let rejected (i : Instr) (c : Nat) : Prop := Completes i s ((s.relock m).rejects m PAIR_CMD c true)
    let auth := s.rd PAIR_STAT_AUTH_IN
    (s.rd PAIR_STAT_TRI_BUSY = 0 → exec (.triangulationComplete wrong signatures) s = .next s) ∧
    (s.rd PAIR_STAT_TRI_BUSY = 1 → Completes (.triangulationComplete wrong signatures) s (fun t =>
      t.rd PAIR_STAT_TRI_BUSY = 0 ∧ t.rd PAIR_TRI_OWN = v ∧ t.rd (LANE_TEST_LAST lane) = (if benchPasses wrong then 1 else 2) ∧
      t = { s with
        regs := t.regs, mem := t.mem, testErrs := t.testErrs, gleaner := t.gleaner, outbox := t.outbox, host := t.host,
        pair := t.pair } ∧
      (p.theirs = none → t.pair = given) ∧
      (p.theirs = some own → t.pair.verdict = none ∧ t.pair.theirs = none ∧ t.pair.verdictDue = true ∧
        (st = prActive → v ≠ 0 → own = 0 → t.pair.leaving = some 2) ∧
        (st = prStandby → v = 0 → own ≠ 0 → t.pair.handover = true)))) ∧
    (s.onLink = false → exec (.pairVerdict tests crcOk) s = .next s ∧ exec (.handover crcOk) s = .next s) ∧
    (s.onLink = true → crc (.pairVerdict tests false) ∧
      Completes (.pairVerdict tests true) s (fun t => t.rd PAIR_TRI_PARTNER = tests.toNat ∧
        (p.verdict = none → pairOnly s { p with theirs := some tests.toNat } [PAIR_TRI] t) ∧
        (p.verdict = some own → t.pair.verdict = none ∧ t.pair.theirs = none ∧ t.pair.verdictDue = p.verdictDue ∧
          (st = prActive → own ≠ 0 → tests = 0 → t.pair.leaving = some 2) ∧
          (st = prStandby → own = 0 → tests ≠ 0 → t.pair.handover = true) ∧
          (own = 0 → tests = 0 → t.rd PAIR_STAT_CONSEC = min 3 (s.rd PAIR_STAT_CONSEC + 1) ∧
            t.rd PAIR_CNT_MISMATCH_UNRESOLVED = counted s PAIR_CNT_MISMATCH_UNRESOLVED ∧
            (2 ≤ s.rd PAIR_STAT_CONSEC → st ≠ prActive → t.rd PAIR_STAT_UNTRUSTED = 1 ∧ t.rd PAIR_STAT_READY = 0 ∧
              t.rd GLOBAL_FAULT_LAST_CLASS = 2 ∧ t.rd GLOBAL_FAULT_LAST_CODE = E_UNRESOLVED)))) ∧
      (st ≠ prStandby → exec (.handover crcOk) s = .next s) ∧
      (st = prStandby → crc (.handover false) ∧
        Completes (.handover true) s (fun t => t = { s with pair := { p with handover := true } }))) ∧
    (auth = 0 → exec .authInFall s = .next s) ∧
    (auth = 1 → exec .authInRise s = .next s ∧ exec .takeoverWaitExpiry s = .next s) ∧
    (auth = 1 →
      (s.paired = false → Completes .authInFall s (fun t => t.rd PAIR_STAT_AUTH_IN = 0 ∧ s.onlyRegs [PAIR_STAT] t)) ∧
      (s.paired = true → ready → free → Completes .authInFall s (fun t => taken t ∧ t.rd PAIR_STAT_AUTH_IN = 0)) ∧
      (s.paired = true → ¬ ready → st = prStandby → s.linkUp = true → p.waitEnd = none → Completes .authInFall s (fun t =>
        t.rd PAIR_STAT_AUTH_IN = 0 ∧ pairOnly s { p with waitEnd := wait } [PAIR_STAT] t))) ∧
    (auth = 0 → s.paired = false ∨ st = prActive ∨ st = prSingle ∨ st = prFallow → Completes .authInRise s (fun t =>
      t.rd PAIR_STAT_AUTH_IN = 1 ∧ s.onlyRegs [PAIR_STAT] t)) ∧
    (auth = 0 → s.paired = true → st = prStandby → Completes .authInRise s (fun t =>
      t.rd PAIR_STAT_AUTH_IN = 1 ∧ pairOnly s { p with waitEnd := none } [PAIR_STAT] t)) ∧
    (p.waitEnd = none → exec .takeoverWaitExpiry s = .next s) ∧
    (∀ e, p.waitEnd = some e → auth = 0 →
      (s.now < e ∨ s.sameRole = true ∨ st = prActive → exec .takeoverWaitExpiry s = .next s) ∧
      (e ≤ s.now → s.sameRole = false → st ≠ prActive → free → Completes .takeoverWaitExpiry s taken)) ∧
    (p.freezeDue = false ∨ s.rd PASS_PHASE_PHASE ≠ phRemainder → exec (.unscheduledFreeze gpio) s = .next s) ∧
    (p.freezeDue = true → s.rd PASS_PHASE_PHASE = phRemainder → Completes (.unscheduledFreeze gpio) s (fun t =>
      t.rd PASS_PHASE_PHASE = phFreeze ∧ t.pair = { p with freezeDue := false } ∧ t.pass.freezeAt = s.now ∧
      t.pass.timerOn = true ∧ t.pass.inBuf = !s.pass.inBuf ∧ t.passNo = (s.passNo + 1) % 2 ^ 64 ∧
      (s.onLink = true → st = prActive → t.outbox.head? = some (.pairFrame .align)))) ∧
    (s.mayWrite m PAIR_CMD →
      (s.healthyStandby = true → Completes (.pairYield m) s (pairOnly (s.relock m) { p with leaving := some 0 } [])) ∧
      (s.healthyStandby = false → rejected (.pairYield m) E_STATE) ∧
      (st ≠ prFallow → st ≠ prWaiting → rejected (.pairTake m) E_STATE) ∧
      (st = prFallow ∨ st = prWaiting → auth = 1 → rejected (.pairTake m) E_CONFLICT) ∧
      (st = prFallow ∨ st = prWaiting → auth = 0 → free → Completes (.pairTake m) s taken) ∧
      (s.paired = false → Completes (.pairFallow m) s ((s.relock m).onlyRegs [])) ∧
      (s.paired = true → st = prActive → Completes (.pairFallow m) s (pairOnly (s.relock m) { p with leaving := some 1 } [])) ∧
      (s.paired = true → st ≠ prActive → Completes (.pairFallow m) s (fun t => t.prState = prFallow ∧
        t.rd PAIR_STAT_READY = 0 ∧ t.pair.staged = none ∧ t.pair.committed = none ∧ t.mem = s.mem)) ∧
      (st ≠ prFallow ∨ s.linkUp = false → rejected (.pairJoin m) E_STATE) ∧
      (st = prFallow → s.linkUp = true →
        (p.hello = none ∨ auth = 0 → Completes (.pairJoin m) s ((s.relock m).onlyRegs [])) ∧
        (p.hello = some h → auth = 1 → s.agrees h = true → Completes (.pairJoin m) s (fun t => t.prState = prJoining ∧
          t.outbox.head? = some (.pairFrame (.join .request)) ∧ t.pair.acked = [])) ∧
        (p.hello = some h → auth = 1 → s.agrees h = false → Completes (.pairJoin m) s (fun t => t.prState = prFallow ∧
          t.rd GLOBAL_FAULT_LAST_CLASS = 1 ∧ t.rd GLOBAL_FAULT_LAST_CODE = E_INCOMPATIBLE))) ∧
      Completes (.pairClear m) s (fun t => t.rd PAIR_STAT_UNTRUSTED = 0 ∧ t.prState = st ∧ (s.relock m).onlyRegs [PAIR_STAT] t))

/-! The key store, debug and JTAG (chapters 16 and 18). -/

/-- A command of PF1 stands at the head of SQCH_00: its two words, with the low half of word 0 and the length in word 1. -/
def ksPosted (s : State) (op tag low len : Nat) : Prop :=
  op < 256 ∧ tag < 256 ∧ low < 2 ^ 16 ∧ s.requests.replies = [] ∧ (s.waiting (sqchYX 0).data).length ≤ 30 ∧
    ∃ rest, s.requestWords (sqchXY 0) = (op * 2 ^ 24 + tag * 2 ^ 16 + low) :: len :: rest

/-- A well-formed command of PF1 with its input in KS_IN (R385). -/
def ksAsks (s : State) (op tag : Nat) (inp : List Byte) : Prop :=
  ksPosted s op tag 0 inp.length ∧ inp.length ≤ 1024 ∧ s.ksInput inp.length = inp

/-- A command of n words has been taken and answered (R385): its reply, KS_STAT, its output and the count of rejections; only
the key store, its registers, the station revocations and its channel have changed. -/
def ksReplies (s : State) (n op tag code : Nat) (out : List Byte) (t : State) : Prop :=
  let d := sqchXY 0
  let y := (sqchYX 0).data
  t.waiting d.data = (s.waiting d.data).drop n ∧
    t.waiting y = s.waiting y ++ [⟨replyWord op tag code, s.now⟩, ⟨BitVec.ofNat 32 out.length, s.now⟩] ∧
    (∀ o, o ≠ d.data → o ≠ y → t.waiting o = s.waiting o) ∧
    t.rd KS_STAT_LAST_OP = op ∧ t.rd KS_STAT_LAST_CODE = code ∧
    t.rd KS_CNT_REJECT_COUNT = (if code = E_OK then s.rd KS_CNT_REJECT_COUNT else counted s KS_CNT_REJECT_COUNT) ∧
    (∀ k < 256, 4 * k + 4 ≤ out.length → t.reg (KS_OUT k) = BitVec.ofNat 32 (ofLeBytes ((out.drop (4 * k)).take 4))) ∧
    (∀ o, o ≠ d.stat → blockOf o ≠ bKeyStore → blockOf o ≠ bDebug → t.reg o = s.reg o) ∧
    t = { s with
      keys := t.keys, stations := t.stations, regs := t.regs, queues := t.queues, outbox := t.outbox, host := t.host }

/-- The slots have become those given, and KS_SLOT_nn and the records in retention show it; the rest of the key store's own
state is unchanged. -/
def slotsBecome (s : State) (slots : List KeySlot) (t : State) : Prop :=
  t.keys = { s.keys with slots := slots, area := t.keys.area } ∧ (∀ k < 64, t.reg (KS_SLOT k) = t.slotWord k) ∧
    (s.keys.stored = true → s.rd CP_BOOT_STAT_SEED_DEFAULTED = 0 → s.rd KS_STAT_SECURE_DEBUG = 0 → t.keys.area.slots = slots)

/-- R376, R377, R384 to R391, R393, R396. A command of the key store is taken from SQCH_00 when both its words are there;
what it may not do is answered with the code of the first check it fails, and changes nothing; what it may do changes the slots,
the counters or the life cycle as its row says, and is answered with its output: what SEAL, OPEN, MAC, SIGN and ATTEST compute, and
the key that an update message wraps for the device's transport key.
Points in it that the spec leaves open are the model's choice: log entries 31, 32, 56, 57 and 106. -/
def Obligations.KeyStoreCommandsAreCheckedAndAnswered : Prop :=
  ∀ (s : State) (op tag n type g aad : Nat) (cut : Bool) (key inp data owner : List Byte) (i : Instr) (w : QWord),
    let rows : List (Nat × Instr) := [(1, .ksWrite), (2, .ksUpdate () () ()), (3, .ksDestroy), (4, .ksRevoke),
      (5, .ksStation), (6, .ksUse () ()), (7, .ksPublic), (8, .ksAttest ()), (9, .ksLifecycle cut)]
    let k := s.keys
    let slot := s.slot n
    let st := s.stateOf n
    let b := BitVec.ofNat 8
    let cleared (t : State) : Prop := t.keys = k ∧ t.stations = s.stations
    let turned (i : Instr) (o c : Nat) : Prop := Completes i s (fun t => ksReplies s 2 o tag c [] t ∧ cleared t)
    let done (i : Instr) (o : Nat) (out : List Byte) (P : State → Prop) : Prop :=
      Completes i s (fun t => ksReplies s 2 o tag E_OK out t ∧ P t)
    let erased := k.slots.take 1 ++ (k.slots.drop 1).map KeySlot.erased
    let destroyed := k.slots.set n (if slot.derived then { slot with revoked := true } else { slot with
      value := none, revoked := false })
    let below := s.descendants [n]
    let written (v : List Byte) := (k.slots.set n { slot with value := some v, revoked := false, boundTo := k.measure }).zipIdx.map
      (fun x => if x.1.derived && below.contains x.2 then { x.1 with revoked := false } else x.1)
    let rooted : StationKeys := if n = 1 then { s.stations with revoked := [], newRoot := true } else s.stations
    let sown (t : State) : Prop := t.stations = rooted
    let asked (f : Nat) : List Byte := [b n, b f] ++ leBytes 2 aad ++ data
    let iv := data.take 12
    let add := (data.drop 12).take aad
    let text := data.drop (12 + aad)
    let uses (f : Nat) (fit : Prop) (out : Option (List Byte)) : Prop := ksAsks s 6 tag (asked f) → n < 64 →
      (¬ fit → turned (.ksUse () ()) 6 E_RANGE) ∧
      (fit → st = 0 → turned (.ksUse () ()) 6 E_UNKNOWN) ∧
      (fit → st ≠ 0 → n < 2 ∨ bitOf slot.use (useBit f) = false → turned (.ksUse () ()) 6 E_CONFLICT) ∧
      (fit → st ≠ 0 → st ≠ 2 → 2 ≤ n → bitOf slot.use (useBit f) = true → turned (.ksUse () ()) 6 E_KEY_REVOKED) ∧
      (fit → st = 2 → 2 ≤ n → bitOf slot.use (useBit f) = true → match out with
        | some o => done (.ksUse () ()) 6 o cleared
        | none => turned (.ksUse () ()) 6 E_TAG)
    let noSlot (i : Instr) (o : Nat) : Prop := ksAsks s o tag [b n] → (64 ≤ n → turned i o E_RANGE) ∧
      (n = 0 → turned i o E_STATE) ∧ (0 < n → n < 64 → st = 0 → turned i o E_UNKNOWN)
    (n < 256 → aad < 2 ^ 16 → k.slots.length = 64 →
      ((op, i) ∈ rows →
        ((s.requestWords (sqchXY 0)).length < 2 → exec i s = .next s) ∧
        (∀ o low len, ksPosted s o tag low len →
          (1 ≤ o → o ≤ 9 → o ≠ op → exec i s = .next s) ∧ (o = 0 ∨ 9 < o → turned i o E_UNKNOWN) ∧
          (o = op → low ≠ 0 ∨ 1024 < len → turned i o E_RANGE))) ∧
      (1 ≤ type → type ≤ 3 → n < 64 → key.length = keyLen type → ksAsks s 1 tag ([b n, b type, 0, 0] ++ key) →
        (s.noClear = true → turned .ksWrite 1 E_STATE) ∧
        (s.noClear = false → st = 0 → turned .ksWrite 1 E_UNKNOWN) ∧
        (s.noClear = false → st ≠ 0 → slot.derived = true ∨ slot.type ≠ type → turned .ksWrite 1 E_CONFLICT) ∧
        (s.noClear = false → st ≠ 0 → slot.derived = false → slot.type = type →
          done .ksWrite 1 [] (fun t => slotsBecome s (written key) t ∧ sown t))) ∧
      noSlot .ksDestroy 3 ∧ noSlot .ksRevoke 4 ∧
      (0 < n → n < 64 → st ≠ 0 →
        (ksAsks s 3 tag [b n] → done .ksDestroy 3 [] (fun t => slotsBecome s destroyed t ∧ t.stations = s.stations)) ∧
        (ksAsks s 4 tag [b n] → done .ksRevoke 4 [] (fun t =>
          slotsBecome s (k.slots.set n { slot with revoked := true }) t ∧ t.stations = s.stations))) ∧
      (g < 2 ^ 16 → type < 256 →
        (ksAsks s 5 tag ([0, b type] ++ leBytes 2 g) →
          (s.gzUsed g = false → turned .ksStation 5 E_UNKNOWN) ∧
          (s.gzUsed g = true → done .ksStation 5 [] (fun t => slotsBecome s k.slots t ∧ t.stations = { s.stations with
            revoked := g :: s.stations.revoked.filter (· != g) }))) ∧
        (ksAsks s 5 tag ([1, b type] ++ leBytes 2 g) →
          (s.noClear = true → turned .ksStation 5 E_STATE) ∧
          (s.noClear = false → s.gzUsed g = true → s.gz g 0x23 1 = type → turned .ksStation 5 E_CONFLICT) ∧
          (s.noClear = false → s.gzUsed g = true → s.gz g 0x23 1 ≠ type → done .ksStation 5 [] (fun t =>
            slotsBecome s k.slots t ∧ g ∉ t.stations.revoked ∧ t.stations.rekey.getLast? = some (g, type))))) ∧
      uses 0 (12 + aad ≤ data.length) (some (gcmSeal (s.keyOf n) iv add text)) ∧
      uses 1 (28 + aad ≤ data.length) (gcmOpen (s.keyOf n) iv add text) ∧
      uses 2 (aad = 0) (some (kmac256 (s.keyOf n) data 32 "KEIVIX-MAC")) ∧
      uses 3 (aad = 0 ∧ data.length = 64) (some (edSign (s.keyOf n) "KEIVIX-HOST" data)) ∧
      (ksAsks s 7 tag [] →
        done .ksPublic 7 (identityPublic ++ transportPublic ++ s.measured ++ s.ownerDigest) cleared) ∧
      (ksAsks s 8 tag inp →
        (inp.length ≠ 32 → turned (.ksAttest ()) 8 E_RANGE) ∧
        (inp.length = 32 → s.stateOf 0 ≠ 2 → turned (.ksAttest ()) 8 E_KEY_REVOKED) ∧
        (inp.length = 32 → s.stateOf 0 = 2 → done (.ksAttest ()) 8
          (s.statement inp ++ edSign (s.keyOf 0) "KEIVIX-ATTEST" (shake256 (s.statement inp) 64)) cleared)) ∧
      (ksAsks s 2 tag inp →
        let action := inU inp 4 1
        let ctr := inU inp 8 8
        let arg0 := inU inp 0x30 4
        let arg1 := inU inp 0x34 4
        let fine : Prop := updForm inp = true ∧ (k.lc = 1 ∨ k.lc = 2) ∧ (action = 7 → k.lc = 1) ∧
          (updSlot action = true → inU inp 5 1 = n ∧ st ≠ 0) ∧ (action = 4 → s.gzUsed arg0 = true) ∧ s.updConflict inp = false
        let good : Prop := fine ∧ s.updSigned inp = true ∧ s.keyCtr < ctr
        let does (P : State → Prop) : Prop := done (.ksUpdate () () ()) 2 [] (fun t => t.keyCtr = ctr ∧ P t)
        (updForm inp = false → turned (.ksUpdate () () ()) 2 E_RANGE) ∧
        (updForm inp = true → k.lc = 0 ∨ k.lc = 3 ∨ (action = 7 ∧ k.lc ≠ 1) → turned (.ksUpdate () () ()) 2 E_STATE) ∧
        (fine → s.updSigned inp = false → turned (.ksUpdate () () ()) 2 E_SIGNATURE) ∧
        (fine → s.updSigned inp = true → ctr ≤ s.keyCtr → turned (.ksUpdate () () ()) 2 E_COUNTER) ∧
        (good → action = 1 ∨ action = 6 → updUnwrap inp = none → turned (.ksUpdate () () ()) 2 E_TAG) ∧
        (good → action = 1 → updUnwrap inp = some key → does (fun t => slotsBecome s (written key) t ∧ sown t)) ∧
        (good → action = 2 → does (fun t => slotsBecome s destroyed t ∧ t.stations = s.stations)) ∧
        (good → action = 3 → does (fun t =>
          slotsBecome s (k.slots.set n { slot with revoked := true }) t ∧ t.stations = s.stations)) ∧
        (good → action = 4 → does (fun t => slotsBecome s k.slots t ∧
          (bitOf arg1 8 = false → t.stations.revoked = arg0 :: s.stations.revoked.filter (· != arg0)) ∧
          (bitOf arg1 8 = true → arg0 ∉ t.stations.revoked ∧ t.stations.rekey.getLast? = some (arg0, arg1 % 256)))) ∧
        (good → action = 5 → does (fun t => t.rd KS_FLOOR_FLOOR = arg0 ∧ slotsBecome s k.slots t)) ∧
        (good → action = 6 → updUnwrap inp = some key → does (fun t =>
          t.keys = { k with owner := key, area := t.keys.area } ∧ t.stations = s.stations)) ∧
        (good → action = 7 → does (fun t => t.stations.revoked = [] ∧
          t.keys = { k with lc := 2, slots := erased, area := t.keys.area })) ∧
        (good → action = 8 → s.boot.saving = none → Completes (.ksUpdate () () ()) s (fun t => t.keys.lc = 3 ∧
          t.rd CP_BOOT_STAT_STAGE = 0))) ∧
      (owner.length = 57 → ksAsks s 9 tag (1 :: owner) →
        (k.lc ≠ 0 → turned (.ksLifecycle cut) 9 E_STATE) ∧
        (k.lc = 0 →
          done (.ksLifecycle false) 9 [] (fun t => t.keys = { k with
            lc := 1, slots := erased, owner := owner, area := t.keys.area } ∧ t.stations.revoked = [] ∧ t.keyCtr = 0 ∧
            t.rd KS_FLOOR_FLOOR = 0) ∧
          (k.area.target = none → Completes (.ksLifecycle true) s (fun t => t.keys = { k with area := { k.area with
            target := some (1, owner) } } ∧ t.waiting (sqchYX 0).data = s.waiting (sqchYX 0).data)))) ∧
      (ksAsks s 9 tag [0] ∨ ksAsks s 9 tag [2] → turned (.ksLifecycle cut) 9 E_STATE) ∧
      (ksAsks s 9 tag [3] → k.lc = 0 →
        (s.boot.saving = none → Completes (.ksLifecycle false) s (fun t => t.keys.lc = 3 ∧ t.rd CP_BOOT_STAT_STAGE = 0)) ∧
        (s.boot.saving ≠ none → Completes (.ksLifecycle false) s (fun t => t.keys.lc = 3 ∧
          t.boot.held = some ⟨false, 0, false⟩)))) ∧
    ((s.waiting (sqchXY 0).data).length ≠ 1 → exec .ksCommandTimeout s = .next s) ∧
    (s.waiting (sqchXY 0).data = [w] →
      (s.now < w.at_ + 10 * cycPerMs → exec .ksCommandTimeout s = .next s) ∧
      (w.at_ + 10 * cycPerMs ≤ s.now → s.requests.replies = [] → (s.waiting (sqchYX 0).data).length ≤ 30 →
        Completes .ksCommandTimeout s (fun t =>
          ksReplies s 1 (w.word.toNat / 2 ^ 24) (w.word.toNat / 2 ^ 16 % 256) E_TIMEOUT [] t ∧ cleared t))) ∧
    ((∀ m ∈ [1, 2, 3], s.mbUnread (smbwDir m) = false) →
      (s.mbUnread (smbwDir 0) = false ∨ s.mbBusy (smbwDir 4) = true → exec .ksStatusQuery s = .next s) ∧
      (s.mbUnread (smbwDir 0) = true → s.mbBusy (smbwDir 4) = false → Completes .ksStatusQuery s (fun t =>
        t.mbUnread (smbwDir 0) = false ∧ t.mbUnread (smbwDir 4) = true ∧ t.reg (smbwDir 4).data = s.ksStat ∧
        { s with outbox := t.outbox, host := t.host }.onlyRegs [(smbwDir 0).stat, (smbwDir 4).stat, (smbwDir 4).data] t)))

/-- The scopes or their showing have changed: the tokens become those given, and of the registers only KEYSTORE's and DEBUG's may
differ. -/
def tokensBecome (s : State) (tokens : List (Nat × Nat)) (t : State) : Prop :=
  t = { s with keys := { s.keys with tokens := tokens }, regs := t.regs } ∧ t.rd DBG_STAT_SCOPE = t.scopes % 8 ∧
    (∀ k < 64, t.reg (KS_SLOT k) = t.slotWord k) ∧
    ∀ o, blockOf o ≠ bKeyStore → blockOf o ≠ bDebug → t.reg o = s.reg o

/-- A token has been presented to u: the challenge is used up, and the token opens its scopes if it passes every check (R397, R398). -/
def tokenPresented (u : State) (bs : List Byte) (t : State) : Prop :=
  t.rd DBG_STAT_CHAL_VALID = 0 ∧
    (u.keys.lc = 3 → t.rd DBG_STAT_LAST_CODE = E_DEBUG ∧ u.onlyRegs [DBG_STAT] t) ∧
    (u.keys.lc ≠ 3 → ∀ c, pickCode (u.tokenCodes bs) = some c → t.rd DBG_STAT_LAST_CODE = c ∧ u.onlyRegs [DBG_STAT] t) ∧
    (u.keys.lc ≠ 3 → u.tokenCodes bs = [] → t.rd DBG_STAT_LAST_CODE = E_OK ∧
      tokensBecome u ((inU bs 4 1, inU bs 0x10 8) :: u.keys.tokens) t ∧
      (bitOf (inU bs 4 1) 2 = true → t.rd KS_STAT_SECURE_DEBUG = 1))

/-- R315, R367, R397, R398, R434. A token presented through PRESENT or the TAP uses up the challenge, and opens its scopes if it passes
every check; CLOSE and the end of NOT_AFTER close them; NEW_CHAL sets the challenge. An instruction of the TAP is selected, its
register is shifted out, and CLAMP or HIGHZ in force releases AUTH_OUT.
Points in it that the spec leaves open are the model's choice: log entries 20, 58 and 107. -/
def Obligations.DebugScopesAndTheTap : Prop :=
  ∀ (s : State) (m : Fin 16) (chal : BitVec 256) (token : List Byte) (sampled preload : Nat),
    let j := s.jtag
    let ir (n : Nat) : State := { s with jtag := { j with ir := n } }
    let shifts (u : State) (v : Nat) : State := { u with outbox := .tdo v :: s.outbox }
    let open0 := bitOf s.scopes 0
    let idle := s.rd GLOBAL_MODE_MODE = modeStop ∧ s.rd GLOBAL_MODE_AUTH = 0
    let late := s.keys.tokens.filter (fun t => decide (t.2 < s.time))
    let clamps (i : Instr) (n : Nat) : Prop :=
      (open0 = false ∨ s.rd GLOBAL_MODE_AUTH = 0 → Completes i s (fun t => t = ir n ∧ t.scan = open0)) ∧
      (open0 = true → s.rd GLOBAL_MODE_AUTH = 1 → (∀ c, ∀ x ∈ (s.canCh c).queue, x.object < 256) → Completes i s (fun t => t.jtag.ir = n ∧ t.rd GLOBAL_MODE_AUTH = 0 ∧
        t.prState = prFallow ∧ t.scan = true ∧ t.keys = s.keys ∧ t.mem = s.mem ∧ t.pass = s.pass))
    (s.mayWrite m DBG_CTL →
      Completes (.dbgPresent m ()) s (tokenPresented (s.relock m) s.tokenBytes) ∧
      Completes (.dbgClose m) s (tokensBecome (s.relock m) []) ∧
      Completes (.dbgNewChal m chal) s (fun t => t.rd DBG_STAT_CHAL_VALID = 1 ∧
        (∀ k < 8, t.reg (DBG_CHAL k) = BitVec.ofNat 32 (chal.toNat / 2 ^ (32 * k))) ∧
        { s.relock m with keys := { s.keys with chalAt := s.now } }.onlyRegs (DBG_STAT :: (List.range 8).map DBG_CHAL) t)) ∧
    (s.placeCodes m DBG_CTL true = [] → s.settled → s.canAccess m = true → s.unlocked m = false →
      Completes (.dbgPresent m ()) s ((s.relock m).rejects m DBG_CTL E_LOCKED true) ∧
      Completes (.dbgClose m) s ((s.relock m).rejects m DBG_CTL E_LOCKED true) ∧
      Completes (.dbgNewChal m chal) s ((s.relock m).rejects m DBG_CTL E_LOCKED true)) ∧
    (late = [] → exec .debugScopeExpiry s = .next s) ∧
    (late ≠ [] → Completes .debugScopeExpiry s (tokensBecome s (s.keys.tokens.filter (fun t => decide (s.time ≤ t.2))))) ∧
    Completes (.jtagToken token ()) s (tokenPresented (ir 0x20) token) ∧
    Completes .jtagChallenge s (fun t => ∃ v, t = shifts (ir 0x21) v ∧
      ∀ k < 8, v / 2 ^ (32 * k) % 2 ^ 32 = (s.reg (DBG_CHAL k)).toNat) ∧
    Completes .idcode s (fun t => t = shifts (ir 1) 0x209604BB ∧ t.scan = false) ∧
    Completes .tapReset s (fun t => t = ir 1 ∧ t.scan = false) ∧
    Completes .bypass s (fun t => t = shifts (ir 0xFF) 0 ∧ t.scan = false) ∧
    (open0 = false → Completes (.samplePreload sampled preload) s (fun t => t = shifts (ir 2) 0)) ∧
    (open0 = true → Completes (.samplePreload sampled preload) s (fun t =>
      t = shifts { s with jtag := { ir := 2, latch := preload % 2 ^ 835 } } ((ir 2).boundary sampled) ∧
      (ir 2).boundary sampled < 2 ^ 835)) ∧
    Completes .extest s (fun t => t = ir 3 ∧ (t.scan = true ↔ open0 = true ∧ idle)) ∧
    Completes .intest s (fun t => t = ir 6 ∧ (t.scan = true ↔ open0 = true ∧ idle)) ∧
    clamps .clamp 4 ∧ clamps .highz 5 ∧
    (s.scopes < 2 → Completes .debugAccess s (fun t => t = shifts (ir 0x30) 0)) ∧
    (2 ≤ s.scopes → Completes .debugAccess s (fun t => ∃ v, t = { shifts (ir 0x30) v with free := t.free }))

/-! The Gleaner and the harrow (chapter 17). -/

/-- R187, R188, R406, R407, R411 to R414, R416. FREEZE stops the log and the rolls until it ends, at FREEZE_MAX at the latest; a minute boundary
writes the ended minute, or holds it while frozen; records drain to the log in order and are read by index; the harrow counts
what scrubbing finds, tests the next lane on the benchmark problem, answers archive reads, and shows temperatures and supplies.
Points in it that the spec leaves open are the model's choice: log entries 29, 48, 77 and 104. -/
def Obligations.TheGleanerAndTheHarrowWork : Prop :=
  ∀ (s : State) (m : Fin 16) (index : Word) (addr area n h d tag count seq : Nat) (found : ScrubFound) (temps mv : List (BitVec 16))
      (sensor : Fin 12) (monitor : Fin 20) (b : BitVec 16) (r : Report) (rs : List Report) (rest : List Nat),
    let g := s.gleaner
    let frozen := s.rd GL_STAT_FROZEN
    let max_ := s.rd GL_CTL_FREEZE_MAX
    let cur := s.seconds / 60
    let q := qchXY 6
    let y := (qchYX 6).data
    let lane := laneAt addr
    let cluster := lane / 8
    let laneSt := s.rd (LANE_STAT_STATE lane)
    let testDue : Prop := s.rd HR_CFG_TEST_S ≠ 0 ∧ s.rd PASS_PHASE_PHASE = phHeadland ∧ s.camp.inFlight = none ∧
      g.lastTest + s.rd HR_CFG_TEST_S * cycPerS ≤ s.now
    let fault1 (source : Nat) (t : State) : Prop := t.rd GLOBAL_FAULT_LAST_CLASS = 1 ∧ t.rd GLOBAL_FAULT_LAST_SOURCE = source ∧
      (∀ o, blockOf o ∉ [bHarrow, bGleaner, bGlobal] → t.reg o = s.reg o) ∧
      (∀ k, k < logBase ∨ logBase + 0x20000 ≤ k → t.byte k = s.byte k)
    let replied (op code w : Nat) (t : State) : Prop := t.waiting q.data = (s.waiting q.data).drop 3 ∧
      t.waiting y = s.waiting y ++ [⟨replyWord op tag code, s.now⟩, ⟨BitVec.ofNat 32 w, s.now⟩] ∧
      (∀ o, o ≠ q.data → o ≠ y → t.waiting o = s.waiting o) ∧ (∀ o, o ≠ q.stat → t.reg o = s.reg o) ∧
      t = { s with regs := t.regs, queues := t.queues, outbox := t.outbox, host := t.host, mem := t.mem, memBad := t.memBad }
    let thawed (t : State) : Prop := t.rd GL_STAT_FROZEN = 0 ∧ t.rd GL_CTL_FREEZE = 0 ∧ t.rd GL_CTL_FREEZE_MAX = max_ ∧
      t.gleaner.freezeSince = none ∧ t.gleaner.held = [] ∧ t.gleaner.heldMinute = none ∧ t.gleaner.heldDefs = [] ∧
      (g.heldDefs = [] → t.gleaner.live = g.live)
    (s.settled → s.canAccess m = true → s.placeCodes m GL_CTL true = [] → 1 ≤ max_ → max_ ≤ 50 →
      (s.rd GL_CTL_FREEZE = 0 → Completes (.gleanerFreeze m) s (fun t => t.rd GL_STAT_FROZEN = 1 ∧ t.rd GL_CTL_FREEZE = 1 ∧
        t.rd GL_CTL_FREEZE_MAX = max_ ∧
        { s.relock m with gleaner := { g with freezeSince := some s.now } }.onlyRegs [GL_CTL, GL_STAT] t)) ∧
      (s.rd GL_CTL_FREEZE = 1 → Completes (.gleanerUnfreeze m) s (fun t => thawed t ∧
        t = { s.relock m with regs := t.regs, mem := t.mem, memBad := t.memBad, gleaner := t.gleaner } ∧
        (∀ o, o ≠ GL_CTL → o ≠ GL_STAT → t.reg o = s.reg o) ∧
        (g.heldMinute = none → g.heldDefs = [] →
          (∀ k, k < logBase ∨ logBase + 0x20000 ≤ k → t.byte k = s.byte k) ∧ (g.lastWritten = none → t.mem = s.mem)) ∧
        (∀ rec, g.heldMinute = none → g.lastWritten = none → g.heldDefs = [(d, some rec)] → rec.length = 32 → d < 1024 →
          t.bytes (defAddr d) 32 = rec)))) ∧
    (g.freezeSince = none → exec .freezeExpiry s = .next s) ∧
    (g.freezeSince = some h →
      (s.now < h + max_ * cycPerS → exec .freezeExpiry s = .next s) ∧
      (h + max_ * cycPerS ≤ s.now → Completes .freezeExpiry s (fun t => thawed t ∧ t.rd GL_STAT_FREEZE_EXPIRED = 1 ∧
        t.rd GLOBAL_FAULT_LAST_CLASS = 0 ∧ t.rd GLOBAL_FAULT_LAST_SOURCE = bGleaner))) ∧
    (cur ≤ g.liveMinute ∨ (frozen = 1 ∧ g.heldMinute.isSome = true) → exec .minuteRoll s = .next s) ∧
    (g.liveMinute < cur → frozen = 1 → g.heldMinute = none → Completes .minuteRoll s (fun t =>
      t = { s with gleaner := t.gleaner } ∧ t.gleaner.heldMinute = some g.liveMinute ∧ t.gleaner.live = [] ∧
      t.gleaner.liveMinute = cur ∧ t.gleaner.held.map (fun e => e.1) = s.usedDefs ∧
      t.gleaner.errQueue = g.errQueue ∧ t.gleaner.fifo = g.fifo)) ∧
    (g.liveMinute < cur → frozen = 0 → Completes .minuteRoll s (fun t =>
      t = { s with mem := t.mem, memBad := t.memBad, gleaner := t.gleaner } ∧
      t.gleaner = { g with live := [], liveMinute := cur, liveStep := false, livePartial := false } ∧
      ((∀ e ∈ g.live ++ g.carried, e.2.bins.length = 32) →
        (∀ k, k < histBase ∨ histBase + 0x1600000 ≤ k → t.byte k = s.byte k) ∧
        (d ∈ s.usedDefs → g.live.lookup d = none → cur = g.liveMinute + 1 → cur < 2 ^ 40 →
          t.ld (sliceAddr d (g.liveMinute % 60) + 0xB0) 8 = g.liveMinute * minuteUnits)))) ∧
    (g.errQueue = [] ∨ frozen = 1 → exec .logRecordDrain s = .next s) ∧
    (g.errQueue = r :: rs → frozen = 0 → Completes .logRecordDrain s (fun t =>
      let w := s.rd GL_LOG_WR_INDEX
      t.bytes (logSlot w) 32 = r.encode ∧ t.rd GL_LOG_WR_INDEX = (w + 1) % 2 ^ 32 ∧
      t.gleaner = { g with errQueue := rs, lastWritten := some r } ∧
      (s.logLevel = 4096 → t.rd GL_LOG_RD_INDEX = (s.rd GL_LOG_RD_INDEX + 1) % 2 ^ 32 ∧
        t.rd GL_LOG_STAT_OVERWRITTEN = counted s GL_LOG_STAT_OVERWRITTEN) ∧
      (s.logLevel ≠ 4096 → t.reg GL_LOG_RD = s.reg GL_LOG_RD ∧ t.reg GL_LOG_STAT = s.reg GL_LOG_STAT) ∧
      (∀ k, k < logSlot w ∨ logSlot w + 32 ≤ k → t.byte k = s.byte k) ∧
      (∀ o, o ≠ GL_LOG_WR → o ≠ GL_LOG_RD → o ≠ GL_LOG_STAT → t.reg o = s.reg o) ∧
      t = { s with
        regs := t.regs, mem := t.mem, memBad := t.memBad, gleaner := t.gleaner, outbox := t.outbox, host := t.host })) ∧
    (s.settled → s.canAccess m = true → s.placeCodes m GL_LOG_RD true = [] →
      let left := (s.rd GL_LOG_WR_INDEX + 2 ^ 32 - index.toNat) % 2 ^ 32
      (left ≤ 4096 → Completes (.logReadAdvance m index) s (fun t => t.rd GL_LOG_RD_INDEX = index.toNat ∧ t.logLevel = left ∧
        s.onlyRegs [GL_LOG_RD] t)) ∧
      (4096 < left → Completes (.logReadAdvance m index) s (s.rejects m GL_LOG_RD E_RANGE true))) ∧
    (s.mayWrite m HR_ARCH_ACK →
      (s.rd HR_ARCH_ACK_SEQ ≤ index.toNat → index.toNat ≤ s.rd HR_ARCH_WR_SEQ → Completes (.archiveAck m index) s (fun t =>
        t.rd HR_ARCH_ACK_SEQ = index.toNat ∧ (s.relock m).onlyRegs [HR_ARCH_ACK] t)) ∧
      (index.toNat < s.rd HR_ARCH_ACK_SEQ ∨ s.rd HR_ARCH_WR_SEQ < index.toNat →
        Completes (.archiveAck m index) s ((s.relock m).rejects m HR_ARCH_ACK E_RANGE true))) ∧
    (s.scrubArea addr = none ∨ found = .clean → exec (.scrubStep addr found) s = .next s) ∧
    (s.scrubArea addr = some area →
      (let f := if area = 0 then HR_ECC_SDRAM_CORR else HR_ECC_SRAM_CORR
       Completes (.scrubStep addr .corrected) s (fun t => t.rd f = counted s f ∧
         (area ≠ 1 → { s with pair := { s.pair with eccCorr := s.pair.eccCorr + 1 } }.onlyRegs [f.off] t) ∧
         (area = 1 → t.rd (CL_ECC_CORR cluster) = counted s (CL_ECC_CORR cluster) ∧
           { s with pair := { s.pair with eccCorr := s.pair.eccCorr + 1 } }.onlyRegs [f.off, (CL_ECC_CORR cluster).off] t))) ∧
      (let f := if area = 0 then HR_ECC_SDRAM_UNCORR else HR_ECC_SRAM_UNCORR
       Completes (.scrubStep addr .uncorrectable) s (fun t => t.rd f = counted s f ∧ t.rd HR_UE_ADDR_HI_AREA = area ∧
         t.rd HR_UE_ADDR_LO_ADDR = addr % 2 ^ 32 ∧ t.rd HR_UE_ADDR_HI_ADDR = addr / 2 ^ 32 % 2 ^ 8 ∧ t.isBad addr = true ∧
         (∀ a, a / 8 ≠ addr / 8 → t.isBad a = s.isBad a) ∧ t.pair = { s.pair with eccBad := true } ∧
         (area ≠ 1 ∨ laneSt = laneRun → fault1 bHarrow t) ∧
         (area = 1 → laneSt ≠ laneRun → t.rd (LANE_STAT_OOS lane) = 1 ∧ t.rd (CL_ECC_UNCORR cluster) = counted s (CL_ECC_UNCORR cluster) ∧
           t.rd GLOBAL_FAULT_LAST_CLASS = 1 ∧ t.rd GLOBAL_FAULT_LAST_SOURCE = bTiller ∧
           (laneSt = laneTest → lane ∈ t.testErrs) ∧ (laneSt = laneIdle → t.rd (LANE_STAT_STATE lane) = laneOut)) ∧
         t = { s with regs := t.regs, mem := t.mem, gleaner := t.gleaner, outbox := t.outbox, host := t.host, pair := t.pair,
                      memBad := t.memBad, testErrs := t.testErrs }))) ∧
    (¬ testDue ∨ s.nextTestLane = none → exec .laneTestDue s = .next s) ∧
    (testDue → s.nextTestLane = some n → Completes .laneTestDue s (fun t => n < 256 ∧ s.rd (LANE_STAT_HELD n) = 0 ∧
      t.rd (LANE_STAT_STATE n) = laneTest ∧ t.rd HR_TEST_LAST_LANE = n ∧ t.rd HR_TEST_TESTS = counted s HR_TEST_TESTS ∧
      t = { s with
        regs := t.regs, mem := t.mem, memBad := t.memBad, testErrs := t.testErrs, gleaner := { g with lastTest := s.now } } ∧
      (∀ k < sliceLen, t.byte (sliceBase n + k) = benchSlice.getD k 0) ∧ n ∉ t.testErrs ∧
      (∀ k, k < sliceBase n ∨ sliceBase n + sliceLen ≤ k → t.byte k = s.byte k) ∧
      ∀ o, blockOf o ≠ bHarrow → blockOf o ≠ bTiller → t.reg o = s.reg o)) ∧
    (frozen = 1 ∨ (s.requestWords q).length < 3 → exec .archRead s = .next s) ∧
    (frozen = 0 → s.requests.replies = [] → (s.waiting y).length ≤ 30 → tag < 256 → count < 2 ^ 32 →
      (h < 2 ^ 16 → d < 256 → s.requestWords q = (d * 2 ^ 24 + tag * 2 ^ 16 + h) :: seq :: count :: rest →
        (d ≠ 1 → Completes .archRead s (fun t => replied d E_UNKNOWN 0 t ∧ t.mem = s.mem)) ∧
        (d = 1 → h ≠ 0 ∨ count = 0 ∨ 8192 < count → Completes .archRead s (fun t => replied 1 E_RANGE 0 t ∧ t.mem = s.mem))) ∧
      (s.requestWords q = (2 ^ 24 + tag * 2 ^ 16) :: seq :: count :: rest → 1 ≤ count → count ≤ 8192 →
        let stage := s.rd CP_BOOT_STAT_STAGE
        ((∃ k < count, s.archPresent (seq + k) = false) →
          Completes .archRead s (fun t => replied 1 E_RANGE 0 t ∧ t.mem = s.mem)) ∧
        ((∀ k < count, s.archPresent (seq + k) = true) →
          (stage ≠ 9 → stage ≠ 0xA → Completes .archRead s (fun t => replied 1 E_STATE 0 t ∧ t.mem = s.mem)) ∧
          (stage = 9 ∨ stage = 0xA → Completes .archRead s (fun t => replied 1 E_OK count t ∧
            (∀ k < count, t.bytes (sd 0x2640000 + 128 * k) 128 = s.bytes (s.archPlace (seq + k)).2 128) ∧
            ∀ k, k < sd 0x2640000 ∨ sd 0x2640000 + 128 * count ≤ k → t.byte k = s.byte k))))) ∧
    ((∀ x ∈ temps, x.toInt < 16 * s.rd HR_CFG_TEMP_CRIT) → Completes (.telemetryRead temps mv) s (fun t =>
      (∀ x, temps[sensor.val]? = some x → t.rd (HR_TEMP_TEMP sensor) = x.toNat ∧
        t.rd (HR_TEMP_MAX sensor) = (if toSigned 16 (s.rd (HR_TEMP_MAX sensor)) ≤ x.toInt then x.toNat
          else s.rd (HR_TEMP_MAX sensor)) ∧
        (16 * (s.rd HR_CFG_TEMP_WARN : Int) ≤ x.toInt → sensor.val ∈ t.gleaner.warm)) ∧
      (∀ x, mv[monitor.val]? = some x → t.rd (HR_SUP_MV monitor) = x.toNat) ∧
      (∀ o, blockOf o ∉ [bHarrow, bGleaner, bGlobal] → t.reg o = s.reg o) ∧
      t = { s with
        regs := t.regs, mem := t.mem, gleaner := t.gleaner, active := t.active, outbox := t.outbox, host := t.host })) ∧
    (s.healthyStandby = false → g.critRuns.lookup 0 = some 9 → 16 * (s.rd HR_CFG_TEMP_CRIT : Int) ≤ b.toInt → s.rd PASS_PHASE_PHASE ≠ phLogic →
      Completes (.telemetryRead [b] []) s (fun t => t.pass.fatal = true ∧ t.rd PASS_MODE_STAT_MODE = modeStop)) ∧
    Completes (.supplyWindowFault monitor) s (fun t => t.rd (HR_SUP_OUT monitor) = 1 ∧ fault1 bDevice t ∧
      t.rd (HR_SUP_MV monitor) = s.rd (HR_SUP_MV monitor) ∧
      t = { s with regs := t.regs, mem := t.mem, gleaner := t.gleaner, outbox := t.outbox, host := t.host })

/-! Steps and words. -/

/-- R13, R32, R331, R360, R404. A step takes the command at the front of the queue and runs it on the state with the rest of the queue,
and every command completes in every state. With no command waiting a cycle of the SYS clock passes: calendar time counts while
VDD_AON is supplied, a level that has been stable counts, a paired unit sends ALIVE every microsecond, and every second cycle the
histogram engine takes the oldest value of its FIFO. That the clock stands while commands wait is the model's choice: log entry 2. -/
def Obligations.StepRunsTheFrontCommand : Prop :=
  (∀ (s : State) (c : Instr) (rest : List Instr), s.pending = c :: rest → step s = exec c { s with pending := rest }) ∧
  (∀ (i : Instr) (s : State), ∃ t, exec i s = .next t) ∧
  (∀ s : State, s.pending = [] → ∃ t, step s = .next t ∧ t.now = s.now + 1 ∧
    t.cal = (if s.boot.aon then s.cal + 1 else s.cal) ∧ t.pending = [] ∧
    (∀ c < 32, s.meter.pulse.length = 32 →
      let p := s.pulseIn c
      (t.pulseIn c).raw = p.raw ∧ (t.pulseIn c).level =
        if p.raw ≠ p.level ∧ p.since + s.stableCycles c ≤ s.now + 1 then p.raw else p.level) ∧
    (s.paired = true → s.linkUp = true → t.now % cycPerUs = 0 →
      .pairFrame (.alive (s.rd GLOBAL_MODE_AUTH == 1) (s.reg GLOBAL_PASS_CNT_LO).toNat) ∈ t.outbox) ∧
    (s.paired = false → (∀ n < 4, s.rd (FP_CTL_EN n) = 0 ∨ s.rd (FP_STAT_LINK n) = 0) →
      (∀ c < 32, (s.pulseIn c).raw = (s.pulseIn c).level) →
      t.mem = s.mem ∧ t.outbox = s.outbox ∧ t.meter = s.meter ∧ t.field = s.field ∧ t.pair = s.pair ∧
      (t.now % 2 = 1 ∨ s.gleaner.fifo = [] → t.gleaner = s.gleaner ∧ t.regs = s.regs) ∧
      (∀ x r, t.now % 2 = 0 → s.gleaner.fifo = x :: r → t.gleaner.fifo = r ∧
        (s.defUsed x.1 = false → t.rd GL_CNT_UNDEF = min (s.rd GL_CNT_UNDEF + 1) (2 ^ 16 - 1) ∧ t.gleaner.live = s.gleaner.live) ∧
        (s.defUsed x.1 = true → t.regs = s.regs ∧ (t.gleaner.live.lookup x.1).isSome = true))))

/-- R221 to R228. A word that a well-formed Furrow instruction is written as is read back as that instruction, with every operand at
every value its format admits; and a word that spells an instruction spells a well-formed one, and is the word of no other. -/
def Obligations.FurrowWordsAndInstructionsAgree : Prop :=
  (∀ (i : Instr) (core : Fin 4), i.wf = true → furrowCore i = some core →
    ∃ w, encodeFurrow i = some w ∧ w < 2 ^ 32 ∧ decodeFurrow core w = some i) ∧
  (∀ (core : Fin 4) (w : Nat) (i : Instr), w < 2 ^ 32 → decodeFurrow core w = some i →
    i.wf = true ∧ furrowCore i = some core ∧ encodeFurrow i = some w)

/-- R35. Every step keeps the canonical form of memory and of the register file: addresses rising, and nothing listed that
an unlisted place reads as. The form is the model's own (assumption 4); a state in it is determined by what it reads. -/
def Obligations.StepsKeepCanonicalForm : Prop :=
  ∀ (s t : State), s.Canonical → step s = .next t → t.Canonical

/-- R39, R41. The state at reset is in canonical form, with nothing listed and nothing waiting: every register reads its reset value
(assumption 5), every byte of memory what an unwritten byte reads (assumption 4). -/
def Obligations.ResetIsCanonical : Prop :=
  State.reset.Canonical ∧ State.reset.pending = [] ∧ State.reset.outbox = [] ∧ (∀ o, State.reset.reg o = regReset o) ∧
    (∀ a, State.reset.byte a = memDefault a) ∧ State.reset.queues = [] ∧ State.reset.cal = 0
end

