-- ==== Sys2Proof/Laws/Bits.lean ====
section
/-! SUPPORT. Laws of bit fields: a field reads what was put into it, and its neighbours are left alone. -/

namespace Sys2Proof.Machine

theorem bitsOf_lt (v hi lo : Nat) : bitsOf v hi lo < 2 ^ (hi + 1 - lo) := Nat.mod_lt _ (Nat.two_pow_pos _)

theorem bitsOf_bit_lt (v n : Nat) : bitsOf v n n < 2 := by
  have h := bitsOf_lt v n n
  rwa [Nat.add_sub_cancel_left, Nat.pow_one] at h

/-- A field reads only bits at or below its top one. -/
theorem bitsOf_mod (v : Nat) {k hi lo : Nat} (h : hi < k) : bitsOf (v % 2 ^ k) hi lo = bitsOf v hi lo := by
  apply Nat.eq_of_testBit_eq
  intro i
  simp only [bitsOf, Nat.testBit_mod_two_pow, Nat.testBit_div_two_pow]
  by_cases hi' : i < hi + 1 - lo
  · have : i + lo < k := by omega
    simp [this]
  · simp [hi']

/-- A field reads only bits at or above a place below it. -/
theorem bitsOf_div (v : Nat) {k hi lo : Nat} (h : k ≤ lo) : bitsOf v hi lo = ((v / 2 ^ k) / 2 ^ (lo - k)) % 2 ^ (hi + 1 - lo) := by
  rw [Nat.div_div_eq_div_mul, ← Nat.pow_add, Nat.add_sub_cancel' h, bitsOf]

theorem putBits_low (v hi lo x : Nat) : putBits v hi lo x % 2 ^ lo = v % 2 ^ lo ∨ hi + 1 < lo := by
  by_cases h : lo ≤ hi + 1
  · left
    have e : 2 ^ (hi + 1) = 2 ^ (hi + 1 - lo) * 2 ^ lo := by rw [← Nat.pow_add, Nat.sub_add_cancel h]
    rw [putBits, e, ← Nat.mul_assoc, ← Nat.add_mul, Nat.mul_add_mod_self_right, Nat.mod_mod]
  · right; omega

theorem putBits_div_low (v x : Nat) {hi lo : Nat} (h : lo ≤ hi + 1) :
    putBits v hi lo x / 2 ^ lo = v / 2 ^ (hi + 1) * 2 ^ (hi + 1 - lo) + x % 2 ^ (hi + 1 - lo) := by
  have e : 2 ^ (hi + 1) = 2 ^ (hi + 1 - lo) * 2 ^ lo := by rw [← Nat.pow_add, Nat.sub_add_cancel h]
  have hl : v % 2 ^ lo < 2 ^ lo := Nat.mod_lt _ (Nat.two_pow_pos _)
  have e2 : putBits v hi lo x =
      (v / 2 ^ (hi + 1) * 2 ^ (hi + 1 - lo) + x % 2 ^ (hi + 1 - lo)) * 2 ^ lo + v % 2 ^ lo := by
    rw [putBits, Nat.add_mul, Nat.mul_assoc, ← e]
  rw [e2, Nat.mul_comm, Nat.mul_add_div (Nat.two_pow_pos _), Nat.div_eq_of_lt hl, Nat.add_zero]

theorem putBits_div_high (v x : Nat) {hi lo : Nat} (h : lo ≤ hi + 1) : putBits v hi lo x / 2 ^ (hi + 1) = v / 2 ^ (hi + 1) := by
  have e : 2 ^ (hi + 1) = 2 ^ lo * 2 ^ (hi + 1 - lo) := by rw [← Nat.pow_add]; congr 1; omega
  conv => lhs; rw [e]
  rw [← Nat.div_div_eq_div_mul, putBits_div_low v x h, Nat.mul_comm, Nat.mul_add_div (Nat.two_pow_pos _),
    Nat.div_eq_of_lt (Nat.mod_lt _ (Nat.two_pow_pos _)), Nat.add_zero]

/-- A field reads what was put into it. -/
theorem bitsOf_putBits_same (v x : Nat) {hi lo : Nat} (h : lo ≤ hi + 1) :
    bitsOf (putBits v hi lo x) hi lo = x % 2 ^ (hi + 1 - lo) := by
  rw [bitsOf, putBits_div_low v x h, Nat.mul_comm, Nat.mul_add_mod, Nat.mod_mod]

/-- A field below the one put keeps its value. -/
theorem bitsOf_putBits_below (v x : Nat) {hi lo hi' lo' : Nat} (h : lo ≤ hi + 1) (hb : hi' < lo) :
    bitsOf (putBits v hi lo x) hi' lo' = bitsOf v hi' lo' := by
  rw [← bitsOf_mod (putBits v hi lo x) hb, ← bitsOf_mod v hb]
  rcases putBits_low v hi lo x with h1 | h1
  · rw [h1]
  · omega

/-- A field above the one put keeps its value. -/
theorem bitsOf_putBits_above (v x : Nat) {hi lo hi' lo' : Nat} (h : lo ≤ hi + 1) (ha : hi < lo') :
    bitsOf (putBits v hi lo x) hi' lo' = bitsOf v hi' lo' := by
  rw [bitsOf_div _ (Nat.succ_le_of_lt ha), bitsOf_div v (Nat.succ_le_of_lt ha), Nat.succ_eq_add_one, putBits_div_high v x h]

/-- One bit as a truth value. -/
theorem bitOf_eq (v n : Nat) : bitOf v n = (bitsOf v n n == 1) := by
  rw [bitOf, bitsOf, Nat.add_sub_cancel_left, Nat.pow_one]

@[simp] theorem b2n_true : b2n true = 1 := rfl
@[simp] theorem b2n_false : b2n false = 0 := rfl

theorem leBytes_length (n v : Nat) : (leBytes n v).length = n := by
  induction n generalizing v with
  | zero => rfl
  | succ n ih => rw [leBytes, List.length_cons, ih]

/-- The bytes of a value give its low bytes back. -/
theorem ofLeBytes_leBytes (n v : Nat) : ofLeBytes (leBytes n v) = v % 256 ^ n := by
  induction n generalizing v with
  | zero => rw [leBytes, ofLeBytes, Nat.pow_zero, Nat.mod_one]
  | succ n ih =>
    have e : (256 : Nat) ^ (n + 1) = 256 * 256 ^ n := by rw [Nat.pow_succ, Nat.mul_comm]
    rw [leBytes, ofLeBytes, ih, BitVec.toNat_ofNat, e, Nat.mod_mul]

theorem ofLeBytes_lt (bs : List (BitVec 8)) : ofLeBytes bs < 256 ^ bs.length := by
  induction bs with
  | nil => exact Nat.one_pos
  | cons b bs ih =>
    have hb := b.isLt
    rw [ofLeBytes, List.length_cons, Nat.pow_succ]
    omega

theorem bitOf_testBit (v n : Nat) : bitOf v n = v.testBit n := by
  rw [Nat.testBit_eq_decide_div_mod_eq, bitOf]
  rfl

/-- One bit put into a number. -/
theorem bitOf_putBits (v d k : Nat) (b : Bool) : bitOf (putBits v d d (b2n b)) k = if k = d then b else bitOf v k := by
  rw [bitOf_eq, bitOf_eq]
  split
  · rename_i h
    rw [h, bitsOf_putBits_same _ _ (Nat.le_succ d), Nat.add_sub_cancel_left]
    cases b <;> rfl
  · rename_i h
    rcases Nat.lt_or_gt_of_ne h with h | h
    · rw [bitsOf_putBits_below _ _ (Nat.le_succ d) h]
    · rw [bitsOf_putBits_above _ _ (Nat.le_succ d) h]

theorem bitOf_mod (v : Nat) {n k : Nat} (h : k < n) : bitOf (v % 2 ^ n) k = bitOf v k := by
  rw [bitOf_eq, bitOf_eq, bitsOf_mod v h]

theorem bitOf_or_pow (v d k : Nat) : bitOf (v ||| 2 ^ d) k = (k == d || bitOf v k) := by
  simp only [bitOf_testBit, Nat.testBit_or, Nat.testBit_two_pow]
  by_cases h : d = k
  · subst h; simp
  · have h' : ¬ k = d := fun e => h e.symm
    have e1 : (k == d) = false := by simpa using h'
    simp [h, e1]

end Sys2Proof.Machine
end

