-- ==== Sys2Proof/Laws/Sparse.lean ====
section
/-! SUPPORT. Laws of sparse maps: reading after writing, and the canonical form kept by every operation. -/

namespace Sys2Proof.Machine

section Reads
variable {α : Type} (d : Nat → α)

theorem smapGet_erase_same (m : List (Nat × α)) (k : Nat) : smapGet d (smapErase m k) k = d k := by
  induction m with
  | nil => rfl
  | cons e m ih =>
    by_cases h : e.1 = k
    · simpa [smapErase, h] using ih
    · simpa [smapErase, h, smapGet] using ih

theorem smapGet_erase_ne (m : List (Nat × α)) {k j : Nat} (h : j ≠ k) :
    smapGet d (smapErase m k) j = smapGet d m j := by
  induction m with
  | nil => rfl
  | cons e m ih =>
    unfold smapErase
    split
    · rename_i hk
      have hj : e.1 ≠ j := fun hj => h (hj.symm.trans hk)
      rw [ih, smapGet, if_neg hj]
    · rw [smapGet, smapGet, ih]

theorem smapGet_insert_same (m : List (Nat × α)) (k : Nat) (v : α) : smapGet d (smapInsert m k v) k = v := by
  induction m with
  | nil => simp [smapInsert, smapGet]
  | cons e m ih =>
    unfold smapInsert
    split
    · simp [smapGet]
    · split
      · simp [smapGet]
      · rename_i h1 h2
        have : e.1 ≠ k := fun h => h2 h.symm
        simp [smapGet, this, ih]

theorem smapGet_insert_ne (m : List (Nat × α)) {k j : Nat} (v : α) (h : j ≠ k) :
    smapGet d (smapInsert m k v) j = smapGet d m j := by
  have hk : k ≠ j := fun e => h e.symm
  induction m with
  | nil => simp [smapInsert, smapGet, hk]
  | cons e m ih =>
    unfold smapInsert
    split
    · simp [smapGet, hk]
    · split
      · rename_i h2
        have : e.1 ≠ j := fun e2 => hk (h2.trans e2)
        simp [smapGet, hk, this]
      · by_cases hj : e.1 = j <;> simp [smapGet, hj, ih]

variable [DecidableEq α]

/-- A key reads the value written to it. -/
@[simp] theorem smapGet_set_same (m : List (Nat × α)) (k : Nat) (v : α) : smapGet d (smapSet d m k v) k = v := by
  unfold smapSet
  split
  · rename_i h
    rw [smapGet_erase_same, h]
  · exact smapGet_insert_same d m k v

/-- A write leaves every other key alone. -/
theorem smapGet_set_ne (m : List (Nat × α)) {k j : Nat} (v : α) (h : j ≠ k) :
    smapGet d (smapSet d m k v) j = smapGet d m j := by
  unfold smapSet
  split
  · exact smapGet_erase_ne d m h
  · exact smapGet_insert_ne d m v h

theorem smapGet_set (m : List (Nat × α)) (k j : Nat) (v : α) :
    smapGet d (smapSet d m k v) j = if j = k then v else smapGet d m j := by
  split
  · rename_i h
    rw [h, smapGet_set_same]
  · rename_i h
    exact smapGet_set_ne d m v h

end Reads

/-! The canonical form. -/

section Form
variable {α : Type}

/-- Every key of a map lies above a bound. -/
def smapAbove (lo : Nat) (m : List (Nat × α)) : Prop := ∀ e ∈ m, lo < e.1

theorem smapSorted_cons (e : Nat × α) (m : List (Nat × α)) :
    smapSorted (e :: m) = true ↔ smapAbove e.1 m ∧ smapSorted m = true := by
  induction m generalizing e with
  | nil => simp [smapSorted, smapAbove]
  | cons f m ih =>
    simp only [smapSorted, Bool.and_eq_true, decide_eq_true_eq]
    constructor
    · rintro ⟨h1, h2⟩
      refine ⟨?_, h2⟩
      intro x hx
      rcases List.mem_cons.mp hx with rfl | hx
      · exact h1
      · exact Nat.lt_trans h1 ((ih f).mp h2 |>.1 x hx)
    · rintro ⟨h1, h2⟩
      exact ⟨h1 f (List.mem_cons_self ..), h2⟩

theorem smapSorted_filter (p : Nat × α → Bool) (m : List (Nat × α)) (h : smapSorted m = true) :
    smapSorted (m.filter p) = true := by
  induction m with
  | nil => rfl
  | cons e m ih =>
    have he := (smapSorted_cons e m).mp h
    rw [List.filter_cons]
    split
    · exact (smapSorted_cons _ _).mpr ⟨fun x hx => he.1 x ((List.mem_filter.mp hx).1), ih he.2⟩
    · exact ih he.2

theorem smapErase_eq_filter (m : List (Nat × α)) (k : Nat) : smapErase m k = m.filter (fun e => e.1 != k) := by
  induction m with
  | nil => rfl
  | cons e m ih => by_cases h : e.1 = k <;> simp [smapErase, h, ih]

theorem mem_smapInsert (m : List (Nat × α)) (k : Nat) (v : α) (x : Nat × α) (hx : x ∈ smapInsert m k v) :
    x = (k, v) ∨ x ∈ m := by
  induction m with
  | nil => simpa [smapInsert] using hx
  | cons e m ih =>
    unfold smapInsert at hx
    split at hx
    · simpa using hx
    · split at hx
      · rcases List.mem_cons.mp hx with h | h
        · exact .inl h
        · exact .inr (List.mem_cons_of_mem _ h)
      · rcases List.mem_cons.mp hx with h | h
        · exact .inr (h ▸ List.mem_cons_self ..)
        · rcases ih h with h | h
          · exact .inl h
          · exact .inr (List.mem_cons_of_mem _ h)

theorem smapSorted_insert (m : List (Nat × α)) (k : Nat) (v : α) (h : smapSorted m = true) :
    smapSorted (smapInsert m k v) = true := by
  induction m with
  | nil => rfl
  | cons e m ih =>
    have he := (smapSorted_cons e m).mp h
    unfold smapInsert
    split
    · rename_i hk
      refine (smapSorted_cons _ _).mpr ⟨?_, h⟩
      intro x hx
      rcases List.mem_cons.mp hx with rfl | hx
      · exact hk
      · exact Nat.lt_trans hk (he.1 x hx)
    · split
      · rename_i hk
        exact (smapSorted_cons _ _).mpr ⟨fun x hx => hk ▸ he.1 x hx, he.2⟩
      · rename_i h1 h2
        refine (smapSorted_cons _ _).mpr ⟨?_, ih he.2⟩
        intro x hx
        rcases mem_smapInsert m k v x hx with rfl | hx
        · exact Nat.lt_of_le_of_ne (Nat.le_of_not_lt h1) (fun e2 => h2 e2.symm)
        · exact he.1 x hx

variable [DecidableEq α] (d : Nat → α)

theorem smapWf_iff (m : List (Nat × α)) :
    smapWf d m = true ↔ smapSorted m = true ∧ ∀ e ∈ m, e.2 ≠ d e.1 := by
  simp [smapWf, List.all_eq_true]

/-- A write keeps the canonical form. -/
theorem smapSet_wf (m : List (Nat × α)) (k : Nat) (v : α) (h : smapWf d m = true) : smapWf d (smapSet d m k v) = true := by
  obtain ⟨hs, hd⟩ := (smapWf_iff d m).mp h
  refine (smapWf_iff d _).mpr ?_
  unfold smapSet
  split
  · rw [smapErase_eq_filter]
    exact ⟨smapSorted_filter _ m hs, fun e he => hd e ((List.mem_filter.mp he).1)⟩
  · rename_i hv
    refine ⟨smapSorted_insert m k v hs, fun e he => ?_⟩
    rcases mem_smapInsert m k v e he with rfl | he
    · exact hv
    · exact hd e he

theorem smapSetAll_wf (es m : List (Nat × α)) (h : smapWf d m = true) : smapWf d (smapSetAll d m es) = true := by
  induction es generalizing m with
  | nil => exact h
  | cons e es ih => exact ih _ (smapSet_wf d m e.1 e.2 h)

/-- Removing entries keeps the canonical form. -/
theorem smapFilter_wf (p : Nat × α → Bool) (m : List (Nat × α)) (h : smapWf d m = true) :
    smapWf d (m.filter p) = true := by
  obtain ⟨hs, hd⟩ := (smapWf_iff d m).mp h
  exact (smapWf_iff d _).mpr ⟨smapSorted_filter p m hs, fun e he => hd e ((List.mem_filter.mp he).1)⟩

theorem smapDrop_wf (m : List (Nat × α)) (lo hi : Nat) (h : smapWf d m = true) : smapWf d (smapDrop m lo hi) = true :=
  smapFilter_wf d _ m h

theorem smapCopy_wf (m : List (Nat × α)) (src dst n : Nat) (h : smapWf d m = true) :
    smapWf d (smapCopy d m src dst n) = true :=
  smapSetAll_wf d _ _ (smapDrop_wf d m dst (dst + n) h)

theorem smapSorted_append (a b : List (Nat × α)) (ha : smapSorted a = true) (hb : smapSorted b = true)
    (h : ∀ x ∈ a, ∀ y ∈ b, x.1 < y.1) : smapSorted (a ++ b) = true := by
  induction a with
  | nil => exact hb
  | cons e a ih =>
    have he := (smapSorted_cons e a).mp ha
    refine (smapSorted_cons _ _).mpr ⟨?_, ih he.2 (fun x hx => h x (List.mem_cons_of_mem _ hx))⟩
    intro x hx
    rcases List.mem_append.mp hx with hx | hx
    · exact he.1 x hx
    · exact h e (List.mem_cons_self ..) x hx

theorem smapRun_spec (vs : List α) (k : Nat) :
    smapSorted (smapRun d k vs) = true ∧
      ∀ e ∈ smapRun d k vs, k ≤ e.1 ∧ e.1 < k + vs.length ∧ e.2 ≠ d e.1 := by
  induction vs generalizing k with
  | nil => exact ⟨rfl, by simp [smapRun]⟩
  | cons v vs ih =>
    obtain ⟨hs, hm⟩ := ih (k + 1)
    unfold smapRun
    split
    · refine ⟨hs, fun e he => ?_⟩
      obtain ⟨h1, h2, h3⟩ := hm e he
      exact ⟨by omega, by simp only [List.length_cons]; omega, h3⟩
    · rename_i hv
      refine ⟨(smapSorted_cons _ _).mpr ⟨fun x hx => ?_, hs⟩, fun e he => ?_⟩
      · have := hm x hx
        simp only
        omega
      · rcases List.mem_cons.mp he with rfl | he
        · simp only [List.length_cons]
          exact ⟨Nat.le_refl _, by omega, hv⟩
        · obtain ⟨h1, h2, h3⟩ := hm e he
          exact ⟨by omega, by simp only [List.length_cons]; omega, h3⟩

/-- Filling consecutive keys keeps the canonical form. -/
theorem smapFill_wf (m : List (Nat × α)) (k : Nat) (vs : List α) (h : smapWf d m = true) :
    smapWf d (smapFill d m k vs) = true := by
  obtain ⟨hs, hd⟩ := (smapWf_iff d m).mp h
  obtain ⟨rs, rm⟩ := smapRun_spec d vs k
  refine (smapWf_iff d _).mpr ⟨?_, ?_⟩
  · unfold smapFill
    refine smapSorted_append _ _ (smapSorted_append _ _ (smapSorted_filter _ m hs) rs ?_) (smapSorted_filter _ m hs) ?_
    · intro x hx y hy
      have h1 := (List.mem_filter.mp hx).2
      have h2 := rm y hy
      simp only [decide_eq_true_eq] at h1
      omega
    · intro x hx y hy
      have h2 := (List.mem_filter.mp hy).2
      simp only [decide_eq_true_eq] at h2
      rcases List.mem_append.mp hx with hx | hx
      · have h1 := (List.mem_filter.mp hx).2
        simp only [decide_eq_true_eq] at h1
        omega
      · have h1 := rm x hx
        omega
  · intro e he
    unfold smapFill at he
    rcases List.mem_append.mp he with he | he
    · rcases List.mem_append.mp he with he | he
      · exact hd e ((List.mem_filter.mp he).1)
      · exact (rm e he).2.2
    · exact hd e ((List.mem_filter.mp he).1)

end Form

end Sys2Proof.Machine
end

