-- ==== Sys2Proof/Laws/State.lean ====
section
/-! SUPPORT. Every field of the state after each plain update of it, so that no later proof unfolds a record update. -/

namespace Sys2Proof.Machine

variable (s : State)

/-! setReg changes regs alone. -/

@[simp] theorem State.setReg_pending (off : Nat) (v : Word) : (s.setReg off v).pending = s.pending := (rfl)
@[simp] theorem State.setReg_now (off : Nat) (v : Word) : (s.setReg off v).now = s.now := (rfl)
@[simp] theorem State.setReg_free (off : Nat) (v : Word) : (s.setReg off v).free = s.free := (rfl)
@[simp] theorem State.setReg_mem (off : Nat) (v : Word) : (s.setReg off v).mem = s.mem := (rfl)
@[simp] theorem State.setReg_memBad (off : Nat) (v : Word) : (s.setReg off v).memBad = s.memBad := (rfl)
@[simp] theorem State.setReg_cal (off : Nat) (v : Word) : (s.setReg off v).cal = s.cal := (rfl)
@[simp] theorem State.setReg_calSet (off : Nat) (v : Word) : (s.setReg off v).calSet = s.calSet := (rfl)
@[simp] theorem State.setReg_boot (off : Nat) (v : Word) : (s.setReg off v).boot = s.boot := (rfl)
@[simp] theorem State.setReg_fabric (off : Nat) (v : Word) : (s.setReg off v).fabric = s.fabric := (rfl)
@[simp] theorem State.setReg_active (off : Nat) (v : Word) : (s.setReg off v).active = s.active := (rfl)
@[simp] theorem State.setReg_gleaner (off : Nat) (v : Word) : (s.setReg off v).gleaner = s.gleaner := (rfl)
@[simp] theorem State.setReg_host (off : Nat) (v : Word) : (s.setReg off v).host = s.host := (rfl)
@[simp] theorem State.setReg_queues (off : Nat) (v : Word) : (s.setReg off v).queues = s.queues := (rfl)
@[simp] theorem State.setReg_requests (off : Nat) (v : Word) : (s.setReg off v).requests = s.requests := (rfl)
@[simp] theorem State.setReg_pass (off : Nat) (v : Word) : (s.setReg off v).pass = s.pass := (rfl)
@[simp] theorem State.setReg_points (off : Nat) (v : Word) : (s.setReg off v).points = s.points := (rfl)
@[simp] theorem State.setReg_survey (off : Nat) (v : Word) : (s.setReg off v).survey = s.survey := (rfl)
@[simp] theorem State.setReg_lanes (off : Nat) (v : Word) : (s.setReg off v).lanes = s.lanes := (rfl)
@[simp] theorem State.setReg_testErrs (off : Nat) (v : Word) : (s.setReg off v).testErrs = s.testErrs := (rfl)
@[simp] theorem State.setReg_camp (off : Nat) (v : Word) : (s.setReg off v).camp = s.camp := (rfl)
@[simp] theorem State.setReg_bus (off : Nat) (v : Word) : (s.setReg off v).bus = s.bus := (rfl)
@[simp] theorem State.setReg_busAges (off : Nat) (v : Word) : (s.setReg off v).busAges = s.busAges := (rfl)
@[simp] theorem State.setReg_meter (off : Nat) (v : Word) : (s.setReg off v).meter = s.meter := (rfl)
@[simp] theorem State.setReg_field (off : Nat) (v : Word) : (s.setReg off v).field = s.field := (rfl)
@[simp] theorem State.setReg_stations (off : Nat) (v : Word) : (s.setReg off v).stations = s.stations := (rfl)
@[simp] theorem State.setReg_keys (off : Nat) (v : Word) : (s.setReg off v).keys = s.keys := (rfl)
@[simp] theorem State.setReg_jtag (off : Nat) (v : Word) : (s.setReg off v).jtag = s.jtag := (rfl)
@[simp] theorem State.setReg_outputs (off : Nat) (v : Word) : (s.setReg off v).outputs = s.outputs := (rfl)
@[simp] theorem State.setReg_loops (off : Nat) (v : Word) : (s.setReg off v).loops = s.loops := (rfl)
@[simp] theorem State.setReg_pair (off : Nat) (v : Word) : (s.setReg off v).pair = s.pair := (rfl)
@[simp] theorem State.setReg_outbox (off : Nat) (v : Word) : (s.setReg off v).outbox = s.outbox := (rfl)
@[simp] theorem State.setReg_byte (off : Nat) (v : Word) (k : Nat) : (s.setReg off v).byte k = s.byte k := (rfl)

/-! wr changes regs alone. -/

@[simp] theorem State.wr_pending (f : Fld) (v : Nat) : (s.wr f v).pending = s.pending := (rfl)
@[simp] theorem State.wr_now (f : Fld) (v : Nat) : (s.wr f v).now = s.now := (rfl)
@[simp] theorem State.wr_free (f : Fld) (v : Nat) : (s.wr f v).free = s.free := (rfl)
@[simp] theorem State.wr_mem (f : Fld) (v : Nat) : (s.wr f v).mem = s.mem := (rfl)
@[simp] theorem State.wr_memBad (f : Fld) (v : Nat) : (s.wr f v).memBad = s.memBad := (rfl)
@[simp] theorem State.wr_cal (f : Fld) (v : Nat) : (s.wr f v).cal = s.cal := (rfl)
@[simp] theorem State.wr_calSet (f : Fld) (v : Nat) : (s.wr f v).calSet = s.calSet := (rfl)
@[simp] theorem State.wr_boot (f : Fld) (v : Nat) : (s.wr f v).boot = s.boot := (rfl)
@[simp] theorem State.wr_fabric (f : Fld) (v : Nat) : (s.wr f v).fabric = s.fabric := (rfl)
@[simp] theorem State.wr_active (f : Fld) (v : Nat) : (s.wr f v).active = s.active := (rfl)
@[simp] theorem State.wr_gleaner (f : Fld) (v : Nat) : (s.wr f v).gleaner = s.gleaner := (rfl)
@[simp] theorem State.wr_host (f : Fld) (v : Nat) : (s.wr f v).host = s.host := (rfl)
@[simp] theorem State.wr_queues (f : Fld) (v : Nat) : (s.wr f v).queues = s.queues := (rfl)
@[simp] theorem State.wr_requests (f : Fld) (v : Nat) : (s.wr f v).requests = s.requests := (rfl)
@[simp] theorem State.wr_pass (f : Fld) (v : Nat) : (s.wr f v).pass = s.pass := (rfl)
@[simp] theorem State.wr_points (f : Fld) (v : Nat) : (s.wr f v).points = s.points := (rfl)
@[simp] theorem State.wr_survey (f : Fld) (v : Nat) : (s.wr f v).survey = s.survey := (rfl)
@[simp] theorem State.wr_lanes (f : Fld) (v : Nat) : (s.wr f v).lanes = s.lanes := (rfl)
@[simp] theorem State.wr_testErrs (f : Fld) (v : Nat) : (s.wr f v).testErrs = s.testErrs := (rfl)
@[simp] theorem State.wr_camp (f : Fld) (v : Nat) : (s.wr f v).camp = s.camp := (rfl)
@[simp] theorem State.wr_bus (f : Fld) (v : Nat) : (s.wr f v).bus = s.bus := (rfl)
@[simp] theorem State.wr_busAges (f : Fld) (v : Nat) : (s.wr f v).busAges = s.busAges := (rfl)
@[simp] theorem State.wr_meter (f : Fld) (v : Nat) : (s.wr f v).meter = s.meter := (rfl)
@[simp] theorem State.wr_field (f : Fld) (v : Nat) : (s.wr f v).field = s.field := (rfl)
@[simp] theorem State.wr_stations (f : Fld) (v : Nat) : (s.wr f v).stations = s.stations := (rfl)
@[simp] theorem State.wr_keys (f : Fld) (v : Nat) : (s.wr f v).keys = s.keys := (rfl)
@[simp] theorem State.wr_jtag (f : Fld) (v : Nat) : (s.wr f v).jtag = s.jtag := (rfl)
@[simp] theorem State.wr_outputs (f : Fld) (v : Nat) : (s.wr f v).outputs = s.outputs := (rfl)
@[simp] theorem State.wr_loops (f : Fld) (v : Nat) : (s.wr f v).loops = s.loops := (rfl)
@[simp] theorem State.wr_pair (f : Fld) (v : Nat) : (s.wr f v).pair = s.pair := (rfl)
@[simp] theorem State.wr_outbox (f : Fld) (v : Nat) : (s.wr f v).outbox = s.outbox := (rfl)
@[simp] theorem State.wr_byte (f : Fld) (v : Nat) (k : Nat) : (s.wr f v).byte k = s.byte k := (rfl)

/-! bump changes regs alone. -/

@[simp] theorem State.bump_pending (f : Fld) (k : Nat) : (s.bump f k).pending = s.pending := (rfl)
@[simp] theorem State.bump_now (f : Fld) (k : Nat) : (s.bump f k).now = s.now := (rfl)
@[simp] theorem State.bump_free (f : Fld) (k : Nat) : (s.bump f k).free = s.free := (rfl)
@[simp] theorem State.bump_mem (f : Fld) (k : Nat) : (s.bump f k).mem = s.mem := (rfl)
@[simp] theorem State.bump_memBad (f : Fld) (k : Nat) : (s.bump f k).memBad = s.memBad := (rfl)
@[simp] theorem State.bump_cal (f : Fld) (k : Nat) : (s.bump f k).cal = s.cal := (rfl)
@[simp] theorem State.bump_calSet (f : Fld) (k : Nat) : (s.bump f k).calSet = s.calSet := (rfl)
@[simp] theorem State.bump_boot (f : Fld) (k : Nat) : (s.bump f k).boot = s.boot := (rfl)
@[simp] theorem State.bump_fabric (f : Fld) (k : Nat) : (s.bump f k).fabric = s.fabric := (rfl)
@[simp] theorem State.bump_active (f : Fld) (k : Nat) : (s.bump f k).active = s.active := (rfl)
@[simp] theorem State.bump_gleaner (f : Fld) (k : Nat) : (s.bump f k).gleaner = s.gleaner := (rfl)
@[simp] theorem State.bump_host (f : Fld) (k : Nat) : (s.bump f k).host = s.host := (rfl)
@[simp] theorem State.bump_queues (f : Fld) (k : Nat) : (s.bump f k).queues = s.queues := (rfl)
@[simp] theorem State.bump_requests (f : Fld) (k : Nat) : (s.bump f k).requests = s.requests := (rfl)
@[simp] theorem State.bump_pass (f : Fld) (k : Nat) : (s.bump f k).pass = s.pass := (rfl)
@[simp] theorem State.bump_points (f : Fld) (k : Nat) : (s.bump f k).points = s.points := (rfl)
@[simp] theorem State.bump_survey (f : Fld) (k : Nat) : (s.bump f k).survey = s.survey := (rfl)
@[simp] theorem State.bump_lanes (f : Fld) (k : Nat) : (s.bump f k).lanes = s.lanes := (rfl)
@[simp] theorem State.bump_testErrs (f : Fld) (k : Nat) : (s.bump f k).testErrs = s.testErrs := (rfl)
@[simp] theorem State.bump_camp (f : Fld) (k : Nat) : (s.bump f k).camp = s.camp := (rfl)
@[simp] theorem State.bump_bus (f : Fld) (k : Nat) : (s.bump f k).bus = s.bus := (rfl)
@[simp] theorem State.bump_busAges (f : Fld) (k : Nat) : (s.bump f k).busAges = s.busAges := (rfl)
@[simp] theorem State.bump_meter (f : Fld) (k : Nat) : (s.bump f k).meter = s.meter := (rfl)
@[simp] theorem State.bump_field (f : Fld) (k : Nat) : (s.bump f k).field = s.field := (rfl)
@[simp] theorem State.bump_stations (f : Fld) (k : Nat) : (s.bump f k).stations = s.stations := (rfl)
@[simp] theorem State.bump_keys (f : Fld) (k : Nat) : (s.bump f k).keys = s.keys := (rfl)
@[simp] theorem State.bump_jtag (f : Fld) (k : Nat) : (s.bump f k).jtag = s.jtag := (rfl)
@[simp] theorem State.bump_outputs (f : Fld) (k : Nat) : (s.bump f k).outputs = s.outputs := (rfl)
@[simp] theorem State.bump_loops (f : Fld) (k : Nat) : (s.bump f k).loops = s.loops := (rfl)
@[simp] theorem State.bump_pair (f : Fld) (k : Nat) : (s.bump f k).pair = s.pair := (rfl)
@[simp] theorem State.bump_outbox (f : Fld) (k : Nat) : (s.bump f k).outbox = s.outbox := (rfl)
@[simp] theorem State.bump_byte (f : Fld) (k : Nat) (k : Nat) : (s.bump f k).byte k = s.byte k := (rfl)

/-! raise changes regs alone. -/

@[simp] theorem State.raise_pending (f : Fld) (v : Nat) : (s.raise f v).pending = s.pending := (rfl)
@[simp] theorem State.raise_now (f : Fld) (v : Nat) : (s.raise f v).now = s.now := (rfl)
@[simp] theorem State.raise_free (f : Fld) (v : Nat) : (s.raise f v).free = s.free := (rfl)
@[simp] theorem State.raise_mem (f : Fld) (v : Nat) : (s.raise f v).mem = s.mem := (rfl)
@[simp] theorem State.raise_memBad (f : Fld) (v : Nat) : (s.raise f v).memBad = s.memBad := (rfl)
@[simp] theorem State.raise_cal (f : Fld) (v : Nat) : (s.raise f v).cal = s.cal := (rfl)
@[simp] theorem State.raise_calSet (f : Fld) (v : Nat) : (s.raise f v).calSet = s.calSet := (rfl)
@[simp] theorem State.raise_boot (f : Fld) (v : Nat) : (s.raise f v).boot = s.boot := (rfl)
@[simp] theorem State.raise_fabric (f : Fld) (v : Nat) : (s.raise f v).fabric = s.fabric := (rfl)
@[simp] theorem State.raise_active (f : Fld) (v : Nat) : (s.raise f v).active = s.active := (rfl)
@[simp] theorem State.raise_gleaner (f : Fld) (v : Nat) : (s.raise f v).gleaner = s.gleaner := (rfl)
@[simp] theorem State.raise_host (f : Fld) (v : Nat) : (s.raise f v).host = s.host := (rfl)
@[simp] theorem State.raise_queues (f : Fld) (v : Nat) : (s.raise f v).queues = s.queues := (rfl)
@[simp] theorem State.raise_requests (f : Fld) (v : Nat) : (s.raise f v).requests = s.requests := (rfl)
@[simp] theorem State.raise_pass (f : Fld) (v : Nat) : (s.raise f v).pass = s.pass := (rfl)
@[simp] theorem State.raise_points (f : Fld) (v : Nat) : (s.raise f v).points = s.points := (rfl)
@[simp] theorem State.raise_survey (f : Fld) (v : Nat) : (s.raise f v).survey = s.survey := (rfl)
@[simp] theorem State.raise_lanes (f : Fld) (v : Nat) : (s.raise f v).lanes = s.lanes := (rfl)
@[simp] theorem State.raise_testErrs (f : Fld) (v : Nat) : (s.raise f v).testErrs = s.testErrs := (rfl)
@[simp] theorem State.raise_camp (f : Fld) (v : Nat) : (s.raise f v).camp = s.camp := (rfl)
@[simp] theorem State.raise_bus (f : Fld) (v : Nat) : (s.raise f v).bus = s.bus := (rfl)
@[simp] theorem State.raise_busAges (f : Fld) (v : Nat) : (s.raise f v).busAges = s.busAges := (rfl)
@[simp] theorem State.raise_meter (f : Fld) (v : Nat) : (s.raise f v).meter = s.meter := (rfl)
@[simp] theorem State.raise_field (f : Fld) (v : Nat) : (s.raise f v).field = s.field := (rfl)
@[simp] theorem State.raise_stations (f : Fld) (v : Nat) : (s.raise f v).stations = s.stations := (rfl)
@[simp] theorem State.raise_keys (f : Fld) (v : Nat) : (s.raise f v).keys = s.keys := (rfl)
@[simp] theorem State.raise_jtag (f : Fld) (v : Nat) : (s.raise f v).jtag = s.jtag := (rfl)
@[simp] theorem State.raise_outputs (f : Fld) (v : Nat) : (s.raise f v).outputs = s.outputs := (rfl)
@[simp] theorem State.raise_loops (f : Fld) (v : Nat) : (s.raise f v).loops = s.loops := (rfl)
@[simp] theorem State.raise_pair (f : Fld) (v : Nat) : (s.raise f v).pair = s.pair := (rfl)
@[simp] theorem State.raise_outbox (f : Fld) (v : Nat) : (s.raise f v).outbox = s.outbox := (rfl)
@[simp] theorem State.raise_byte (f : Fld) (v : Nat) (k : Nat) : (s.raise f v).byte k = s.byte k := (rfl)

/-! wr64 changes regs alone. -/

@[simp] theorem State.wr64_pending (lo hi v : Nat) : (s.wr64 lo hi v).pending = s.pending := (rfl)
@[simp] theorem State.wr64_now (lo hi v : Nat) : (s.wr64 lo hi v).now = s.now := (rfl)
@[simp] theorem State.wr64_free (lo hi v : Nat) : (s.wr64 lo hi v).free = s.free := (rfl)
@[simp] theorem State.wr64_mem (lo hi v : Nat) : (s.wr64 lo hi v).mem = s.mem := (rfl)
@[simp] theorem State.wr64_memBad (lo hi v : Nat) : (s.wr64 lo hi v).memBad = s.memBad := (rfl)
@[simp] theorem State.wr64_cal (lo hi v : Nat) : (s.wr64 lo hi v).cal = s.cal := (rfl)
@[simp] theorem State.wr64_calSet (lo hi v : Nat) : (s.wr64 lo hi v).calSet = s.calSet := (rfl)
@[simp] theorem State.wr64_boot (lo hi v : Nat) : (s.wr64 lo hi v).boot = s.boot := (rfl)
@[simp] theorem State.wr64_fabric (lo hi v : Nat) : (s.wr64 lo hi v).fabric = s.fabric := (rfl)
@[simp] theorem State.wr64_active (lo hi v : Nat) : (s.wr64 lo hi v).active = s.active := (rfl)
@[simp] theorem State.wr64_gleaner (lo hi v : Nat) : (s.wr64 lo hi v).gleaner = s.gleaner := (rfl)
@[simp] theorem State.wr64_host (lo hi v : Nat) : (s.wr64 lo hi v).host = s.host := (rfl)
@[simp] theorem State.wr64_queues (lo hi v : Nat) : (s.wr64 lo hi v).queues = s.queues := (rfl)
@[simp] theorem State.wr64_requests (lo hi v : Nat) : (s.wr64 lo hi v).requests = s.requests := (rfl)
@[simp] theorem State.wr64_pass (lo hi v : Nat) : (s.wr64 lo hi v).pass = s.pass := (rfl)
@[simp] theorem State.wr64_points (lo hi v : Nat) : (s.wr64 lo hi v).points = s.points := (rfl)
@[simp] theorem State.wr64_survey (lo hi v : Nat) : (s.wr64 lo hi v).survey = s.survey := (rfl)
@[simp] theorem State.wr64_lanes (lo hi v : Nat) : (s.wr64 lo hi v).lanes = s.lanes := (rfl)
@[simp] theorem State.wr64_testErrs (lo hi v : Nat) : (s.wr64 lo hi v).testErrs = s.testErrs := (rfl)
@[simp] theorem State.wr64_camp (lo hi v : Nat) : (s.wr64 lo hi v).camp = s.camp := (rfl)
@[simp] theorem State.wr64_bus (lo hi v : Nat) : (s.wr64 lo hi v).bus = s.bus := (rfl)
@[simp] theorem State.wr64_busAges (lo hi v : Nat) : (s.wr64 lo hi v).busAges = s.busAges := (rfl)
@[simp] theorem State.wr64_meter (lo hi v : Nat) : (s.wr64 lo hi v).meter = s.meter := (rfl)
@[simp] theorem State.wr64_field (lo hi v : Nat) : (s.wr64 lo hi v).field = s.field := (rfl)
@[simp] theorem State.wr64_stations (lo hi v : Nat) : (s.wr64 lo hi v).stations = s.stations := (rfl)
@[simp] theorem State.wr64_keys (lo hi v : Nat) : (s.wr64 lo hi v).keys = s.keys := (rfl)
@[simp] theorem State.wr64_jtag (lo hi v : Nat) : (s.wr64 lo hi v).jtag = s.jtag := (rfl)
@[simp] theorem State.wr64_outputs (lo hi v : Nat) : (s.wr64 lo hi v).outputs = s.outputs := (rfl)
@[simp] theorem State.wr64_loops (lo hi v : Nat) : (s.wr64 lo hi v).loops = s.loops := (rfl)
@[simp] theorem State.wr64_pair (lo hi v : Nat) : (s.wr64 lo hi v).pair = s.pair := (rfl)
@[simp] theorem State.wr64_outbox (lo hi v : Nat) : (s.wr64 lo hi v).outbox = s.outbox := (rfl)
@[simp] theorem State.wr64_byte (lo hi v : Nat) (k : Nat) : (s.wr64 lo hi v).byte k = s.byte k := (rfl)

/-! putByte changes mem alone. -/

@[simp] theorem State.putByte_pending (a : Nat) (v : Byte) : (s.putByte a v).pending = s.pending := (rfl)
@[simp] theorem State.putByte_now (a : Nat) (v : Byte) : (s.putByte a v).now = s.now := (rfl)
@[simp] theorem State.putByte_free (a : Nat) (v : Byte) : (s.putByte a v).free = s.free := (rfl)
@[simp] theorem State.putByte_regs (a : Nat) (v : Byte) : (s.putByte a v).regs = s.regs := (rfl)
@[simp] theorem State.putByte_memBad (a : Nat) (v : Byte) : (s.putByte a v).memBad = s.memBad := (rfl)
@[simp] theorem State.putByte_cal (a : Nat) (v : Byte) : (s.putByte a v).cal = s.cal := (rfl)
@[simp] theorem State.putByte_calSet (a : Nat) (v : Byte) : (s.putByte a v).calSet = s.calSet := (rfl)
@[simp] theorem State.putByte_boot (a : Nat) (v : Byte) : (s.putByte a v).boot = s.boot := (rfl)
@[simp] theorem State.putByte_fabric (a : Nat) (v : Byte) : (s.putByte a v).fabric = s.fabric := (rfl)
@[simp] theorem State.putByte_active (a : Nat) (v : Byte) : (s.putByte a v).active = s.active := (rfl)
@[simp] theorem State.putByte_gleaner (a : Nat) (v : Byte) : (s.putByte a v).gleaner = s.gleaner := (rfl)
@[simp] theorem State.putByte_host (a : Nat) (v : Byte) : (s.putByte a v).host = s.host := (rfl)
@[simp] theorem State.putByte_queues (a : Nat) (v : Byte) : (s.putByte a v).queues = s.queues := (rfl)
@[simp] theorem State.putByte_requests (a : Nat) (v : Byte) : (s.putByte a v).requests = s.requests := (rfl)
@[simp] theorem State.putByte_pass (a : Nat) (v : Byte) : (s.putByte a v).pass = s.pass := (rfl)
@[simp] theorem State.putByte_points (a : Nat) (v : Byte) : (s.putByte a v).points = s.points := (rfl)
@[simp] theorem State.putByte_survey (a : Nat) (v : Byte) : (s.putByte a v).survey = s.survey := (rfl)
@[simp] theorem State.putByte_lanes (a : Nat) (v : Byte) : (s.putByte a v).lanes = s.lanes := (rfl)
@[simp] theorem State.putByte_testErrs (a : Nat) (v : Byte) : (s.putByte a v).testErrs = s.testErrs := (rfl)
@[simp] theorem State.putByte_camp (a : Nat) (v : Byte) : (s.putByte a v).camp = s.camp := (rfl)
@[simp] theorem State.putByte_bus (a : Nat) (v : Byte) : (s.putByte a v).bus = s.bus := (rfl)
@[simp] theorem State.putByte_busAges (a : Nat) (v : Byte) : (s.putByte a v).busAges = s.busAges := (rfl)
@[simp] theorem State.putByte_meter (a : Nat) (v : Byte) : (s.putByte a v).meter = s.meter := (rfl)
@[simp] theorem State.putByte_field (a : Nat) (v : Byte) : (s.putByte a v).field = s.field := (rfl)
@[simp] theorem State.putByte_stations (a : Nat) (v : Byte) : (s.putByte a v).stations = s.stations := (rfl)
@[simp] theorem State.putByte_keys (a : Nat) (v : Byte) : (s.putByte a v).keys = s.keys := (rfl)
@[simp] theorem State.putByte_jtag (a : Nat) (v : Byte) : (s.putByte a v).jtag = s.jtag := (rfl)
@[simp] theorem State.putByte_outputs (a : Nat) (v : Byte) : (s.putByte a v).outputs = s.outputs := (rfl)
@[simp] theorem State.putByte_loops (a : Nat) (v : Byte) : (s.putByte a v).loops = s.loops := (rfl)
@[simp] theorem State.putByte_pair (a : Nat) (v : Byte) : (s.putByte a v).pair = s.pair := (rfl)
@[simp] theorem State.putByte_outbox (a : Nat) (v : Byte) : (s.putByte a v).outbox = s.outbox := (rfl)
@[simp] theorem State.putByte_reg (a : Nat) (v : Byte) (o : Nat) : (s.putByte a v).reg o = s.reg o := (rfl)
@[simp] theorem State.putByte_rd (a : Nat) (v : Byte) (g : Fld) : (s.putByte a v).rd g = s.rd g := (rfl)

/-! fill changes mem, and memBad as healWords does. -/

@[simp] theorem State.fill_pending (a : Nat) (bs : List Byte) : (s.fill a bs).pending = s.pending := (rfl)
@[simp] theorem State.fill_now (a : Nat) (bs : List Byte) : (s.fill a bs).now = s.now := (rfl)
@[simp] theorem State.fill_free (a : Nat) (bs : List Byte) : (s.fill a bs).free = s.free := (rfl)
@[simp] theorem State.fill_regs (a : Nat) (bs : List Byte) : (s.fill a bs).regs = s.regs := (rfl)
@[simp] theorem State.fill_memBad (a : Nat) (bs : List Byte) : (s.fill a bs).memBad = (s.healWords a bs.length).memBad := (rfl)
@[simp] theorem State.fill_cal (a : Nat) (bs : List Byte) : (s.fill a bs).cal = s.cal := (rfl)
@[simp] theorem State.fill_calSet (a : Nat) (bs : List Byte) : (s.fill a bs).calSet = s.calSet := (rfl)
@[simp] theorem State.fill_boot (a : Nat) (bs : List Byte) : (s.fill a bs).boot = s.boot := (rfl)
@[simp] theorem State.fill_fabric (a : Nat) (bs : List Byte) : (s.fill a bs).fabric = s.fabric := (rfl)
@[simp] theorem State.fill_active (a : Nat) (bs : List Byte) : (s.fill a bs).active = s.active := (rfl)
@[simp] theorem State.fill_gleaner (a : Nat) (bs : List Byte) : (s.fill a bs).gleaner = s.gleaner := (rfl)
@[simp] theorem State.fill_host (a : Nat) (bs : List Byte) : (s.fill a bs).host = s.host := (rfl)
@[simp] theorem State.fill_queues (a : Nat) (bs : List Byte) : (s.fill a bs).queues = s.queues := (rfl)
@[simp] theorem State.fill_requests (a : Nat) (bs : List Byte) : (s.fill a bs).requests = s.requests := (rfl)
@[simp] theorem State.fill_pass (a : Nat) (bs : List Byte) : (s.fill a bs).pass = s.pass := (rfl)
@[simp] theorem State.fill_points (a : Nat) (bs : List Byte) : (s.fill a bs).points = s.points := (rfl)
@[simp] theorem State.fill_survey (a : Nat) (bs : List Byte) : (s.fill a bs).survey = s.survey := (rfl)
@[simp] theorem State.fill_lanes (a : Nat) (bs : List Byte) : (s.fill a bs).lanes = s.lanes := (rfl)
@[simp] theorem State.fill_testErrs (a : Nat) (bs : List Byte) : (s.fill a bs).testErrs = s.testErrs := (rfl)
@[simp] theorem State.fill_camp (a : Nat) (bs : List Byte) : (s.fill a bs).camp = s.camp := (rfl)
@[simp] theorem State.fill_bus (a : Nat) (bs : List Byte) : (s.fill a bs).bus = s.bus := (rfl)
@[simp] theorem State.fill_busAges (a : Nat) (bs : List Byte) : (s.fill a bs).busAges = s.busAges := (rfl)
@[simp] theorem State.fill_meter (a : Nat) (bs : List Byte) : (s.fill a bs).meter = s.meter := (rfl)
@[simp] theorem State.fill_field (a : Nat) (bs : List Byte) : (s.fill a bs).field = s.field := (rfl)
@[simp] theorem State.fill_stations (a : Nat) (bs : List Byte) : (s.fill a bs).stations = s.stations := (rfl)
@[simp] theorem State.fill_keys (a : Nat) (bs : List Byte) : (s.fill a bs).keys = s.keys := (rfl)
@[simp] theorem State.fill_jtag (a : Nat) (bs : List Byte) : (s.fill a bs).jtag = s.jtag := (rfl)
@[simp] theorem State.fill_outputs (a : Nat) (bs : List Byte) : (s.fill a bs).outputs = s.outputs := (rfl)
@[simp] theorem State.fill_loops (a : Nat) (bs : List Byte) : (s.fill a bs).loops = s.loops := (rfl)
@[simp] theorem State.fill_pair (a : Nat) (bs : List Byte) : (s.fill a bs).pair = s.pair := (rfl)
@[simp] theorem State.fill_outbox (a : Nat) (bs : List Byte) : (s.fill a bs).outbox = s.outbox := (rfl)
@[simp] theorem State.fill_reg (a : Nat) (bs : List Byte) (o : Nat) : (s.fill a bs).reg o = s.reg o := (rfl)
@[simp] theorem State.fill_rd (a : Nat) (bs : List Byte) (g : Fld) : (s.fill a bs).rd g = s.rd g := (rfl)

/-! copyMem changes mem, and memBad as healWords does. -/

@[simp] theorem State.copyMem_pending (a b n : Nat) : (s.copyMem a b n).pending = s.pending := (rfl)
@[simp] theorem State.copyMem_now (a b n : Nat) : (s.copyMem a b n).now = s.now := (rfl)
@[simp] theorem State.copyMem_free (a b n : Nat) : (s.copyMem a b n).free = s.free := (rfl)
@[simp] theorem State.copyMem_regs (a b n : Nat) : (s.copyMem a b n).regs = s.regs := (rfl)
@[simp] theorem State.copyMem_memBad (a b n : Nat) : (s.copyMem a b n).memBad = (s.healWords b n).memBad := (rfl)
@[simp] theorem State.copyMem_cal (a b n : Nat) : (s.copyMem a b n).cal = s.cal := (rfl)
@[simp] theorem State.copyMem_calSet (a b n : Nat) : (s.copyMem a b n).calSet = s.calSet := (rfl)
@[simp] theorem State.copyMem_boot (a b n : Nat) : (s.copyMem a b n).boot = s.boot := (rfl)
@[simp] theorem State.copyMem_fabric (a b n : Nat) : (s.copyMem a b n).fabric = s.fabric := (rfl)
@[simp] theorem State.copyMem_active (a b n : Nat) : (s.copyMem a b n).active = s.active := (rfl)
@[simp] theorem State.copyMem_gleaner (a b n : Nat) : (s.copyMem a b n).gleaner = s.gleaner := (rfl)
@[simp] theorem State.copyMem_host (a b n : Nat) : (s.copyMem a b n).host = s.host := (rfl)
@[simp] theorem State.copyMem_queues (a b n : Nat) : (s.copyMem a b n).queues = s.queues := (rfl)
@[simp] theorem State.copyMem_requests (a b n : Nat) : (s.copyMem a b n).requests = s.requests := (rfl)
@[simp] theorem State.copyMem_pass (a b n : Nat) : (s.copyMem a b n).pass = s.pass := (rfl)
@[simp] theorem State.copyMem_points (a b n : Nat) : (s.copyMem a b n).points = s.points := (rfl)
@[simp] theorem State.copyMem_survey (a b n : Nat) : (s.copyMem a b n).survey = s.survey := (rfl)
@[simp] theorem State.copyMem_lanes (a b n : Nat) : (s.copyMem a b n).lanes = s.lanes := (rfl)
@[simp] theorem State.copyMem_testErrs (a b n : Nat) : (s.copyMem a b n).testErrs = s.testErrs := (rfl)
@[simp] theorem State.copyMem_camp (a b n : Nat) : (s.copyMem a b n).camp = s.camp := (rfl)
@[simp] theorem State.copyMem_bus (a b n : Nat) : (s.copyMem a b n).bus = s.bus := (rfl)
@[simp] theorem State.copyMem_busAges (a b n : Nat) : (s.copyMem a b n).busAges = s.busAges := (rfl)
@[simp] theorem State.copyMem_meter (a b n : Nat) : (s.copyMem a b n).meter = s.meter := (rfl)
@[simp] theorem State.copyMem_field (a b n : Nat) : (s.copyMem a b n).field = s.field := (rfl)
@[simp] theorem State.copyMem_stations (a b n : Nat) : (s.copyMem a b n).stations = s.stations := (rfl)
@[simp] theorem State.copyMem_keys (a b n : Nat) : (s.copyMem a b n).keys = s.keys := (rfl)
@[simp] theorem State.copyMem_jtag (a b n : Nat) : (s.copyMem a b n).jtag = s.jtag := (rfl)
@[simp] theorem State.copyMem_outputs (a b n : Nat) : (s.copyMem a b n).outputs = s.outputs := (rfl)
@[simp] theorem State.copyMem_loops (a b n : Nat) : (s.copyMem a b n).loops = s.loops := (rfl)
@[simp] theorem State.copyMem_pair (a b n : Nat) : (s.copyMem a b n).pair = s.pair := (rfl)
@[simp] theorem State.copyMem_outbox (a b n : Nat) : (s.copyMem a b n).outbox = s.outbox := (rfl)
@[simp] theorem State.copyMem_reg (a b n : Nat) (o : Nat) : (s.copyMem a b n).reg o = s.reg o := (rfl)
@[simp] theorem State.copyMem_rd (a b n : Nat) (g : Fld) : (s.copyMem a b n).rd g = s.rd g := (rfl)

/-! clearMem changes mem, and memBad as healWords does. -/

@[simp] theorem State.clearMem_pending (a n : Nat) : (s.clearMem a n).pending = s.pending := (rfl)
@[simp] theorem State.clearMem_now (a n : Nat) : (s.clearMem a n).now = s.now := (rfl)
@[simp] theorem State.clearMem_free (a n : Nat) : (s.clearMem a n).free = s.free := (rfl)
@[simp] theorem State.clearMem_regs (a n : Nat) : (s.clearMem a n).regs = s.regs := (rfl)
@[simp] theorem State.clearMem_memBad (a n : Nat) : (s.clearMem a n).memBad = (s.healWords a n).memBad := (rfl)
@[simp] theorem State.clearMem_cal (a n : Nat) : (s.clearMem a n).cal = s.cal := (rfl)
@[simp] theorem State.clearMem_calSet (a n : Nat) : (s.clearMem a n).calSet = s.calSet := (rfl)
@[simp] theorem State.clearMem_boot (a n : Nat) : (s.clearMem a n).boot = s.boot := (rfl)
@[simp] theorem State.clearMem_fabric (a n : Nat) : (s.clearMem a n).fabric = s.fabric := (rfl)
@[simp] theorem State.clearMem_active (a n : Nat) : (s.clearMem a n).active = s.active := (rfl)
@[simp] theorem State.clearMem_gleaner (a n : Nat) : (s.clearMem a n).gleaner = s.gleaner := (rfl)
@[simp] theorem State.clearMem_host (a n : Nat) : (s.clearMem a n).host = s.host := (rfl)
@[simp] theorem State.clearMem_queues (a n : Nat) : (s.clearMem a n).queues = s.queues := (rfl)
@[simp] theorem State.clearMem_requests (a n : Nat) : (s.clearMem a n).requests = s.requests := (rfl)
@[simp] theorem State.clearMem_pass (a n : Nat) : (s.clearMem a n).pass = s.pass := (rfl)
@[simp] theorem State.clearMem_points (a n : Nat) : (s.clearMem a n).points = s.points := (rfl)
@[simp] theorem State.clearMem_survey (a n : Nat) : (s.clearMem a n).survey = s.survey := (rfl)
@[simp] theorem State.clearMem_lanes (a n : Nat) : (s.clearMem a n).lanes = s.lanes := (rfl)
@[simp] theorem State.clearMem_testErrs (a n : Nat) : (s.clearMem a n).testErrs = s.testErrs := (rfl)
@[simp] theorem State.clearMem_camp (a n : Nat) : (s.clearMem a n).camp = s.camp := (rfl)
@[simp] theorem State.clearMem_bus (a n : Nat) : (s.clearMem a n).bus = s.bus := (rfl)
@[simp] theorem State.clearMem_busAges (a n : Nat) : (s.clearMem a n).busAges = s.busAges := (rfl)
@[simp] theorem State.clearMem_meter (a n : Nat) : (s.clearMem a n).meter = s.meter := (rfl)
@[simp] theorem State.clearMem_field (a n : Nat) : (s.clearMem a n).field = s.field := (rfl)
@[simp] theorem State.clearMem_stations (a n : Nat) : (s.clearMem a n).stations = s.stations := (rfl)
@[simp] theorem State.clearMem_keys (a n : Nat) : (s.clearMem a n).keys = s.keys := (rfl)
@[simp] theorem State.clearMem_jtag (a n : Nat) : (s.clearMem a n).jtag = s.jtag := (rfl)
@[simp] theorem State.clearMem_outputs (a n : Nat) : (s.clearMem a n).outputs = s.outputs := (rfl)
@[simp] theorem State.clearMem_loops (a n : Nat) : (s.clearMem a n).loops = s.loops := (rfl)
@[simp] theorem State.clearMem_pair (a n : Nat) : (s.clearMem a n).pair = s.pair := (rfl)
@[simp] theorem State.clearMem_outbox (a n : Nat) : (s.clearMem a n).outbox = s.outbox := (rfl)
@[simp] theorem State.clearMem_reg (a n : Nat) (o : Nat) : (s.clearMem a n).reg o = s.reg o := (rfl)
@[simp] theorem State.clearMem_rd (a n : Nat) (g : Fld) : (s.clearMem a n).rd g = s.rd g := (rfl)

/-! healWords changes memBad alone. -/

@[simp] theorem State.healWords_pending (a n : Nat) : (s.healWords a n).pending = s.pending := (rfl)
@[simp] theorem State.healWords_now (a n : Nat) : (s.healWords a n).now = s.now := (rfl)
@[simp] theorem State.healWords_free (a n : Nat) : (s.healWords a n).free = s.free := (rfl)
@[simp] theorem State.healWords_regs (a n : Nat) : (s.healWords a n).regs = s.regs := (rfl)
@[simp] theorem State.healWords_mem (a n : Nat) : (s.healWords a n).mem = s.mem := (rfl)
@[simp] theorem State.healWords_cal (a n : Nat) : (s.healWords a n).cal = s.cal := (rfl)
@[simp] theorem State.healWords_calSet (a n : Nat) : (s.healWords a n).calSet = s.calSet := (rfl)
@[simp] theorem State.healWords_boot (a n : Nat) : (s.healWords a n).boot = s.boot := (rfl)
@[simp] theorem State.healWords_fabric (a n : Nat) : (s.healWords a n).fabric = s.fabric := (rfl)
@[simp] theorem State.healWords_active (a n : Nat) : (s.healWords a n).active = s.active := (rfl)
@[simp] theorem State.healWords_gleaner (a n : Nat) : (s.healWords a n).gleaner = s.gleaner := (rfl)
@[simp] theorem State.healWords_host (a n : Nat) : (s.healWords a n).host = s.host := (rfl)
@[simp] theorem State.healWords_queues (a n : Nat) : (s.healWords a n).queues = s.queues := (rfl)
@[simp] theorem State.healWords_requests (a n : Nat) : (s.healWords a n).requests = s.requests := (rfl)
@[simp] theorem State.healWords_pass (a n : Nat) : (s.healWords a n).pass = s.pass := (rfl)
@[simp] theorem State.healWords_points (a n : Nat) : (s.healWords a n).points = s.points := (rfl)
@[simp] theorem State.healWords_survey (a n : Nat) : (s.healWords a n).survey = s.survey := (rfl)
@[simp] theorem State.healWords_lanes (a n : Nat) : (s.healWords a n).lanes = s.lanes := (rfl)
@[simp] theorem State.healWords_testErrs (a n : Nat) : (s.healWords a n).testErrs = s.testErrs := (rfl)
@[simp] theorem State.healWords_camp (a n : Nat) : (s.healWords a n).camp = s.camp := (rfl)
@[simp] theorem State.healWords_bus (a n : Nat) : (s.healWords a n).bus = s.bus := (rfl)
@[simp] theorem State.healWords_busAges (a n : Nat) : (s.healWords a n).busAges = s.busAges := (rfl)
@[simp] theorem State.healWords_meter (a n : Nat) : (s.healWords a n).meter = s.meter := (rfl)
@[simp] theorem State.healWords_field (a n : Nat) : (s.healWords a n).field = s.field := (rfl)
@[simp] theorem State.healWords_stations (a n : Nat) : (s.healWords a n).stations = s.stations := (rfl)
@[simp] theorem State.healWords_keys (a n : Nat) : (s.healWords a n).keys = s.keys := (rfl)
@[simp] theorem State.healWords_jtag (a n : Nat) : (s.healWords a n).jtag = s.jtag := (rfl)
@[simp] theorem State.healWords_outputs (a n : Nat) : (s.healWords a n).outputs = s.outputs := (rfl)
@[simp] theorem State.healWords_loops (a n : Nat) : (s.healWords a n).loops = s.loops := (rfl)
@[simp] theorem State.healWords_pair (a n : Nat) : (s.healWords a n).pair = s.pair := (rfl)
@[simp] theorem State.healWords_outbox (a n : Nat) : (s.healWords a n).outbox = s.outbox := (rfl)
@[simp] theorem State.healWords_reg (a n : Nat) (o : Nat) : (s.healWords a n).reg o = s.reg o := (rfl)
@[simp] theorem State.healWords_rd (a n : Nat) (g : Fld) : (s.healWords a n).rd g = s.rd g := (rfl)
@[simp] theorem State.healWords_byte (a n : Nat) (k : Nat) : (s.healWords a n).byte k = s.byte k := (rfl)

/-! drawn changes free alone. -/

@[simp] theorem State.drawn_pending : (s.drawn).pending = s.pending := (rfl)
@[simp] theorem State.drawn_now : (s.drawn).now = s.now := (rfl)
@[simp] theorem State.drawn_free : (s.drawn).free = s.free + 1 := (rfl)
@[simp] theorem State.drawn_regs : (s.drawn).regs = s.regs := (rfl)
@[simp] theorem State.drawn_mem : (s.drawn).mem = s.mem := (rfl)
@[simp] theorem State.drawn_memBad : (s.drawn).memBad = s.memBad := (rfl)
@[simp] theorem State.drawn_cal : (s.drawn).cal = s.cal := (rfl)
@[simp] theorem State.drawn_calSet : (s.drawn).calSet = s.calSet := (rfl)
@[simp] theorem State.drawn_boot : (s.drawn).boot = s.boot := (rfl)
@[simp] theorem State.drawn_fabric : (s.drawn).fabric = s.fabric := (rfl)
@[simp] theorem State.drawn_active : (s.drawn).active = s.active := (rfl)
@[simp] theorem State.drawn_gleaner : (s.drawn).gleaner = s.gleaner := (rfl)
@[simp] theorem State.drawn_host : (s.drawn).host = s.host := (rfl)
@[simp] theorem State.drawn_queues : (s.drawn).queues = s.queues := (rfl)
@[simp] theorem State.drawn_requests : (s.drawn).requests = s.requests := (rfl)
@[simp] theorem State.drawn_pass : (s.drawn).pass = s.pass := (rfl)
@[simp] theorem State.drawn_points : (s.drawn).points = s.points := (rfl)
@[simp] theorem State.drawn_survey : (s.drawn).survey = s.survey := (rfl)
@[simp] theorem State.drawn_lanes : (s.drawn).lanes = s.lanes := (rfl)
@[simp] theorem State.drawn_testErrs : (s.drawn).testErrs = s.testErrs := (rfl)
@[simp] theorem State.drawn_camp : (s.drawn).camp = s.camp := (rfl)
@[simp] theorem State.drawn_bus : (s.drawn).bus = s.bus := (rfl)
@[simp] theorem State.drawn_busAges : (s.drawn).busAges = s.busAges := (rfl)
@[simp] theorem State.drawn_meter : (s.drawn).meter = s.meter := (rfl)
@[simp] theorem State.drawn_field : (s.drawn).field = s.field := (rfl)
@[simp] theorem State.drawn_stations : (s.drawn).stations = s.stations := (rfl)
@[simp] theorem State.drawn_keys : (s.drawn).keys = s.keys := (rfl)
@[simp] theorem State.drawn_jtag : (s.drawn).jtag = s.jtag := (rfl)
@[simp] theorem State.drawn_outputs : (s.drawn).outputs = s.outputs := (rfl)
@[simp] theorem State.drawn_loops : (s.drawn).loops = s.loops := (rfl)
@[simp] theorem State.drawn_pair : (s.drawn).pair = s.pair := (rfl)
@[simp] theorem State.drawn_outbox : (s.drawn).outbox = s.outbox := (rfl)
@[simp] theorem State.drawn_reg (o : Nat) : (s.drawn).reg o = s.reg o := (rfl)
@[simp] theorem State.drawn_rd (g : Fld) : (s.drawn).rd g = s.rd g := (rfl)
@[simp] theorem State.drawn_byte (k : Nat) : (s.drawn).byte k = s.byte k := (rfl)

/-! send changes outbox alone. -/

@[simp] theorem State.send_pending (m : OutMsg) : (s.send m).pending = s.pending := (rfl)
@[simp] theorem State.send_now (m : OutMsg) : (s.send m).now = s.now := (rfl)
@[simp] theorem State.send_free (m : OutMsg) : (s.send m).free = s.free := (rfl)
@[simp] theorem State.send_regs (m : OutMsg) : (s.send m).regs = s.regs := (rfl)
@[simp] theorem State.send_mem (m : OutMsg) : (s.send m).mem = s.mem := (rfl)
@[simp] theorem State.send_memBad (m : OutMsg) : (s.send m).memBad = s.memBad := (rfl)
@[simp] theorem State.send_cal (m : OutMsg) : (s.send m).cal = s.cal := (rfl)
@[simp] theorem State.send_calSet (m : OutMsg) : (s.send m).calSet = s.calSet := (rfl)
@[simp] theorem State.send_boot (m : OutMsg) : (s.send m).boot = s.boot := (rfl)
@[simp] theorem State.send_fabric (m : OutMsg) : (s.send m).fabric = s.fabric := (rfl)
@[simp] theorem State.send_active (m : OutMsg) : (s.send m).active = s.active := (rfl)
@[simp] theorem State.send_gleaner (m : OutMsg) : (s.send m).gleaner = s.gleaner := (rfl)
@[simp] theorem State.send_host (m : OutMsg) : (s.send m).host = s.host := (rfl)
@[simp] theorem State.send_queues (m : OutMsg) : (s.send m).queues = s.queues := (rfl)
@[simp] theorem State.send_requests (m : OutMsg) : (s.send m).requests = s.requests := (rfl)
@[simp] theorem State.send_pass (m : OutMsg) : (s.send m).pass = s.pass := (rfl)
@[simp] theorem State.send_points (m : OutMsg) : (s.send m).points = s.points := (rfl)
@[simp] theorem State.send_survey (m : OutMsg) : (s.send m).survey = s.survey := (rfl)
@[simp] theorem State.send_lanes (m : OutMsg) : (s.send m).lanes = s.lanes := (rfl)
@[simp] theorem State.send_testErrs (m : OutMsg) : (s.send m).testErrs = s.testErrs := (rfl)
@[simp] theorem State.send_camp (m : OutMsg) : (s.send m).camp = s.camp := (rfl)
@[simp] theorem State.send_bus (m : OutMsg) : (s.send m).bus = s.bus := (rfl)
@[simp] theorem State.send_busAges (m : OutMsg) : (s.send m).busAges = s.busAges := (rfl)
@[simp] theorem State.send_meter (m : OutMsg) : (s.send m).meter = s.meter := (rfl)
@[simp] theorem State.send_field (m : OutMsg) : (s.send m).field = s.field := (rfl)
@[simp] theorem State.send_stations (m : OutMsg) : (s.send m).stations = s.stations := (rfl)
@[simp] theorem State.send_keys (m : OutMsg) : (s.send m).keys = s.keys := (rfl)
@[simp] theorem State.send_jtag (m : OutMsg) : (s.send m).jtag = s.jtag := (rfl)
@[simp] theorem State.send_outputs (m : OutMsg) : (s.send m).outputs = s.outputs := (rfl)
@[simp] theorem State.send_loops (m : OutMsg) : (s.send m).loops = s.loops := (rfl)
@[simp] theorem State.send_pair (m : OutMsg) : (s.send m).pair = s.pair := (rfl)
@[simp] theorem State.send_outbox (m : OutMsg) : (s.send m).outbox = m :: s.outbox := (rfl)
@[simp] theorem State.send_reg (m : OutMsg) (o : Nat) : (s.send m).reg o = s.reg o := (rfl)
@[simp] theorem State.send_rd (m : OutMsg) (g : Fld) : (s.send m).rd g = s.rd g := (rfl)
@[simp] theorem State.send_byte (m : OutMsg) (k : Nat) : (s.send m).byte k = s.byte k := (rfl)

/-! setPass changes pass alone. -/

@[simp] theorem State.setPass_pending (x : Pass) : (s.setPass x).pending = s.pending := (rfl)
@[simp] theorem State.setPass_now (x : Pass) : (s.setPass x).now = s.now := (rfl)
@[simp] theorem State.setPass_free (x : Pass) : (s.setPass x).free = s.free := (rfl)
@[simp] theorem State.setPass_regs (x : Pass) : (s.setPass x).regs = s.regs := (rfl)
@[simp] theorem State.setPass_mem (x : Pass) : (s.setPass x).mem = s.mem := (rfl)
@[simp] theorem State.setPass_memBad (x : Pass) : (s.setPass x).memBad = s.memBad := (rfl)
@[simp] theorem State.setPass_cal (x : Pass) : (s.setPass x).cal = s.cal := (rfl)
@[simp] theorem State.setPass_calSet (x : Pass) : (s.setPass x).calSet = s.calSet := (rfl)
@[simp] theorem State.setPass_boot (x : Pass) : (s.setPass x).boot = s.boot := (rfl)
@[simp] theorem State.setPass_fabric (x : Pass) : (s.setPass x).fabric = s.fabric := (rfl)
@[simp] theorem State.setPass_active (x : Pass) : (s.setPass x).active = s.active := (rfl)
@[simp] theorem State.setPass_gleaner (x : Pass) : (s.setPass x).gleaner = s.gleaner := (rfl)
@[simp] theorem State.setPass_host (x : Pass) : (s.setPass x).host = s.host := (rfl)
@[simp] theorem State.setPass_queues (x : Pass) : (s.setPass x).queues = s.queues := (rfl)
@[simp] theorem State.setPass_requests (x : Pass) : (s.setPass x).requests = s.requests := (rfl)
@[simp] theorem State.setPass_pass (x : Pass) : (s.setPass x).pass = x := (rfl)
@[simp] theorem State.setPass_points (x : Pass) : (s.setPass x).points = s.points := (rfl)
@[simp] theorem State.setPass_survey (x : Pass) : (s.setPass x).survey = s.survey := (rfl)
@[simp] theorem State.setPass_lanes (x : Pass) : (s.setPass x).lanes = s.lanes := (rfl)
@[simp] theorem State.setPass_testErrs (x : Pass) : (s.setPass x).testErrs = s.testErrs := (rfl)
@[simp] theorem State.setPass_camp (x : Pass) : (s.setPass x).camp = s.camp := (rfl)
@[simp] theorem State.setPass_bus (x : Pass) : (s.setPass x).bus = s.bus := (rfl)
@[simp] theorem State.setPass_busAges (x : Pass) : (s.setPass x).busAges = s.busAges := (rfl)
@[simp] theorem State.setPass_meter (x : Pass) : (s.setPass x).meter = s.meter := (rfl)
@[simp] theorem State.setPass_field (x : Pass) : (s.setPass x).field = s.field := (rfl)
@[simp] theorem State.setPass_stations (x : Pass) : (s.setPass x).stations = s.stations := (rfl)
@[simp] theorem State.setPass_keys (x : Pass) : (s.setPass x).keys = s.keys := (rfl)
@[simp] theorem State.setPass_jtag (x : Pass) : (s.setPass x).jtag = s.jtag := (rfl)
@[simp] theorem State.setPass_outputs (x : Pass) : (s.setPass x).outputs = s.outputs := (rfl)
@[simp] theorem State.setPass_loops (x : Pass) : (s.setPass x).loops = s.loops := (rfl)
@[simp] theorem State.setPass_pair (x : Pass) : (s.setPass x).pair = s.pair := (rfl)
@[simp] theorem State.setPass_outbox (x : Pass) : (s.setPass x).outbox = s.outbox := (rfl)
@[simp] theorem State.setPass_reg (x : Pass) (o : Nat) : (s.setPass x).reg o = s.reg o := (rfl)
@[simp] theorem State.setPass_rd (x : Pass) (g : Fld) : (s.setPass x).rd g = s.rd g := (rfl)
@[simp] theorem State.setPass_byte (x : Pass) (k : Nat) : (s.setPass x).byte k = s.byte k := (rfl)

/-! setBoot changes boot alone. -/

@[simp] theorem State.setBoot_pending (x : Boot) : (s.setBoot x).pending = s.pending := (rfl)
@[simp] theorem State.setBoot_now (x : Boot) : (s.setBoot x).now = s.now := (rfl)
@[simp] theorem State.setBoot_free (x : Boot) : (s.setBoot x).free = s.free := (rfl)
@[simp] theorem State.setBoot_regs (x : Boot) : (s.setBoot x).regs = s.regs := (rfl)
@[simp] theorem State.setBoot_mem (x : Boot) : (s.setBoot x).mem = s.mem := (rfl)
@[simp] theorem State.setBoot_memBad (x : Boot) : (s.setBoot x).memBad = s.memBad := (rfl)
@[simp] theorem State.setBoot_cal (x : Boot) : (s.setBoot x).cal = s.cal := (rfl)
@[simp] theorem State.setBoot_calSet (x : Boot) : (s.setBoot x).calSet = s.calSet := (rfl)
@[simp] theorem State.setBoot_boot (x : Boot) : (s.setBoot x).boot = x := (rfl)
@[simp] theorem State.setBoot_fabric (x : Boot) : (s.setBoot x).fabric = s.fabric := (rfl)
@[simp] theorem State.setBoot_active (x : Boot) : (s.setBoot x).active = s.active := (rfl)
@[simp] theorem State.setBoot_gleaner (x : Boot) : (s.setBoot x).gleaner = s.gleaner := (rfl)
@[simp] theorem State.setBoot_host (x : Boot) : (s.setBoot x).host = s.host := (rfl)
@[simp] theorem State.setBoot_queues (x : Boot) : (s.setBoot x).queues = s.queues := (rfl)
@[simp] theorem State.setBoot_requests (x : Boot) : (s.setBoot x).requests = s.requests := (rfl)
@[simp] theorem State.setBoot_pass (x : Boot) : (s.setBoot x).pass = s.pass := (rfl)
@[simp] theorem State.setBoot_points (x : Boot) : (s.setBoot x).points = s.points := (rfl)
@[simp] theorem State.setBoot_survey (x : Boot) : (s.setBoot x).survey = s.survey := (rfl)
@[simp] theorem State.setBoot_lanes (x : Boot) : (s.setBoot x).lanes = s.lanes := (rfl)
@[simp] theorem State.setBoot_testErrs (x : Boot) : (s.setBoot x).testErrs = s.testErrs := (rfl)
@[simp] theorem State.setBoot_camp (x : Boot) : (s.setBoot x).camp = s.camp := (rfl)
@[simp] theorem State.setBoot_bus (x : Boot) : (s.setBoot x).bus = s.bus := (rfl)
@[simp] theorem State.setBoot_busAges (x : Boot) : (s.setBoot x).busAges = s.busAges := (rfl)
@[simp] theorem State.setBoot_meter (x : Boot) : (s.setBoot x).meter = s.meter := (rfl)
@[simp] theorem State.setBoot_field (x : Boot) : (s.setBoot x).field = s.field := (rfl)
@[simp] theorem State.setBoot_stations (x : Boot) : (s.setBoot x).stations = s.stations := (rfl)
@[simp] theorem State.setBoot_keys (x : Boot) : (s.setBoot x).keys = s.keys := (rfl)
@[simp] theorem State.setBoot_jtag (x : Boot) : (s.setBoot x).jtag = s.jtag := (rfl)
@[simp] theorem State.setBoot_outputs (x : Boot) : (s.setBoot x).outputs = s.outputs := (rfl)
@[simp] theorem State.setBoot_loops (x : Boot) : (s.setBoot x).loops = s.loops := (rfl)
@[simp] theorem State.setBoot_pair (x : Boot) : (s.setBoot x).pair = s.pair := (rfl)
@[simp] theorem State.setBoot_outbox (x : Boot) : (s.setBoot x).outbox = s.outbox := (rfl)
@[simp] theorem State.setBoot_reg (x : Boot) (o : Nat) : (s.setBoot x).reg o = s.reg o := (rfl)
@[simp] theorem State.setBoot_rd (x : Boot) (g : Fld) : (s.setBoot x).rd g = s.rd g := (rfl)
@[simp] theorem State.setBoot_byte (x : Boot) (k : Nat) : (s.setBoot x).byte k = s.byte k := (rfl)

/-! setCamp changes camp alone. -/

@[simp] theorem State.setCamp_pending (x : Campaigns) : (s.setCamp x).pending = s.pending := (rfl)
@[simp] theorem State.setCamp_now (x : Campaigns) : (s.setCamp x).now = s.now := (rfl)
@[simp] theorem State.setCamp_free (x : Campaigns) : (s.setCamp x).free = s.free := (rfl)
@[simp] theorem State.setCamp_regs (x : Campaigns) : (s.setCamp x).regs = s.regs := (rfl)
@[simp] theorem State.setCamp_mem (x : Campaigns) : (s.setCamp x).mem = s.mem := (rfl)
@[simp] theorem State.setCamp_memBad (x : Campaigns) : (s.setCamp x).memBad = s.memBad := (rfl)
@[simp] theorem State.setCamp_cal (x : Campaigns) : (s.setCamp x).cal = s.cal := (rfl)
@[simp] theorem State.setCamp_calSet (x : Campaigns) : (s.setCamp x).calSet = s.calSet := (rfl)
@[simp] theorem State.setCamp_boot (x : Campaigns) : (s.setCamp x).boot = s.boot := (rfl)
@[simp] theorem State.setCamp_fabric (x : Campaigns) : (s.setCamp x).fabric = s.fabric := (rfl)
@[simp] theorem State.setCamp_active (x : Campaigns) : (s.setCamp x).active = s.active := (rfl)
@[simp] theorem State.setCamp_gleaner (x : Campaigns) : (s.setCamp x).gleaner = s.gleaner := (rfl)
@[simp] theorem State.setCamp_host (x : Campaigns) : (s.setCamp x).host = s.host := (rfl)
@[simp] theorem State.setCamp_queues (x : Campaigns) : (s.setCamp x).queues = s.queues := (rfl)
@[simp] theorem State.setCamp_requests (x : Campaigns) : (s.setCamp x).requests = s.requests := (rfl)
@[simp] theorem State.setCamp_pass (x : Campaigns) : (s.setCamp x).pass = s.pass := (rfl)
@[simp] theorem State.setCamp_points (x : Campaigns) : (s.setCamp x).points = s.points := (rfl)
@[simp] theorem State.setCamp_survey (x : Campaigns) : (s.setCamp x).survey = s.survey := (rfl)
@[simp] theorem State.setCamp_lanes (x : Campaigns) : (s.setCamp x).lanes = s.lanes := (rfl)
@[simp] theorem State.setCamp_testErrs (x : Campaigns) : (s.setCamp x).testErrs = s.testErrs := (rfl)
@[simp] theorem State.setCamp_camp (x : Campaigns) : (s.setCamp x).camp = x := (rfl)
@[simp] theorem State.setCamp_bus (x : Campaigns) : (s.setCamp x).bus = s.bus := (rfl)
@[simp] theorem State.setCamp_busAges (x : Campaigns) : (s.setCamp x).busAges = s.busAges := (rfl)
@[simp] theorem State.setCamp_meter (x : Campaigns) : (s.setCamp x).meter = s.meter := (rfl)
@[simp] theorem State.setCamp_field (x : Campaigns) : (s.setCamp x).field = s.field := (rfl)
@[simp] theorem State.setCamp_stations (x : Campaigns) : (s.setCamp x).stations = s.stations := (rfl)
@[simp] theorem State.setCamp_keys (x : Campaigns) : (s.setCamp x).keys = s.keys := (rfl)
@[simp] theorem State.setCamp_jtag (x : Campaigns) : (s.setCamp x).jtag = s.jtag := (rfl)
@[simp] theorem State.setCamp_outputs (x : Campaigns) : (s.setCamp x).outputs = s.outputs := (rfl)
@[simp] theorem State.setCamp_loops (x : Campaigns) : (s.setCamp x).loops = s.loops := (rfl)
@[simp] theorem State.setCamp_pair (x : Campaigns) : (s.setCamp x).pair = s.pair := (rfl)
@[simp] theorem State.setCamp_outbox (x : Campaigns) : (s.setCamp x).outbox = s.outbox := (rfl)
@[simp] theorem State.setCamp_reg (x : Campaigns) (o : Nat) : (s.setCamp x).reg o = s.reg o := (rfl)
@[simp] theorem State.setCamp_rd (x : Campaigns) (g : Fld) : (s.setCamp x).rd g = s.rd g := (rfl)
@[simp] theorem State.setCamp_byte (x : Campaigns) (k : Nat) : (s.setCamp x).byte k = s.byte k := (rfl)

/-! setPair changes pair alone. -/

@[simp] theorem State.setPair_pending (x : Pair) : (s.setPair x).pending = s.pending := (rfl)
@[simp] theorem State.setPair_now (x : Pair) : (s.setPair x).now = s.now := (rfl)
@[simp] theorem State.setPair_free (x : Pair) : (s.setPair x).free = s.free := (rfl)
@[simp] theorem State.setPair_regs (x : Pair) : (s.setPair x).regs = s.regs := (rfl)
@[simp] theorem State.setPair_mem (x : Pair) : (s.setPair x).mem = s.mem := (rfl)
@[simp] theorem State.setPair_memBad (x : Pair) : (s.setPair x).memBad = s.memBad := (rfl)
@[simp] theorem State.setPair_cal (x : Pair) : (s.setPair x).cal = s.cal := (rfl)
@[simp] theorem State.setPair_calSet (x : Pair) : (s.setPair x).calSet = s.calSet := (rfl)
@[simp] theorem State.setPair_boot (x : Pair) : (s.setPair x).boot = s.boot := (rfl)
@[simp] theorem State.setPair_fabric (x : Pair) : (s.setPair x).fabric = s.fabric := (rfl)
@[simp] theorem State.setPair_active (x : Pair) : (s.setPair x).active = s.active := (rfl)
@[simp] theorem State.setPair_gleaner (x : Pair) : (s.setPair x).gleaner = s.gleaner := (rfl)
@[simp] theorem State.setPair_host (x : Pair) : (s.setPair x).host = s.host := (rfl)
@[simp] theorem State.setPair_queues (x : Pair) : (s.setPair x).queues = s.queues := (rfl)
@[simp] theorem State.setPair_requests (x : Pair) : (s.setPair x).requests = s.requests := (rfl)
@[simp] theorem State.setPair_pass (x : Pair) : (s.setPair x).pass = s.pass := (rfl)
@[simp] theorem State.setPair_points (x : Pair) : (s.setPair x).points = s.points := (rfl)
@[simp] theorem State.setPair_survey (x : Pair) : (s.setPair x).survey = s.survey := (rfl)
@[simp] theorem State.setPair_lanes (x : Pair) : (s.setPair x).lanes = s.lanes := (rfl)
@[simp] theorem State.setPair_testErrs (x : Pair) : (s.setPair x).testErrs = s.testErrs := (rfl)
@[simp] theorem State.setPair_camp (x : Pair) : (s.setPair x).camp = s.camp := (rfl)
@[simp] theorem State.setPair_bus (x : Pair) : (s.setPair x).bus = s.bus := (rfl)
@[simp] theorem State.setPair_busAges (x : Pair) : (s.setPair x).busAges = s.busAges := (rfl)
@[simp] theorem State.setPair_meter (x : Pair) : (s.setPair x).meter = s.meter := (rfl)
@[simp] theorem State.setPair_field (x : Pair) : (s.setPair x).field = s.field := (rfl)
@[simp] theorem State.setPair_stations (x : Pair) : (s.setPair x).stations = s.stations := (rfl)
@[simp] theorem State.setPair_keys (x : Pair) : (s.setPair x).keys = s.keys := (rfl)
@[simp] theorem State.setPair_jtag (x : Pair) : (s.setPair x).jtag = s.jtag := (rfl)
@[simp] theorem State.setPair_outputs (x : Pair) : (s.setPair x).outputs = s.outputs := (rfl)
@[simp] theorem State.setPair_loops (x : Pair) : (s.setPair x).loops = s.loops := (rfl)
@[simp] theorem State.setPair_pair (x : Pair) : (s.setPair x).pair = x := (rfl)
@[simp] theorem State.setPair_outbox (x : Pair) : (s.setPair x).outbox = s.outbox := (rfl)
@[simp] theorem State.setPair_reg (x : Pair) (o : Nat) : (s.setPair x).reg o = s.reg o := (rfl)
@[simp] theorem State.setPair_rd (x : Pair) (g : Fld) : (s.setPair x).rd g = s.rd g := (rfl)
@[simp] theorem State.setPair_byte (x : Pair) (k : Nat) : (s.setPair x).byte k = s.byte k := (rfl)

/-! setOut changes outputs alone. -/

@[simp] theorem State.setOut_pending (x : Outputs) : (s.setOut x).pending = s.pending := (rfl)
@[simp] theorem State.setOut_now (x : Outputs) : (s.setOut x).now = s.now := (rfl)
@[simp] theorem State.setOut_free (x : Outputs) : (s.setOut x).free = s.free := (rfl)
@[simp] theorem State.setOut_regs (x : Outputs) : (s.setOut x).regs = s.regs := (rfl)
@[simp] theorem State.setOut_mem (x : Outputs) : (s.setOut x).mem = s.mem := (rfl)
@[simp] theorem State.setOut_memBad (x : Outputs) : (s.setOut x).memBad = s.memBad := (rfl)
@[simp] theorem State.setOut_cal (x : Outputs) : (s.setOut x).cal = s.cal := (rfl)
@[simp] theorem State.setOut_calSet (x : Outputs) : (s.setOut x).calSet = s.calSet := (rfl)
@[simp] theorem State.setOut_boot (x : Outputs) : (s.setOut x).boot = s.boot := (rfl)
@[simp] theorem State.setOut_fabric (x : Outputs) : (s.setOut x).fabric = s.fabric := (rfl)
@[simp] theorem State.setOut_active (x : Outputs) : (s.setOut x).active = s.active := (rfl)
@[simp] theorem State.setOut_gleaner (x : Outputs) : (s.setOut x).gleaner = s.gleaner := (rfl)
@[simp] theorem State.setOut_host (x : Outputs) : (s.setOut x).host = s.host := (rfl)
@[simp] theorem State.setOut_queues (x : Outputs) : (s.setOut x).queues = s.queues := (rfl)
@[simp] theorem State.setOut_requests (x : Outputs) : (s.setOut x).requests = s.requests := (rfl)
@[simp] theorem State.setOut_pass (x : Outputs) : (s.setOut x).pass = s.pass := (rfl)
@[simp] theorem State.setOut_points (x : Outputs) : (s.setOut x).points = s.points := (rfl)
@[simp] theorem State.setOut_survey (x : Outputs) : (s.setOut x).survey = s.survey := (rfl)
@[simp] theorem State.setOut_lanes (x : Outputs) : (s.setOut x).lanes = s.lanes := (rfl)
@[simp] theorem State.setOut_testErrs (x : Outputs) : (s.setOut x).testErrs = s.testErrs := (rfl)
@[simp] theorem State.setOut_camp (x : Outputs) : (s.setOut x).camp = s.camp := (rfl)
@[simp] theorem State.setOut_bus (x : Outputs) : (s.setOut x).bus = s.bus := (rfl)
@[simp] theorem State.setOut_busAges (x : Outputs) : (s.setOut x).busAges = s.busAges := (rfl)
@[simp] theorem State.setOut_meter (x : Outputs) : (s.setOut x).meter = s.meter := (rfl)
@[simp] theorem State.setOut_field (x : Outputs) : (s.setOut x).field = s.field := (rfl)
@[simp] theorem State.setOut_stations (x : Outputs) : (s.setOut x).stations = s.stations := (rfl)
@[simp] theorem State.setOut_keys (x : Outputs) : (s.setOut x).keys = s.keys := (rfl)
@[simp] theorem State.setOut_jtag (x : Outputs) : (s.setOut x).jtag = s.jtag := (rfl)
@[simp] theorem State.setOut_outputs (x : Outputs) : (s.setOut x).outputs = x := (rfl)
@[simp] theorem State.setOut_loops (x : Outputs) : (s.setOut x).loops = s.loops := (rfl)
@[simp] theorem State.setOut_pair (x : Outputs) : (s.setOut x).pair = s.pair := (rfl)
@[simp] theorem State.setOut_outbox (x : Outputs) : (s.setOut x).outbox = s.outbox := (rfl)
@[simp] theorem State.setOut_reg (x : Outputs) (o : Nat) : (s.setOut x).reg o = s.reg o := (rfl)
@[simp] theorem State.setOut_rd (x : Outputs) (g : Fld) : (s.setOut x).rd g = s.rd g := (rfl)
@[simp] theorem State.setOut_byte (x : Outputs) (k : Nat) : (s.setOut x).byte k = s.byte k := (rfl)

/-! setField changes field alone. -/

@[simp] theorem State.setField_pending (x : FieldEx) : (s.setField x).pending = s.pending := (rfl)
@[simp] theorem State.setField_now (x : FieldEx) : (s.setField x).now = s.now := (rfl)
@[simp] theorem State.setField_free (x : FieldEx) : (s.setField x).free = s.free := (rfl)
@[simp] theorem State.setField_regs (x : FieldEx) : (s.setField x).regs = s.regs := (rfl)
@[simp] theorem State.setField_mem (x : FieldEx) : (s.setField x).mem = s.mem := (rfl)
@[simp] theorem State.setField_memBad (x : FieldEx) : (s.setField x).memBad = s.memBad := (rfl)
@[simp] theorem State.setField_cal (x : FieldEx) : (s.setField x).cal = s.cal := (rfl)
@[simp] theorem State.setField_calSet (x : FieldEx) : (s.setField x).calSet = s.calSet := (rfl)
@[simp] theorem State.setField_boot (x : FieldEx) : (s.setField x).boot = s.boot := (rfl)
@[simp] theorem State.setField_fabric (x : FieldEx) : (s.setField x).fabric = s.fabric := (rfl)
@[simp] theorem State.setField_active (x : FieldEx) : (s.setField x).active = s.active := (rfl)
@[simp] theorem State.setField_gleaner (x : FieldEx) : (s.setField x).gleaner = s.gleaner := (rfl)
@[simp] theorem State.setField_host (x : FieldEx) : (s.setField x).host = s.host := (rfl)
@[simp] theorem State.setField_queues (x : FieldEx) : (s.setField x).queues = s.queues := (rfl)
@[simp] theorem State.setField_requests (x : FieldEx) : (s.setField x).requests = s.requests := (rfl)
@[simp] theorem State.setField_pass (x : FieldEx) : (s.setField x).pass = s.pass := (rfl)
@[simp] theorem State.setField_points (x : FieldEx) : (s.setField x).points = s.points := (rfl)
@[simp] theorem State.setField_survey (x : FieldEx) : (s.setField x).survey = s.survey := (rfl)
@[simp] theorem State.setField_lanes (x : FieldEx) : (s.setField x).lanes = s.lanes := (rfl)
@[simp] theorem State.setField_testErrs (x : FieldEx) : (s.setField x).testErrs = s.testErrs := (rfl)
@[simp] theorem State.setField_camp (x : FieldEx) : (s.setField x).camp = s.camp := (rfl)
@[simp] theorem State.setField_bus (x : FieldEx) : (s.setField x).bus = s.bus := (rfl)
@[simp] theorem State.setField_busAges (x : FieldEx) : (s.setField x).busAges = s.busAges := (rfl)
@[simp] theorem State.setField_meter (x : FieldEx) : (s.setField x).meter = s.meter := (rfl)
@[simp] theorem State.setField_field (x : FieldEx) : (s.setField x).field = x := (rfl)
@[simp] theorem State.setField_stations (x : FieldEx) : (s.setField x).stations = s.stations := (rfl)
@[simp] theorem State.setField_keys (x : FieldEx) : (s.setField x).keys = s.keys := (rfl)
@[simp] theorem State.setField_jtag (x : FieldEx) : (s.setField x).jtag = s.jtag := (rfl)
@[simp] theorem State.setField_outputs (x : FieldEx) : (s.setField x).outputs = s.outputs := (rfl)
@[simp] theorem State.setField_loops (x : FieldEx) : (s.setField x).loops = s.loops := (rfl)
@[simp] theorem State.setField_pair (x : FieldEx) : (s.setField x).pair = s.pair := (rfl)
@[simp] theorem State.setField_outbox (x : FieldEx) : (s.setField x).outbox = s.outbox := (rfl)
@[simp] theorem State.setField_reg (x : FieldEx) (o : Nat) : (s.setField x).reg o = s.reg o := (rfl)
@[simp] theorem State.setField_rd (x : FieldEx) (g : Fld) : (s.setField x).rd g = s.rd g := (rfl)
@[simp] theorem State.setField_byte (x : FieldEx) (k : Nat) : (s.setField x).byte k = s.byte k := (rfl)

/-! setMeter changes meter alone. -/

@[simp] theorem State.setMeter_pending (x : Metering) : (s.setMeter x).pending = s.pending := (rfl)
@[simp] theorem State.setMeter_now (x : Metering) : (s.setMeter x).now = s.now := (rfl)
@[simp] theorem State.setMeter_free (x : Metering) : (s.setMeter x).free = s.free := (rfl)
@[simp] theorem State.setMeter_regs (x : Metering) : (s.setMeter x).regs = s.regs := (rfl)
@[simp] theorem State.setMeter_mem (x : Metering) : (s.setMeter x).mem = s.mem := (rfl)
@[simp] theorem State.setMeter_memBad (x : Metering) : (s.setMeter x).memBad = s.memBad := (rfl)
@[simp] theorem State.setMeter_cal (x : Metering) : (s.setMeter x).cal = s.cal := (rfl)
@[simp] theorem State.setMeter_calSet (x : Metering) : (s.setMeter x).calSet = s.calSet := (rfl)
@[simp] theorem State.setMeter_boot (x : Metering) : (s.setMeter x).boot = s.boot := (rfl)
@[simp] theorem State.setMeter_fabric (x : Metering) : (s.setMeter x).fabric = s.fabric := (rfl)
@[simp] theorem State.setMeter_active (x : Metering) : (s.setMeter x).active = s.active := (rfl)
@[simp] theorem State.setMeter_gleaner (x : Metering) : (s.setMeter x).gleaner = s.gleaner := (rfl)
@[simp] theorem State.setMeter_host (x : Metering) : (s.setMeter x).host = s.host := (rfl)
@[simp] theorem State.setMeter_queues (x : Metering) : (s.setMeter x).queues = s.queues := (rfl)
@[simp] theorem State.setMeter_requests (x : Metering) : (s.setMeter x).requests = s.requests := (rfl)
@[simp] theorem State.setMeter_pass (x : Metering) : (s.setMeter x).pass = s.pass := (rfl)
@[simp] theorem State.setMeter_points (x : Metering) : (s.setMeter x).points = s.points := (rfl)
@[simp] theorem State.setMeter_survey (x : Metering) : (s.setMeter x).survey = s.survey := (rfl)
@[simp] theorem State.setMeter_lanes (x : Metering) : (s.setMeter x).lanes = s.lanes := (rfl)
@[simp] theorem State.setMeter_testErrs (x : Metering) : (s.setMeter x).testErrs = s.testErrs := (rfl)
@[simp] theorem State.setMeter_camp (x : Metering) : (s.setMeter x).camp = s.camp := (rfl)
@[simp] theorem State.setMeter_bus (x : Metering) : (s.setMeter x).bus = s.bus := (rfl)
@[simp] theorem State.setMeter_busAges (x : Metering) : (s.setMeter x).busAges = s.busAges := (rfl)
@[simp] theorem State.setMeter_meter (x : Metering) : (s.setMeter x).meter = x := (rfl)
@[simp] theorem State.setMeter_field (x : Metering) : (s.setMeter x).field = s.field := (rfl)
@[simp] theorem State.setMeter_stations (x : Metering) : (s.setMeter x).stations = s.stations := (rfl)
@[simp] theorem State.setMeter_keys (x : Metering) : (s.setMeter x).keys = s.keys := (rfl)
@[simp] theorem State.setMeter_jtag (x : Metering) : (s.setMeter x).jtag = s.jtag := (rfl)
@[simp] theorem State.setMeter_outputs (x : Metering) : (s.setMeter x).outputs = s.outputs := (rfl)
@[simp] theorem State.setMeter_loops (x : Metering) : (s.setMeter x).loops = s.loops := (rfl)
@[simp] theorem State.setMeter_pair (x : Metering) : (s.setMeter x).pair = s.pair := (rfl)
@[simp] theorem State.setMeter_outbox (x : Metering) : (s.setMeter x).outbox = s.outbox := (rfl)
@[simp] theorem State.setMeter_reg (x : Metering) (o : Nat) : (s.setMeter x).reg o = s.reg o := (rfl)
@[simp] theorem State.setMeter_rd (x : Metering) (g : Fld) : (s.setMeter x).rd g = s.rd g := (rfl)
@[simp] theorem State.setMeter_byte (x : Metering) (k : Nat) : (s.setMeter x).byte k = s.byte k := (rfl)

/-! setKeys changes keys alone. -/

@[simp] theorem State.setKeys_pending (x : KeyStore) : (s.setKeys x).pending = s.pending := (rfl)
@[simp] theorem State.setKeys_now (x : KeyStore) : (s.setKeys x).now = s.now := (rfl)
@[simp] theorem State.setKeys_free (x : KeyStore) : (s.setKeys x).free = s.free := (rfl)
@[simp] theorem State.setKeys_regs (x : KeyStore) : (s.setKeys x).regs = s.regs := (rfl)
@[simp] theorem State.setKeys_mem (x : KeyStore) : (s.setKeys x).mem = s.mem := (rfl)
@[simp] theorem State.setKeys_memBad (x : KeyStore) : (s.setKeys x).memBad = s.memBad := (rfl)
@[simp] theorem State.setKeys_cal (x : KeyStore) : (s.setKeys x).cal = s.cal := (rfl)
@[simp] theorem State.setKeys_calSet (x : KeyStore) : (s.setKeys x).calSet = s.calSet := (rfl)
@[simp] theorem State.setKeys_boot (x : KeyStore) : (s.setKeys x).boot = s.boot := (rfl)
@[simp] theorem State.setKeys_fabric (x : KeyStore) : (s.setKeys x).fabric = s.fabric := (rfl)
@[simp] theorem State.setKeys_active (x : KeyStore) : (s.setKeys x).active = s.active := (rfl)
@[simp] theorem State.setKeys_gleaner (x : KeyStore) : (s.setKeys x).gleaner = s.gleaner := (rfl)
@[simp] theorem State.setKeys_host (x : KeyStore) : (s.setKeys x).host = s.host := (rfl)
@[simp] theorem State.setKeys_queues (x : KeyStore) : (s.setKeys x).queues = s.queues := (rfl)
@[simp] theorem State.setKeys_requests (x : KeyStore) : (s.setKeys x).requests = s.requests := (rfl)
@[simp] theorem State.setKeys_pass (x : KeyStore) : (s.setKeys x).pass = s.pass := (rfl)
@[simp] theorem State.setKeys_points (x : KeyStore) : (s.setKeys x).points = s.points := (rfl)
@[simp] theorem State.setKeys_survey (x : KeyStore) : (s.setKeys x).survey = s.survey := (rfl)
@[simp] theorem State.setKeys_lanes (x : KeyStore) : (s.setKeys x).lanes = s.lanes := (rfl)
@[simp] theorem State.setKeys_testErrs (x : KeyStore) : (s.setKeys x).testErrs = s.testErrs := (rfl)
@[simp] theorem State.setKeys_camp (x : KeyStore) : (s.setKeys x).camp = s.camp := (rfl)
@[simp] theorem State.setKeys_bus (x : KeyStore) : (s.setKeys x).bus = s.bus := (rfl)
@[simp] theorem State.setKeys_busAges (x : KeyStore) : (s.setKeys x).busAges = s.busAges := (rfl)
@[simp] theorem State.setKeys_meter (x : KeyStore) : (s.setKeys x).meter = s.meter := (rfl)
@[simp] theorem State.setKeys_field (x : KeyStore) : (s.setKeys x).field = s.field := (rfl)
@[simp] theorem State.setKeys_stations (x : KeyStore) : (s.setKeys x).stations = s.stations := (rfl)
@[simp] theorem State.setKeys_keys (x : KeyStore) : (s.setKeys x).keys = x := (rfl)
@[simp] theorem State.setKeys_jtag (x : KeyStore) : (s.setKeys x).jtag = s.jtag := (rfl)
@[simp] theorem State.setKeys_outputs (x : KeyStore) : (s.setKeys x).outputs = s.outputs := (rfl)
@[simp] theorem State.setKeys_loops (x : KeyStore) : (s.setKeys x).loops = s.loops := (rfl)
@[simp] theorem State.setKeys_pair (x : KeyStore) : (s.setKeys x).pair = s.pair := (rfl)
@[simp] theorem State.setKeys_outbox (x : KeyStore) : (s.setKeys x).outbox = s.outbox := (rfl)
@[simp] theorem State.setKeys_reg (x : KeyStore) (o : Nat) : (s.setKeys x).reg o = s.reg o := (rfl)
@[simp] theorem State.setKeys_rd (x : KeyStore) (g : Fld) : (s.setKeys x).rd g = s.rd g := (rfl)
@[simp] theorem State.setKeys_byte (x : KeyStore) (k : Nat) : (s.setKeys x).byte k = s.byte k := (rfl)

/-! setSurvey changes survey alone. -/

@[simp] theorem State.setSurvey_pending (x : Survey) : (s.setSurvey x).pending = s.pending := (rfl)
@[simp] theorem State.setSurvey_now (x : Survey) : (s.setSurvey x).now = s.now := (rfl)
@[simp] theorem State.setSurvey_free (x : Survey) : (s.setSurvey x).free = s.free := (rfl)
@[simp] theorem State.setSurvey_regs (x : Survey) : (s.setSurvey x).regs = s.regs := (rfl)
@[simp] theorem State.setSurvey_mem (x : Survey) : (s.setSurvey x).mem = s.mem := (rfl)
@[simp] theorem State.setSurvey_memBad (x : Survey) : (s.setSurvey x).memBad = s.memBad := (rfl)
@[simp] theorem State.setSurvey_cal (x : Survey) : (s.setSurvey x).cal = s.cal := (rfl)
@[simp] theorem State.setSurvey_calSet (x : Survey) : (s.setSurvey x).calSet = s.calSet := (rfl)
@[simp] theorem State.setSurvey_boot (x : Survey) : (s.setSurvey x).boot = s.boot := (rfl)
@[simp] theorem State.setSurvey_fabric (x : Survey) : (s.setSurvey x).fabric = s.fabric := (rfl)
@[simp] theorem State.setSurvey_active (x : Survey) : (s.setSurvey x).active = s.active := (rfl)
@[simp] theorem State.setSurvey_gleaner (x : Survey) : (s.setSurvey x).gleaner = s.gleaner := (rfl)
@[simp] theorem State.setSurvey_host (x : Survey) : (s.setSurvey x).host = s.host := (rfl)
@[simp] theorem State.setSurvey_queues (x : Survey) : (s.setSurvey x).queues = s.queues := (rfl)
@[simp] theorem State.setSurvey_requests (x : Survey) : (s.setSurvey x).requests = s.requests := (rfl)
@[simp] theorem State.setSurvey_pass (x : Survey) : (s.setSurvey x).pass = s.pass := (rfl)
@[simp] theorem State.setSurvey_points (x : Survey) : (s.setSurvey x).points = s.points := (rfl)
@[simp] theorem State.setSurvey_survey (x : Survey) : (s.setSurvey x).survey = x := (rfl)
@[simp] theorem State.setSurvey_lanes (x : Survey) : (s.setSurvey x).lanes = s.lanes := (rfl)
@[simp] theorem State.setSurvey_testErrs (x : Survey) : (s.setSurvey x).testErrs = s.testErrs := (rfl)
@[simp] theorem State.setSurvey_camp (x : Survey) : (s.setSurvey x).camp = s.camp := (rfl)
@[simp] theorem State.setSurvey_bus (x : Survey) : (s.setSurvey x).bus = s.bus := (rfl)
@[simp] theorem State.setSurvey_busAges (x : Survey) : (s.setSurvey x).busAges = s.busAges := (rfl)
@[simp] theorem State.setSurvey_meter (x : Survey) : (s.setSurvey x).meter = s.meter := (rfl)
@[simp] theorem State.setSurvey_field (x : Survey) : (s.setSurvey x).field = s.field := (rfl)
@[simp] theorem State.setSurvey_stations (x : Survey) : (s.setSurvey x).stations = s.stations := (rfl)
@[simp] theorem State.setSurvey_keys (x : Survey) : (s.setSurvey x).keys = s.keys := (rfl)
@[simp] theorem State.setSurvey_jtag (x : Survey) : (s.setSurvey x).jtag = s.jtag := (rfl)
@[simp] theorem State.setSurvey_outputs (x : Survey) : (s.setSurvey x).outputs = s.outputs := (rfl)
@[simp] theorem State.setSurvey_loops (x : Survey) : (s.setSurvey x).loops = s.loops := (rfl)
@[simp] theorem State.setSurvey_pair (x : Survey) : (s.setSurvey x).pair = s.pair := (rfl)
@[simp] theorem State.setSurvey_outbox (x : Survey) : (s.setSurvey x).outbox = s.outbox := (rfl)
@[simp] theorem State.setSurvey_reg (x : Survey) (o : Nat) : (s.setSurvey x).reg o = s.reg o := (rfl)
@[simp] theorem State.setSurvey_rd (x : Survey) (g : Fld) : (s.setSurvey x).rd g = s.rd g := (rfl)
@[simp] theorem State.setSurvey_byte (x : Survey) (k : Nat) : (s.setSurvey x).byte k = s.byte k := (rfl)

/-! setJtag changes jtag alone. -/

@[simp] theorem State.setJtag_pending (x : Jtag) : (s.setJtag x).pending = s.pending := (rfl)
@[simp] theorem State.setJtag_now (x : Jtag) : (s.setJtag x).now = s.now := (rfl)
@[simp] theorem State.setJtag_free (x : Jtag) : (s.setJtag x).free = s.free := (rfl)
@[simp] theorem State.setJtag_regs (x : Jtag) : (s.setJtag x).regs = s.regs := (rfl)
@[simp] theorem State.setJtag_mem (x : Jtag) : (s.setJtag x).mem = s.mem := (rfl)
@[simp] theorem State.setJtag_memBad (x : Jtag) : (s.setJtag x).memBad = s.memBad := (rfl)
@[simp] theorem State.setJtag_cal (x : Jtag) : (s.setJtag x).cal = s.cal := (rfl)
@[simp] theorem State.setJtag_calSet (x : Jtag) : (s.setJtag x).calSet = s.calSet := (rfl)
@[simp] theorem State.setJtag_boot (x : Jtag) : (s.setJtag x).boot = s.boot := (rfl)
@[simp] theorem State.setJtag_fabric (x : Jtag) : (s.setJtag x).fabric = s.fabric := (rfl)
@[simp] theorem State.setJtag_active (x : Jtag) : (s.setJtag x).active = s.active := (rfl)
@[simp] theorem State.setJtag_gleaner (x : Jtag) : (s.setJtag x).gleaner = s.gleaner := (rfl)
@[simp] theorem State.setJtag_host (x : Jtag) : (s.setJtag x).host = s.host := (rfl)
@[simp] theorem State.setJtag_queues (x : Jtag) : (s.setJtag x).queues = s.queues := (rfl)
@[simp] theorem State.setJtag_requests (x : Jtag) : (s.setJtag x).requests = s.requests := (rfl)
@[simp] theorem State.setJtag_pass (x : Jtag) : (s.setJtag x).pass = s.pass := (rfl)
@[simp] theorem State.setJtag_points (x : Jtag) : (s.setJtag x).points = s.points := (rfl)
@[simp] theorem State.setJtag_survey (x : Jtag) : (s.setJtag x).survey = s.survey := (rfl)
@[simp] theorem State.setJtag_lanes (x : Jtag) : (s.setJtag x).lanes = s.lanes := (rfl)
@[simp] theorem State.setJtag_testErrs (x : Jtag) : (s.setJtag x).testErrs = s.testErrs := (rfl)
@[simp] theorem State.setJtag_camp (x : Jtag) : (s.setJtag x).camp = s.camp := (rfl)
@[simp] theorem State.setJtag_bus (x : Jtag) : (s.setJtag x).bus = s.bus := (rfl)
@[simp] theorem State.setJtag_busAges (x : Jtag) : (s.setJtag x).busAges = s.busAges := (rfl)
@[simp] theorem State.setJtag_meter (x : Jtag) : (s.setJtag x).meter = s.meter := (rfl)
@[simp] theorem State.setJtag_field (x : Jtag) : (s.setJtag x).field = s.field := (rfl)
@[simp] theorem State.setJtag_stations (x : Jtag) : (s.setJtag x).stations = s.stations := (rfl)
@[simp] theorem State.setJtag_keys (x : Jtag) : (s.setJtag x).keys = s.keys := (rfl)
@[simp] theorem State.setJtag_jtag (x : Jtag) : (s.setJtag x).jtag = x := (rfl)
@[simp] theorem State.setJtag_outputs (x : Jtag) : (s.setJtag x).outputs = s.outputs := (rfl)
@[simp] theorem State.setJtag_loops (x : Jtag) : (s.setJtag x).loops = s.loops := (rfl)
@[simp] theorem State.setJtag_pair (x : Jtag) : (s.setJtag x).pair = s.pair := (rfl)
@[simp] theorem State.setJtag_outbox (x : Jtag) : (s.setJtag x).outbox = s.outbox := (rfl)
@[simp] theorem State.setJtag_reg (x : Jtag) (o : Nat) : (s.setJtag x).reg o = s.reg o := (rfl)
@[simp] theorem State.setJtag_rd (x : Jtag) (g : Fld) : (s.setJtag x).rd g = s.rd g := (rfl)
@[simp] theorem State.setJtag_byte (x : Jtag) (k : Nat) : (s.setJtag x).byte k = s.byte k := (rfl)

end Sys2Proof.Machine
end

