-- ==== Sys2Proof/Laws/Reg.lean ====
section
/-! SUPPORT. Laws of the register file and of memory: what a register, a field and a byte read after each write, and that
every write keeps the canonical form. -/

namespace Sys2Proof.Machine

variable (s : State)

variable {s} in
/-- A register reads the same where the register file is the same. -/
theorem State.reg_of_regs {t : State} {o : Nat} (h : t.regs = s.regs) : t.reg o = s.reg o := by rw [State.reg, State.reg, h]

variable {s} in
theorem State.rd_of_regs {t : State} {f : Fld} (h : t.regs = s.regs) : t.rd f = s.rd f := by
  rw [State.rd, State.rd, State.reg_of_regs h]

variable {s} in
/-- A byte reads the same where memory is the same. -/
theorem State.byte_of_mem {t : State} {a : Nat} (h : t.mem = s.mem) : t.byte a = s.byte a := by rw [State.byte, State.byte, h]

/-! Registers. -/

theorem State.reg_setReg (o k : Nat) (v : Word) : (s.setReg o v).reg k = if k = o then v else s.reg k :=
  smapGet_set regReset s.regs o k v

@[simp] theorem State.reg_setReg_same (o : Nat) (v : Word) : (s.setReg o v).reg o = v := smapGet_set_same ..

theorem State.reg_setReg_ne {o k : Nat} (v : Word) (h : k ≠ o) : (s.setReg o v).reg k = s.reg k :=
  smapGet_set_ne regReset s.regs v h

theorem State.rd_setReg_same (v : Word) (f : Fld) : (s.setReg f.off v).rd f = bitsOf v.toNat f.hi f.lo := by
  rw [State.rd, State.reg_setReg_same]

theorem State.rd_setReg_ne {o : Nat} (v : Word) {f : Fld} (h : f.off ≠ o) : (s.setReg o v).rd f = s.rd f := by
  rw [State.rd, State.reg_setReg_ne s v h, State.rd]

theorem State.reg_wr_ne {f : Fld} {k : Nat} (v : Nat) (h : k ≠ f.off) : (s.wr f v).reg k = s.reg k :=
  State.reg_setReg_ne s _ h

/-- A field reads what is written to it, cut to its width. -/
theorem State.rd_wr_same (v : Nat) {f : Fld} (h : f.ok) : (s.wr f v).rd f = v % 2 ^ (f.hi + 1 - f.lo) := by
  rw [State.wr, State.rd_setReg_same, BitVec.toNat_ofNat, bitsOf_mod _ h.2, bitsOf_putBits_same _ _ (Nat.le_succ_of_le h.1)]

/-- A field is unchanged by a write of another. -/
theorem State.rd_wr_apart {f g : Fld} (v : Nat) (hf : f.ok) (hg : g.ok) (h : f.apart g) : (s.wr f v).rd g = s.rd g := by
  by_cases ho : f.off = g.off
  · rw [State.wr, ho, State.rd_setReg_same, BitVec.toNat_ofNat, bitsOf_mod _ hg.2, State.rd]
    rcases h with h | h | h
    · exact absurd ho h
    · exact bitsOf_putBits_above _ _ (Nat.le_succ_of_le hf.1) h
    · exact bitsOf_putBits_below _ _ (Nat.le_succ_of_le hf.1) h
  · exact State.rd_setReg_ne s _ (fun e => ho e.symm)

theorem State.rd_wr_ne {f g : Fld} (v : Nat) (h : g.off ≠ f.off) : (s.wr f v).rd g = s.rd g := State.rd_setReg_ne s _ h

theorem State.rd_lt (f : Fld) : s.rd f < 2 ^ (f.hi + 1 - f.lo) := bitsOf_lt ..

@[simp] theorem State.wr_byte_eq (f : Fld) (v k : Nat) : (s.wr f v).byte k = s.byte k := (rfl)

theorem State.reg_bump_ne {f : Fld} {o : Nat} (k : Nat) (h : o ≠ f.off) : (s.bump f k).reg o = s.reg o :=
  State.reg_wr_ne s _ h

theorem State.rd_bump_same {f : Fld} (k : Nat) (h : f.ok) : (s.bump f k).rd f = satAdd (f.hi + 1 - f.lo) (s.rd f) k := by
  rw [State.bump, State.rd_wr_same s _ h, Nat.mod_eq_of_lt]
  have := Nat.two_pow_pos (f.hi + 1 - f.lo)
  unfold satAdd
  omega

/-! Memory. -/

theorem State.byte_putByte (a k : Nat) (v : Byte) : (s.putByte a v).byte k = if k = a then v else s.byte k :=
  smapGet_set memDefault s.mem a k v

@[simp] theorem State.byte_putByte_same (a : Nat) (v : Byte) : (s.putByte a v).byte a = v := smapGet_set_same ..

theorem State.byte_putByte_ne {a k : Nat} (v : Byte) (h : k ≠ a) : (s.putByte a v).byte k = s.byte k :=
  smapGet_set_ne memDefault s.mem v h

/-- Writing bytes changes memory alone. -/
theorem State.putBytes_eq (a : Nat) (bs : List Byte) : s.putBytes a bs = { s with mem := (s.putBytes a bs).mem } := by
  induction bs generalizing s a with
  | nil => rfl
  | cons b bs ih => exact ih (s.putByte a b) (a + 1)

/-- Bytes outside the range written are unchanged. -/
theorem State.byte_putBytes_out (a k : Nat) (bs : List Byte) (h : k < a ∨ a + bs.length ≤ k) :
    (s.putBytes a bs).byte k = s.byte k := by
  induction bs generalizing s a with
  | nil => rfl
  | cons b bs ih =>
    simp only [List.length_cons] at h
    rw [State.putBytes, ih (s.putByte a b) (a + 1) (by omega)]
    exact State.byte_putByte_ne s b (by omega)

/-- A byte in the range written reads what was written to it. -/
theorem State.byte_putBytes_in (a i : Nat) (bs : List Byte) (h : i < bs.length) :
    (s.putBytes a bs).byte (a + i) = bs[i] := by
  induction bs generalizing s a i with
  | nil => exact absurd h (Nat.not_lt_zero i)
  | cons b bs ih =>
    cases i with
    | zero =>
      rw [State.putBytes, State.byte_putBytes_out _ _ _ _ (Or.inl (by omega))]
      exact State.byte_putByte_same s a b
    | succ i =>
      have := ih (s.putByte a b) (a + 1) i (by simpa using h)
      have e : a + (i + 1) = a + 1 + i := by omega
      rw [State.putBytes, e]
      exact this

theorem State.bytes_length (a n : Nat) : (s.bytes a n).length = n := by
  induction n generalizing a with
  | zero => rfl
  | succ n ih => rw [State.bytes, List.length_cons, ih]

theorem State.bytes_congr (t : State) (a n : Nat) (h : ∀ k, a ≤ k → k < a + n → t.byte k = s.byte k) :
    t.bytes a n = s.bytes a n := by
  induction n generalizing a with
  | zero => rfl
  | succ n ih =>
    rw [State.bytes, State.bytes, h a (by omega) (by omega), ih (a + 1) (fun k h1 h2 => h k (by omega) (by omega))]

/-- The bytes of a range just written. -/
theorem State.bytes_putBytes (a : Nat) (bs : List Byte) : (s.putBytes a bs).bytes a bs.length = bs := by
  induction bs generalizing s a with
  | nil => rfl
  | cons b bs ih =>
    rw [List.length_cons, State.bytes, State.putBytes, ih (s.putByte a b) (a + 1),
      State.byte_putBytes_out _ _ _ _ (Or.inl (by omega)), State.byte_putByte_same]

/-- A value of n bytes reads back, cut to its bytes. -/
theorem State.ld_st (a n v : Nat) : (s.st a n v).ld a n = v % 256 ^ n := by
  have h := State.bytes_putBytes s a (leBytes n v)
  rw [leBytes_length] at h
  rw [State.ld, State.st, h, ofLeBytes_leBytes]

theorem State.byte_st_out (a n v k : Nat) (h : k < a ∨ a + n ≤ k) : (s.st a n v).byte k = s.byte k :=
  State.byte_putBytes_out s a k _ (by rwa [leBytes_length])

theorem State.st_eq (a n v : Nat) : s.st a n v = { s with mem := (s.st a n v).mem } := State.putBytes_eq ..

/-! Every plain operation keeps the canonical form. -/

theorem Memory.wf_putByte (a : Nat) (v : Byte) (h : Memory.wf s.mem = true) : Memory.wf (s.putByte a v).mem = true :=
  smapSet_wf memDefault s.mem a v h

theorem Memory.wf_putBytes (a : Nat) (bs : List Byte) (h : Memory.wf s.mem = true) :
    Memory.wf (s.putBytes a bs).mem = true := by
  induction bs generalizing s a with
  | nil => exact h
  | cons b bs ih => exact ih (s.putByte a b) (a + 1) (Memory.wf_putByte s a b h)

theorem Memory.wf_st (a n v : Nat) (h : Memory.wf s.mem = true) : Memory.wf (s.st a n v).mem = true :=
  Memory.wf_putBytes s a _ h

theorem Memory.wf_fill (a : Nat) (bs : List Byte) (h : Memory.wf s.mem = true) : Memory.wf (s.fill a bs).mem = true :=
  smapFill_wf memDefault s.mem a bs h

theorem Memory.wf_copyMem (a b n : Nat) (h : Memory.wf s.mem = true) : Memory.wf (s.copyMem a b n).mem = true :=
  smapCopy_wf memDefault s.mem a b n h

theorem Memory.wf_clearMem (a n : Nat) (h : Memory.wf s.mem = true) : Memory.wf (s.clearMem a n).mem = true :=
  smapDrop_wf memDefault s.mem a (a + n) h

theorem Regs.wf_setReg (o : Nat) (v : Word) (h : Regs.wf s.regs = true) : Regs.wf (s.setReg o v).regs = true :=
  smapSet_wf regReset s.regs o v h

theorem Regs.wf_wr (f : Fld) (v : Nat) (h : Regs.wf s.regs = true) : Regs.wf (s.wr f v).regs = true :=
  Regs.wf_setReg s _ _ h

end Sys2Proof.Machine
end

