-- ==== Sys2Proof/Laws/Core.lean ====
section
/-! SUPPORT. Laws of the pass cores: what a core reads after an update, and everything that running one instruction can
do. -/

namespace Sys2Proof.Machine

variable (s : State) (n : Fin 4) (c : PassCore)

@[simp] theorem State.core_setCore_same : (s.setCore n c).core n = c := by
  rcases n with ⟨_ | _ | _ | _ | n, h⟩ <;> first | rfl | omega

theorem State.core_setCore_ne {m : Fin 4} (h : m ≠ n) : (s.setCore n c).core m = s.core m := by
  rcases n with ⟨_ | _ | _ | _ | n, hn⟩ <;> rcases m with ⟨_ | _ | _ | _ | m, hm⟩ <;>
    first | rfl | omega | exact absurd rfl h

/-- Setting a core changes the cores alone. -/
theorem State.setCore_eq : s.setCore n c = { s with
    pass := { s.pass with
      core0 := (s.setCore n c).pass.core0
      core1 := (s.setCore n c).pass.core1
      core2 := (s.setCore n c).pass.core2
      core3 := (s.setCore n c).pass.core3 } } := by
  rcases n with ⟨_ | _ | _ | _ | n, h⟩ <;> first | rfl | omega

@[simp] theorem State.setCore_mem : (s.setCore n c).mem = s.mem := by rw [State.setCore_eq]
@[simp] theorem State.setCore_regs : (s.setCore n c).regs = s.regs := by rw [State.setCore_eq]
@[simp] theorem State.setCore_memBad : (s.setCore n c).memBad = s.memBad := by rw [State.setCore_eq]
@[simp] theorem State.setCore_reg (o : Nat) : (s.setCore n c).reg o = s.reg o := by rw [State.setCore_eq]; rfl
@[simp] theorem State.setCore_rd (f : Fld) : (s.setCore n c).rd f = s.rd f := by rw [State.setCore_eq]; rfl
@[simp] theorem State.setCore_byte (a : Nat) : (s.setCore n c).byte a = s.byte a := by rw [State.setCore_eq]; rfl

/-- Nothing happens on a core that runs no strip. -/
theorem State.runOn_stopped (f : PassCore → Except Nat State) (h : s.rd (PASS_CORE_STAT_STATE n.val) ≠ coreRunning) :
    s.runOn n f = s := if_pos h

/-- A fetch outside the code faults. -/
theorem State.runOn_outside (f : PassCore → Except Nat State) (h : s.rd (PASS_CORE_STAT_STATE n.val) = coreRunning)
    (hp : ¬ (s.core n).pc < (s.codeOf n).2) : s.runOn n f = s.progFault n PF_ADDR := by
  simp only [State.runOn, h, hp, not_true, not_false_iff, ne_eq, if_true, if_false]

/-- A command takes effect where the word at PC spells it, and where no word can be fetched. -/
theorem State.issue_eq {i : Instr} (t : State) (h : encodeFurrow i = some (s.wordAt n)) : s.issue n i t = t := by
  simp [State.issue, State.issues, h]

/-- A command that spells another instruction than the word that a core fetches does nothing (R221). -/
theorem State.issue_other {i : Instr} (t : State) (h1 : s.rd (PASS_CORE_STAT_STATE n.val) = coreRunning)
    (h2 : (s.core n).pc < (s.codeOf n).2) (h3 : s.eccFault ((s.codeOf n).1 + 4 * (s.core n).pc) 4 = false)
    (h : encodeFurrow i ≠ some (s.wordAt n)) : s.issue n i t = s := by
  simp [State.issue, State.issues, h1, h2, h3, h]

theorem State.issue_ready {i : Instr} (t : State) (h : s.coreReady n i) : s.issue n i t = t := s.issue_eq n t h.2.2.2

/-- A ready core runs the instruction with PC at the next one. -/
theorem State.runOn_ready {i : Instr} (f : PassCore → Except Nat State) (h : s.coreReady n i) :
    s.runOn n f = match f (s.ahead n) with
      | .ok t => t
      | .error code => s.progFault n code := by
  obtain ⟨h1, h2, h3, -⟩ := h
  simp only [State.runOn, h1, h2, h3, not_true, ne_eq, if_false, Bool.false_eq_true]
  rfl

theorem State.runCore_ready {i : Instr} (f : PassCore → Except Nat PassCore) (h : s.coreReady n i) :
    s.runCore n f = match f (s.ahead n) with
      | .ok c => s.setCore n c
      | .error code => s.progFault n code := by
  rw [State.runCore, State.runOn_ready s n _ h]
  cases f (s.ahead n) <;> rfl

theorem State.onlyCore_setCore : s.onlyCore n c (s.setCore n c) :=
  ⟨State.core_setCore_same s n c, fun _ h => State.core_setCore_ne s n c h, State.setCore_eq s n c⟩

variable {s n c}

/-- An instruction that acts on the core alone completes with what it makes of the core. -/
theorem State.runCore_completes {i : Instr} {f : PassCore → Except Nat PassCore} (h : s.coreReady n i)
    (he : exec i s = .next (s.issue n i (s.runCore n f))) (hf : f (s.ahead n) = .ok c) : Completes i s (s.onlyCore n c) := by
  refine ⟨_, he, ?_⟩
  rw [State.issue_ready s n _ h, State.runCore_ready s n f h, hf]
  exact State.onlyCore_setCore s n c

/-- An instruction on a ready core completes with the state it makes. -/
theorem State.runOn_completes {i : Instr} {f : PassCore → Except Nat State} {t : State} {P : State → Prop}
    (h : s.coreReady n i) (he : exec i s = .next (s.issue n i (s.runOn n f))) (hf : f (s.ahead n) = .ok t) (hp : P t) :
    Completes i s P := by
  refine ⟨_, he, ?_⟩
  rw [State.issue_ready s n _ h, State.runOn_ready s n f h, hf]
  exact hp

/-- An instruction on a ready core that names a fault halts it. -/
theorem State.runOn_faults {i : Instr} {f : PassCore → Except Nat State} {e : Nat}
    (h : s.coreReady n i) (hf : f (s.ahead n) = .error e) : s.runOn n f = s.progFault n e := by
  rw [State.runOn_ready s n f h, hf]

variable (s n c)

/-- A core that is set after memory was written. -/
theorem State.onlyCoreAndBytes_setCore (m : List Host.Cell) (a z : Nat)
    (h : ∀ k, k < a ∨ a + z ≤ k → ({ s with mem := m } : State).byte k = s.byte k) :
    s.onlyCoreAndBytes n c a z (({ s with mem := m } : State).setCore n c) := by
  refine ⟨State.core_setCore_same _ n c, fun k hk => ?_, fun k hk => ?_, ?_⟩
  · rw [State.core_setCore_ne _ n c hk]; rfl
  · rw [State.setCore_byte]; exact h k hk
  · rw [State.setCore_mem]; exact State.setCore_eq _ n c

end Sys2Proof.Machine
end

