-- ==== Sys2Proof/Laws/Report.lean ====
section
/-! SUPPORT. Laws of reports, faults, events, rejections and vectors: everything they can change. -/

namespace Sys2Proof.Machine

variable (s : State)

/-- t is s with other registers. -/
abbrev State.regsOnly (t : State) : Prop := t = { s with regs := t.regs }

variable {s} in
theorem State.regsOnly_wr {t : State} (h : s.regsOnly t) (f : Fld) (v : Nat) : s.regsOnly (t.wr f v) := by
  unfold State.regsOnly State.wr State.setReg at *
  rw [h]

variable {s} in
theorem State.regsOnly_bump {t : State} (h : s.regsOnly t) (f : Fld) (v : Nat) : s.regsOnly (t.bump f v) :=
  State.regsOnly_wr h ..

theorem State.regsOnly_self : s.regsOnly s := rfl

theorem State.putLog_eq (n : Nat) (r : Report) : s.putLog n r = { s with mem := (s.putLog n r).mem } := State.putBytes_eq ..

/-- Everything a report can do (R410): it changes the queue, or counts a loss, or folds into the last record of the log. -/
theorem State.report_cases (a b c d e : Nat) :
    (∃ q, s.report a b c d e = s.setQueue q) ∨ s.report a b c d e = s.bump (GL_LOSS_COUNT a) 1 ∨
      ∃ r, s.report a b c d e = s.foldLast r := by
  unfold State.report
  dsimp only
  split
  · split
    · exact .inl ⟨_, rfl⟩
    · split
      · exact .inl ⟨_, rfl⟩
      · exact .inr (.inl rfl)
  · split
    · exact .inr (.inr ⟨_, rfl⟩)
    · exact .inl ⟨_, rfl⟩
  · exact .inl ⟨_, rfl⟩

theorem Report.encode_length (r : Report) : r.encode.length = 32 := by
  unfold Report.encode
  rw [List.length_append, List.length_append, List.length_append, List.length_append, List.length_append, List.length_append,
    List.length_append, leBytes_length, leBytes_length, leBytes_length, leBytes_length, leBytes_length, leBytes_length,
    leBytes_length, leBytes_length]

theorem logSlot_out (n k : Nat) (h : k < logBase ∨ logBase + 0x20000 ≤ k) : k < logSlot n ∨ logSlot n + 32 ≤ k := by
  have := Nat.mod_lt n (show 0 < 4096 by decide)
  unfold logSlot
  generalize n % 4096 = m at *
  generalize logBase = b at *
  omega

theorem State.putLog_byte_ne (n : Nat) (r : Report) {k : Nat} (hk : k < logBase ∨ logBase + 0x20000 ≤ k) :
    (s.putLog n r).byte k = s.byte k :=
  State.byte_putBytes_out s _ k _ (by rw [Report.encode_length]; exact logSlot_out n k hk)

/-- Folding writes the log and the last record alone. -/
theorem State.foldLast_eq (r : Report) :
    s.foldLast r = { s with mem := (s.foldLast r).mem, gleaner := (s.foldLast r).gleaner } := by
  unfold State.foldLast
  generalize s.lastLog = n
  dsimp only
  split
  · rfl
  · rw [State.putLog_eq]

theorem State.foldLast_byte_ne (r : Report) {k : Nat} (hk : k < logBase ∨ logBase + 0x20000 ≤ k) :
    (s.foldLast r).byte k = s.byte k := by
  unfold State.foldLast
  generalize s.lastLog = n
  dsimp only
  split
  · rfl
  · have h := State.putLog_byte_ne s n r hk
    unfold State.byte at *
    exact h

/-- A report changes its source's loss counter, the log and the queue alone. -/
theorem State.report_eq (a b c d e : Nat) : s.report a b c d e =
    { s with regs := (s.report a b c d e).regs, mem := (s.report a b c d e).mem, gleaner := (s.report a b c d e).gleaner } := by
  rcases s.report_cases a b c d e with ⟨q, h⟩ | h | ⟨r, h⟩ <;> rw [h]
  · rfl
  · have e : s.regsOnly (s.bump (GL_LOSS_COUNT a) 1) := State.regsOnly_bump (State.regsOnly_self s) ..
    generalize s.bump (GL_LOSS_COUNT a) 1 = u at *
    rw [e]
  · have e := State.foldLast_eq s r
    generalize s.foldLast r = u at *
    rw [e]

theorem State.report_reg_ne (a b c d e : Nat) {o : Nat} (ho : o ≠ GL_LOSS a) : (s.report a b c d e).reg o = s.reg o := by
  rcases s.report_cases a b c d e with ⟨q, h⟩ | h | ⟨r, h⟩ <;> rw [h]
  · exact State.reg_of_regs rfl
  · exact State.reg_bump_ne s 1 ho
  · rw [State.foldLast_eq]; exact State.reg_of_regs rfl

/-- A report writes the log alone (R400, R411). -/
theorem State.report_byte_ne (a b c d e : Nat) {k : Nat} (hk : k < logBase ∨ logBase + 0x20000 ≤ k) :
    (s.report a b c d e).byte k = s.byte k := by
  rcases s.report_cases a b c d e with ⟨q, h⟩ | h | ⟨r, h⟩ <;> rw [h]
  · exact State.byte_of_mem rfl
  · exact State.wr_byte_eq ..
  · exact State.foldLast_byte_ne s r hk

theorem State.raiseVec_eq (fn : Bool) (v : Nat) :
    s.raiseVec fn v = { s with host := (s.raiseVec fn v).host, outbox := (s.raiseVec fn v).outbox } := by
  unfold State.raiseVec State.setFn State.send
  cases fn <;> dsimp only <;> (split <;> first | rfl | (split <;> rfl))

theorem State.raiseVec_reg (fn : Bool) (v o : Nat) : (s.raiseVec fn v).reg o = s.reg o := by rw [State.raiseVec_eq]; exact State.reg_of_regs rfl
theorem State.raiseVec_byte (fn : Bool) (v k : Nat) : (s.raiseVec fn v).byte k = s.byte k := by rw [State.raiseVec_eq]; exact State.byte_of_mem rfl

/-! What `report` leaves alone. -/

@[simp] theorem State.report_pending (a b c d e : Nat) : (s.report a b c d e).pending = s.pending := by rw [State.report_eq]
@[simp] theorem State.report_now (a b c d e : Nat) : (s.report a b c d e).now = s.now := by rw [State.report_eq]
@[simp] theorem State.report_free (a b c d e : Nat) : (s.report a b c d e).free = s.free := by rw [State.report_eq]
@[simp] theorem State.report_memBad (a b c d e : Nat) : (s.report a b c d e).memBad = s.memBad := by rw [State.report_eq]
@[simp] theorem State.report_cal (a b c d e : Nat) : (s.report a b c d e).cal = s.cal := by rw [State.report_eq]
@[simp] theorem State.report_calSet (a b c d e : Nat) : (s.report a b c d e).calSet = s.calSet := by rw [State.report_eq]
@[simp] theorem State.report_boot (a b c d e : Nat) : (s.report a b c d e).boot = s.boot := by rw [State.report_eq]
@[simp] theorem State.report_fabric (a b c d e : Nat) : (s.report a b c d e).fabric = s.fabric := by rw [State.report_eq]
@[simp] theorem State.report_active (a b c d e : Nat) : (s.report a b c d e).active = s.active := by rw [State.report_eq]
@[simp] theorem State.report_host (a b c d e : Nat) : (s.report a b c d e).host = s.host := by rw [State.report_eq]
@[simp] theorem State.report_queues (a b c d e : Nat) : (s.report a b c d e).queues = s.queues := by rw [State.report_eq]
@[simp] theorem State.report_requests (a b c d e : Nat) : (s.report a b c d e).requests = s.requests := by rw [State.report_eq]
@[simp] theorem State.report_pass (a b c d e : Nat) : (s.report a b c d e).pass = s.pass := by rw [State.report_eq]
@[simp] theorem State.report_points (a b c d e : Nat) : (s.report a b c d e).points = s.points := by rw [State.report_eq]
@[simp] theorem State.report_survey (a b c d e : Nat) : (s.report a b c d e).survey = s.survey := by rw [State.report_eq]
@[simp] theorem State.report_lanes (a b c d e : Nat) : (s.report a b c d e).lanes = s.lanes := by rw [State.report_eq]
@[simp] theorem State.report_testErrs (a b c d e : Nat) : (s.report a b c d e).testErrs = s.testErrs := by rw [State.report_eq]
@[simp] theorem State.report_camp (a b c d e : Nat) : (s.report a b c d e).camp = s.camp := by rw [State.report_eq]
@[simp] theorem State.report_bus (a b c d e : Nat) : (s.report a b c d e).bus = s.bus := by rw [State.report_eq]
@[simp] theorem State.report_busAges (a b c d e : Nat) : (s.report a b c d e).busAges = s.busAges := by rw [State.report_eq]
@[simp] theorem State.report_meter (a b c d e : Nat) : (s.report a b c d e).meter = s.meter := by rw [State.report_eq]
@[simp] theorem State.report_field (a b c d e : Nat) : (s.report a b c d e).field = s.field := by rw [State.report_eq]
@[simp] theorem State.report_stations (a b c d e : Nat) : (s.report a b c d e).stations = s.stations := by rw [State.report_eq]
@[simp] theorem State.report_keys (a b c d e : Nat) : (s.report a b c d e).keys = s.keys := by rw [State.report_eq]
@[simp] theorem State.report_jtag (a b c d e : Nat) : (s.report a b c d e).jtag = s.jtag := by rw [State.report_eq]
@[simp] theorem State.report_outputs (a b c d e : Nat) : (s.report a b c d e).outputs = s.outputs := by rw [State.report_eq]
@[simp] theorem State.report_loops (a b c d e : Nat) : (s.report a b c d e).loops = s.loops := by rw [State.report_eq]
@[simp] theorem State.report_pair (a b c d e : Nat) : (s.report a b c d e).pair = s.pair := by rw [State.report_eq]
@[simp] theorem State.report_outbox (a b c d e : Nat) : (s.report a b c d e).outbox = s.outbox := by rw [State.report_eq]

/-! What `raiseVec` leaves alone. -/

@[simp] theorem State.raiseVec_pending (fn : Bool) (v : Nat) : (s.raiseVec fn v).pending = s.pending := by rw [State.raiseVec_eq]
@[simp] theorem State.raiseVec_now (fn : Bool) (v : Nat) : (s.raiseVec fn v).now = s.now := by rw [State.raiseVec_eq]
@[simp] theorem State.raiseVec_free (fn : Bool) (v : Nat) : (s.raiseVec fn v).free = s.free := by rw [State.raiseVec_eq]
@[simp] theorem State.raiseVec_regs (fn : Bool) (v : Nat) : (s.raiseVec fn v).regs = s.regs := by rw [State.raiseVec_eq]
@[simp] theorem State.raiseVec_mem (fn : Bool) (v : Nat) : (s.raiseVec fn v).mem = s.mem := by rw [State.raiseVec_eq]
@[simp] theorem State.raiseVec_memBad (fn : Bool) (v : Nat) : (s.raiseVec fn v).memBad = s.memBad := by rw [State.raiseVec_eq]
@[simp] theorem State.raiseVec_cal (fn : Bool) (v : Nat) : (s.raiseVec fn v).cal = s.cal := by rw [State.raiseVec_eq]
@[simp] theorem State.raiseVec_calSet (fn : Bool) (v : Nat) : (s.raiseVec fn v).calSet = s.calSet := by rw [State.raiseVec_eq]
@[simp] theorem State.raiseVec_boot (fn : Bool) (v : Nat) : (s.raiseVec fn v).boot = s.boot := by rw [State.raiseVec_eq]
@[simp] theorem State.raiseVec_fabric (fn : Bool) (v : Nat) : (s.raiseVec fn v).fabric = s.fabric := by rw [State.raiseVec_eq]
@[simp] theorem State.raiseVec_active (fn : Bool) (v : Nat) : (s.raiseVec fn v).active = s.active := by rw [State.raiseVec_eq]
@[simp] theorem State.raiseVec_gleaner (fn : Bool) (v : Nat) : (s.raiseVec fn v).gleaner = s.gleaner := by rw [State.raiseVec_eq]
@[simp] theorem State.raiseVec_queues (fn : Bool) (v : Nat) : (s.raiseVec fn v).queues = s.queues := by rw [State.raiseVec_eq]
@[simp] theorem State.raiseVec_requests (fn : Bool) (v : Nat) : (s.raiseVec fn v).requests = s.requests := by rw [State.raiseVec_eq]
@[simp] theorem State.raiseVec_pass (fn : Bool) (v : Nat) : (s.raiseVec fn v).pass = s.pass := by rw [State.raiseVec_eq]
@[simp] theorem State.raiseVec_points (fn : Bool) (v : Nat) : (s.raiseVec fn v).points = s.points := by rw [State.raiseVec_eq]
@[simp] theorem State.raiseVec_survey (fn : Bool) (v : Nat) : (s.raiseVec fn v).survey = s.survey := by rw [State.raiseVec_eq]
@[simp] theorem State.raiseVec_lanes (fn : Bool) (v : Nat) : (s.raiseVec fn v).lanes = s.lanes := by rw [State.raiseVec_eq]
@[simp] theorem State.raiseVec_testErrs (fn : Bool) (v : Nat) : (s.raiseVec fn v).testErrs = s.testErrs := by rw [State.raiseVec_eq]
@[simp] theorem State.raiseVec_camp (fn : Bool) (v : Nat) : (s.raiseVec fn v).camp = s.camp := by rw [State.raiseVec_eq]
@[simp] theorem State.raiseVec_bus (fn : Bool) (v : Nat) : (s.raiseVec fn v).bus = s.bus := by rw [State.raiseVec_eq]
@[simp] theorem State.raiseVec_busAges (fn : Bool) (v : Nat) : (s.raiseVec fn v).busAges = s.busAges := by rw [State.raiseVec_eq]
@[simp] theorem State.raiseVec_meter (fn : Bool) (v : Nat) : (s.raiseVec fn v).meter = s.meter := by rw [State.raiseVec_eq]
@[simp] theorem State.raiseVec_field (fn : Bool) (v : Nat) : (s.raiseVec fn v).field = s.field := by rw [State.raiseVec_eq]
@[simp] theorem State.raiseVec_stations (fn : Bool) (v : Nat) : (s.raiseVec fn v).stations = s.stations := by rw [State.raiseVec_eq]
@[simp] theorem State.raiseVec_keys (fn : Bool) (v : Nat) : (s.raiseVec fn v).keys = s.keys := by rw [State.raiseVec_eq]
@[simp] theorem State.raiseVec_jtag (fn : Bool) (v : Nat) : (s.raiseVec fn v).jtag = s.jtag := by rw [State.raiseVec_eq]
@[simp] theorem State.raiseVec_outputs (fn : Bool) (v : Nat) : (s.raiseVec fn v).outputs = s.outputs := by rw [State.raiseVec_eq]
@[simp] theorem State.raiseVec_loops (fn : Bool) (v : Nat) : (s.raiseVec fn v).loops = s.loops := by rw [State.raiseVec_eq]
@[simp] theorem State.raiseVec_pair (fn : Bool) (v : Nat) : (s.raiseVec fn v).pair = s.pair := by rw [State.raiseVec_eq]

/-- The steps that a recorded fault takes beside its record. -/
theorem State.recordFault_unfold (a b c d : Nat) : ∃ u : State, u = ((((s.wr GLOBAL_FAULT_STAT_SEEN (s.rd GLOBAL_FAULT_STAT_SEEN ||| 2 ^ a)).bump
    GLOBAL_FAULT_CNT_COUNT 1).wr GLOBAL_FAULT_LAST_CODE c).wr GLOBAL_FAULT_LAST_SOURCE b).wr GLOBAL_FAULT_LAST_CLASS a ∧
    s.regsOnly u ∧
    s.recordFault a b c d = (u.report b (kindFault a) c mNone d).raiseVec false 0 :=
  ⟨_, rfl, State.regsOnly_wr (State.regsOnly_wr (State.regsOnly_wr (State.regsOnly_bump (State.regsOnly_wr (State.regsOnly_self s) ..) ..) ..) ..) .., by
    unfold State.recordFault; rfl⟩

theorem State.recordFault_reg_ne (a b c d : Nat) {o : Nat} (h1 : o ≠ GLOBAL_FAULT_STAT) (h2 : o ≠ GLOBAL_FAULT_CNT)
    (h3 : o ≠ GLOBAL_FAULT_LAST) (h4 : o ≠ GL_LOSS b) : (s.recordFault a b c d).reg o = s.reg o := by
  rw [State.recordFault, State.raiseVec_reg, State.report_reg_ne _ _ _ _ _ _ h4]
  iterate 3 rw [State.reg_wr_ne _ _ h3]
  rw [State.reg_bump_ne _ _ h2, State.reg_wr_ne _ _ h1]

theorem State.recordFault_byte_ne (a b c d : Nat) {k : Nat} (h : k < logBase ∨ logBase + 0x20000 ≤ k) :
    (s.recordFault a b c d).byte k = s.byte k := by
  obtain ⟨u, -, hu, h2⟩ := s.recordFault_unfold a b c d
  rw [h2, State.raiseVec_byte, State.report_byte_ne _ _ _ _ _ _ h, hu]
  exact State.byte_of_mem rfl

/-- GLOBAL_FAULT_LAST shows the fault just recorded. -/
theorem State.recordFault_last (a b c d : Nat) (h : ∀ n, GL_LOSS n ≠ GLOBAL_FAULT_LAST) :
    (s.recordFault a b c d).rd GLOBAL_FAULT_LAST_CODE = c % 256 ∧ (s.recordFault a b c d).rd GLOBAL_FAULT_LAST_SOURCE = b % 32 ∧
      (s.recordFault a b c d).rd GLOBAL_FAULT_LAST_CLASS = a % 4 := by
  have e : ∀ f : Fld, f.off = GLOBAL_FAULT_LAST → (s.recordFault a b c d).rd f =
      ((((((s.wr GLOBAL_FAULT_STAT_SEEN (s.rd GLOBAL_FAULT_STAT_SEEN ||| 2 ^ a)).bump GLOBAL_FAULT_CNT_COUNT 1).wr
        GLOBAL_FAULT_LAST_CODE c).wr GLOBAL_FAULT_LAST_SOURCE b).wr GLOBAL_FAULT_LAST_CLASS a)).rd f := by
    intro f hf
    rw [State.rd, State.recordFault, State.raiseVec_reg, State.report_reg_ne _ _ _ _ _ _ (by rw [hf]; exact fun e => h b e.symm)]
    rfl
  refine ⟨?_, ?_, ?_⟩
  · rw [e _ rfl, State.rd_wr_apart _ _ (by decide) (by decide) (by decide), State.rd_wr_apart _ _ (by decide) (by decide) (by decide),
      State.rd_wr_same _ _ (by decide)]
    rfl
  · rw [e _ rfl, State.rd_wr_apart _ _ (by decide) (by decide) (by decide), State.rd_wr_same _ _ (by decide)]
    rfl
  · rw [e _ rfl, State.rd_wr_same _ _ (by decide)]
    rfl

/-! What `recordFault` leaves alone. -/

@[simp] theorem State.recordFault_pending (a b c d : Nat) : (s.recordFault a b c d).pending = s.pending := by
  obtain ⟨u, -, hu, h2⟩ := s.recordFault_unfold a b c d; rw [h2, State.raiseVec_pending, State.report_pending, hu]
@[simp] theorem State.recordFault_now (a b c d : Nat) : (s.recordFault a b c d).now = s.now := by
  obtain ⟨u, -, hu, h2⟩ := s.recordFault_unfold a b c d; rw [h2, State.raiseVec_now, State.report_now, hu]
@[simp] theorem State.recordFault_free (a b c d : Nat) : (s.recordFault a b c d).free = s.free := by
  obtain ⟨u, -, hu, h2⟩ := s.recordFault_unfold a b c d; rw [h2, State.raiseVec_free, State.report_free, hu]
@[simp] theorem State.recordFault_memBad (a b c d : Nat) : (s.recordFault a b c d).memBad = s.memBad := by
  obtain ⟨u, -, hu, h2⟩ := s.recordFault_unfold a b c d; rw [h2, State.raiseVec_memBad, State.report_memBad, hu]
@[simp] theorem State.recordFault_cal (a b c d : Nat) : (s.recordFault a b c d).cal = s.cal := by
  obtain ⟨u, -, hu, h2⟩ := s.recordFault_unfold a b c d; rw [h2, State.raiseVec_cal, State.report_cal, hu]
@[simp] theorem State.recordFault_calSet (a b c d : Nat) : (s.recordFault a b c d).calSet = s.calSet := by
  obtain ⟨u, -, hu, h2⟩ := s.recordFault_unfold a b c d; rw [h2, State.raiseVec_calSet, State.report_calSet, hu]
@[simp] theorem State.recordFault_boot (a b c d : Nat) : (s.recordFault a b c d).boot = s.boot := by
  obtain ⟨u, -, hu, h2⟩ := s.recordFault_unfold a b c d; rw [h2, State.raiseVec_boot, State.report_boot, hu]
@[simp] theorem State.recordFault_fabric (a b c d : Nat) : (s.recordFault a b c d).fabric = s.fabric := by
  obtain ⟨u, -, hu, h2⟩ := s.recordFault_unfold a b c d; rw [h2, State.raiseVec_fabric, State.report_fabric, hu]
@[simp] theorem State.recordFault_active (a b c d : Nat) : (s.recordFault a b c d).active = s.active := by
  obtain ⟨u, -, hu, h2⟩ := s.recordFault_unfold a b c d; rw [h2, State.raiseVec_active, State.report_active, hu]
@[simp] theorem State.recordFault_queues (a b c d : Nat) : (s.recordFault a b c d).queues = s.queues := by
  obtain ⟨u, -, hu, h2⟩ := s.recordFault_unfold a b c d; rw [h2, State.raiseVec_queues, State.report_queues, hu]
@[simp] theorem State.recordFault_requests (a b c d : Nat) : (s.recordFault a b c d).requests = s.requests := by
  obtain ⟨u, -, hu, h2⟩ := s.recordFault_unfold a b c d; rw [h2, State.raiseVec_requests, State.report_requests, hu]
@[simp] theorem State.recordFault_pass (a b c d : Nat) : (s.recordFault a b c d).pass = s.pass := by
  obtain ⟨u, -, hu, h2⟩ := s.recordFault_unfold a b c d; rw [h2, State.raiseVec_pass, State.report_pass, hu]
@[simp] theorem State.recordFault_points (a b c d : Nat) : (s.recordFault a b c d).points = s.points := by
  obtain ⟨u, -, hu, h2⟩ := s.recordFault_unfold a b c d; rw [h2, State.raiseVec_points, State.report_points, hu]
@[simp] theorem State.recordFault_survey (a b c d : Nat) : (s.recordFault a b c d).survey = s.survey := by
  obtain ⟨u, -, hu, h2⟩ := s.recordFault_unfold a b c d; rw [h2, State.raiseVec_survey, State.report_survey, hu]
@[simp] theorem State.recordFault_lanes (a b c d : Nat) : (s.recordFault a b c d).lanes = s.lanes := by
  obtain ⟨u, -, hu, h2⟩ := s.recordFault_unfold a b c d; rw [h2, State.raiseVec_lanes, State.report_lanes, hu]
@[simp] theorem State.recordFault_testErrs (a b c d : Nat) : (s.recordFault a b c d).testErrs = s.testErrs := by
  obtain ⟨u, -, hu, h2⟩ := s.recordFault_unfold a b c d; rw [h2, State.raiseVec_testErrs, State.report_testErrs, hu]
@[simp] theorem State.recordFault_camp (a b c d : Nat) : (s.recordFault a b c d).camp = s.camp := by
  obtain ⟨u, -, hu, h2⟩ := s.recordFault_unfold a b c d; rw [h2, State.raiseVec_camp, State.report_camp, hu]
@[simp] theorem State.recordFault_bus (a b c d : Nat) : (s.recordFault a b c d).bus = s.bus := by
  obtain ⟨u, -, hu, h2⟩ := s.recordFault_unfold a b c d; rw [h2, State.raiseVec_bus, State.report_bus, hu]
@[simp] theorem State.recordFault_busAges (a b c d : Nat) : (s.recordFault a b c d).busAges = s.busAges := by
  obtain ⟨u, -, hu, h2⟩ := s.recordFault_unfold a b c d; rw [h2, State.raiseVec_busAges, State.report_busAges, hu]
@[simp] theorem State.recordFault_meter (a b c d : Nat) : (s.recordFault a b c d).meter = s.meter := by
  obtain ⟨u, -, hu, h2⟩ := s.recordFault_unfold a b c d; rw [h2, State.raiseVec_meter, State.report_meter, hu]
@[simp] theorem State.recordFault_field (a b c d : Nat) : (s.recordFault a b c d).field = s.field := by
  obtain ⟨u, -, hu, h2⟩ := s.recordFault_unfold a b c d; rw [h2, State.raiseVec_field, State.report_field, hu]
@[simp] theorem State.recordFault_stations (a b c d : Nat) : (s.recordFault a b c d).stations = s.stations := by
  obtain ⟨u, -, hu, h2⟩ := s.recordFault_unfold a b c d; rw [h2, State.raiseVec_stations, State.report_stations, hu]
@[simp] theorem State.recordFault_keys (a b c d : Nat) : (s.recordFault a b c d).keys = s.keys := by
  obtain ⟨u, -, hu, h2⟩ := s.recordFault_unfold a b c d; rw [h2, State.raiseVec_keys, State.report_keys, hu]
@[simp] theorem State.recordFault_jtag (a b c d : Nat) : (s.recordFault a b c d).jtag = s.jtag := by
  obtain ⟨u, -, hu, h2⟩ := s.recordFault_unfold a b c d; rw [h2, State.raiseVec_jtag, State.report_jtag, hu]
@[simp] theorem State.recordFault_outputs (a b c d : Nat) : (s.recordFault a b c d).outputs = s.outputs := by
  obtain ⟨u, -, hu, h2⟩ := s.recordFault_unfold a b c d; rw [h2, State.raiseVec_outputs, State.report_outputs, hu]
@[simp] theorem State.recordFault_loops (a b c d : Nat) : (s.recordFault a b c d).loops = s.loops := by
  obtain ⟨u, -, hu, h2⟩ := s.recordFault_unfold a b c d; rw [h2, State.raiseVec_loops, State.report_loops, hu]
@[simp] theorem State.recordFault_pair (a b c d : Nat) : (s.recordFault a b c d).pair = s.pair := by
  obtain ⟨u, -, hu, h2⟩ := s.recordFault_unfold a b c d; rw [h2, State.raiseVec_pair, State.report_pair, hu]

/-- The steps that a rejection takes beside its record. -/
theorem State.reject_unfold (m a c : Nat) (w : Bool) : ∃ u : State, s.regsOnly u ∧
    (∀ o, o ≠ ACCESS_ERR m → o ≠ ACCESS_ERR_CNT → u.reg o = s.reg o) ∧
    s.reject m a c w = u.report (blockOf (a % 2 ^ 40)) (kindReject w) c m (a % 2 ^ 40) := by
  unfold State.reject
  dsimp only
  generalize blockOf (a % 2 ^ 40) = k
  generalize a % 2 ^ 40 = a
  split
  · exact ⟨_, State.regsOnly_bump (State.regsOnly_wr (State.regsOnly_wr (State.regsOnly_wr (State.regsOnly_self s) ..) ..) ..) .., fun o h1 h2 => by
      rw [State.reg_bump_ne _ _ h2, State.reg_wr_ne _ _ h1, State.reg_wr_ne _ _ h1, State.reg_wr_ne _ _ h1], rfl⟩
  · exact ⟨_, State.regsOnly_bump (State.regsOnly_wr (State.regsOnly_self s) ..) .., fun o h1 h2 => by
      rw [State.reg_bump_ne _ _ h2, State.reg_wr_ne _ _ h1], rfl⟩

theorem State.reject_reg_ne (m a c : Nat) (w : Bool) {o : Nat} (h1 : o ≠ ACCESS_ERR m) (h2 : o ≠ ACCESS_ERR_CNT)
    (h3 : o ≠ GL_LOSS (blockOf (a % 2 ^ 40))) : (s.reject m a c w).reg o = s.reg o := by
  obtain ⟨u, -, h, h4⟩ := s.reject_unfold m a c w
  rw [h4, State.report_reg_ne _ _ _ _ _ _ h3, h _ h1 h2]

theorem State.reject_byte_ne (m a c : Nat) (w : Bool) {k : Nat} (h : k < logBase ∨ logBase + 0x20000 ≤ k) :
    (s.reject m a c w).byte k = s.byte k := by
  obtain ⟨u, hu, -, h4⟩ := s.reject_unfold m a c w
  rw [h4, State.report_byte_ne _ _ _ _ _ _ h, hu]
  exact State.byte_of_mem rfl

/-! What `reject` leaves alone. -/

@[simp] theorem State.reject_pending (m a c : Nat) (w : Bool) : (s.reject m a c w).pending = s.pending := by
  obtain ⟨u, hu, -, h4⟩ := s.reject_unfold m a c w; rw [h4, State.report_pending, hu]
@[simp] theorem State.reject_now (m a c : Nat) (w : Bool) : (s.reject m a c w).now = s.now := by
  obtain ⟨u, hu, -, h4⟩ := s.reject_unfold m a c w; rw [h4, State.report_now, hu]
@[simp] theorem State.reject_free (m a c : Nat) (w : Bool) : (s.reject m a c w).free = s.free := by
  obtain ⟨u, hu, -, h4⟩ := s.reject_unfold m a c w; rw [h4, State.report_free, hu]
@[simp] theorem State.reject_memBad (m a c : Nat) (w : Bool) : (s.reject m a c w).memBad = s.memBad := by
  obtain ⟨u, hu, -, h4⟩ := s.reject_unfold m a c w; rw [h4, State.report_memBad, hu]
@[simp] theorem State.reject_cal (m a c : Nat) (w : Bool) : (s.reject m a c w).cal = s.cal := by
  obtain ⟨u, hu, -, h4⟩ := s.reject_unfold m a c w; rw [h4, State.report_cal, hu]
@[simp] theorem State.reject_calSet (m a c : Nat) (w : Bool) : (s.reject m a c w).calSet = s.calSet := by
  obtain ⟨u, hu, -, h4⟩ := s.reject_unfold m a c w; rw [h4, State.report_calSet, hu]
@[simp] theorem State.reject_boot (m a c : Nat) (w : Bool) : (s.reject m a c w).boot = s.boot := by
  obtain ⟨u, hu, -, h4⟩ := s.reject_unfold m a c w; rw [h4, State.report_boot, hu]
@[simp] theorem State.reject_fabric (m a c : Nat) (w : Bool) : (s.reject m a c w).fabric = s.fabric := by
  obtain ⟨u, hu, -, h4⟩ := s.reject_unfold m a c w; rw [h4, State.report_fabric, hu]
@[simp] theorem State.reject_active (m a c : Nat) (w : Bool) : (s.reject m a c w).active = s.active := by
  obtain ⟨u, hu, -, h4⟩ := s.reject_unfold m a c w; rw [h4, State.report_active, hu]
@[simp] theorem State.reject_host (m a c : Nat) (w : Bool) : (s.reject m a c w).host = s.host := by
  obtain ⟨u, hu, -, h4⟩ := s.reject_unfold m a c w; rw [h4, State.report_host, hu]
@[simp] theorem State.reject_queues (m a c : Nat) (w : Bool) : (s.reject m a c w).queues = s.queues := by
  obtain ⟨u, hu, -, h4⟩ := s.reject_unfold m a c w; rw [h4, State.report_queues, hu]
@[simp] theorem State.reject_requests (m a c : Nat) (w : Bool) : (s.reject m a c w).requests = s.requests := by
  obtain ⟨u, hu, -, h4⟩ := s.reject_unfold m a c w; rw [h4, State.report_requests, hu]
@[simp] theorem State.reject_pass (m a c : Nat) (w : Bool) : (s.reject m a c w).pass = s.pass := by
  obtain ⟨u, hu, -, h4⟩ := s.reject_unfold m a c w; rw [h4, State.report_pass, hu]
@[simp] theorem State.reject_points (m a c : Nat) (w : Bool) : (s.reject m a c w).points = s.points := by
  obtain ⟨u, hu, -, h4⟩ := s.reject_unfold m a c w; rw [h4, State.report_points, hu]
@[simp] theorem State.reject_survey (m a c : Nat) (w : Bool) : (s.reject m a c w).survey = s.survey := by
  obtain ⟨u, hu, -, h4⟩ := s.reject_unfold m a c w; rw [h4, State.report_survey, hu]
@[simp] theorem State.reject_lanes (m a c : Nat) (w : Bool) : (s.reject m a c w).lanes = s.lanes := by
  obtain ⟨u, hu, -, h4⟩ := s.reject_unfold m a c w; rw [h4, State.report_lanes, hu]
@[simp] theorem State.reject_testErrs (m a c : Nat) (w : Bool) : (s.reject m a c w).testErrs = s.testErrs := by
  obtain ⟨u, hu, -, h4⟩ := s.reject_unfold m a c w; rw [h4, State.report_testErrs, hu]
@[simp] theorem State.reject_camp (m a c : Nat) (w : Bool) : (s.reject m a c w).camp = s.camp := by
  obtain ⟨u, hu, -, h4⟩ := s.reject_unfold m a c w; rw [h4, State.report_camp, hu]
@[simp] theorem State.reject_bus (m a c : Nat) (w : Bool) : (s.reject m a c w).bus = s.bus := by
  obtain ⟨u, hu, -, h4⟩ := s.reject_unfold m a c w; rw [h4, State.report_bus, hu]
@[simp] theorem State.reject_busAges (m a c : Nat) (w : Bool) : (s.reject m a c w).busAges = s.busAges := by
  obtain ⟨u, hu, -, h4⟩ := s.reject_unfold m a c w; rw [h4, State.report_busAges, hu]
@[simp] theorem State.reject_meter (m a c : Nat) (w : Bool) : (s.reject m a c w).meter = s.meter := by
  obtain ⟨u, hu, -, h4⟩ := s.reject_unfold m a c w; rw [h4, State.report_meter, hu]
@[simp] theorem State.reject_field (m a c : Nat) (w : Bool) : (s.reject m a c w).field = s.field := by
  obtain ⟨u, hu, -, h4⟩ := s.reject_unfold m a c w; rw [h4, State.report_field, hu]
@[simp] theorem State.reject_stations (m a c : Nat) (w : Bool) : (s.reject m a c w).stations = s.stations := by
  obtain ⟨u, hu, -, h4⟩ := s.reject_unfold m a c w; rw [h4, State.report_stations, hu]
@[simp] theorem State.reject_keys (m a c : Nat) (w : Bool) : (s.reject m a c w).keys = s.keys := by
  obtain ⟨u, hu, -, h4⟩ := s.reject_unfold m a c w; rw [h4, State.report_keys, hu]
@[simp] theorem State.reject_jtag (m a c : Nat) (w : Bool) : (s.reject m a c w).jtag = s.jtag := by
  obtain ⟨u, hu, -, h4⟩ := s.reject_unfold m a c w; rw [h4, State.report_jtag, hu]
@[simp] theorem State.reject_outputs (m a c : Nat) (w : Bool) : (s.reject m a c w).outputs = s.outputs := by
  obtain ⟨u, hu, -, h4⟩ := s.reject_unfold m a c w; rw [h4, State.report_outputs, hu]
@[simp] theorem State.reject_loops (m a c : Nat) (w : Bool) : (s.reject m a c w).loops = s.loops := by
  obtain ⟨u, hu, -, h4⟩ := s.reject_unfold m a c w; rw [h4, State.report_loops, hu]
@[simp] theorem State.reject_pair (m a c : Nat) (w : Bool) : (s.reject m a c w).pair = s.pair := by
  obtain ⟨u, hu, -, h4⟩ := s.reject_unfold m a c w; rw [h4, State.report_pair, hu]
@[simp] theorem State.reject_outbox (m a c : Nat) (w : Bool) : (s.reject m a c w).outbox = s.outbox := by
  obtain ⟨u, hu, -, h4⟩ := s.reject_unfold m a c w; rw [h4, State.report_outbox, hu]

end Sys2Proof.Machine
end

