-- ==== Sys2Proof/Laws/Fabric.lean ====
section
/-! SUPPORT. Laws of the register fabric: what a write that meets no check does, and what a master sees. -/

namespace Sys2Proof.Machine

variable {s : State}

/-- With nothing accepted and waiting, a check sees the registers in force. -/
theorem State.viewed_quiet (h : s.accepted = []) : s.viewed = s := by rw [State.viewed, State.each, h]; rfl

theorem State.view_quiet (h : s.accepted = []) (o : Nat) : s.view o = s.reg o := by rw [State.view, h]; rfl

theorem pickCode_none {xs : List Nat} (h : pickCode xs = none) : xs = [] := by
  cases xs with
  | nil => rfl
  | cons c cs =>
    rw [pickCode] at h
    split at h <;> cases h

/-- A 32-bit write of an aligned offset keeps the rule of width. -/
theorem widthCodes_word {o : Nat} (h : o % 4 = 0) (w : Bool) : widthCodes w 32 o = [] := by
  unfold widthCodes
  simp [h]

/-- A master that is let to a place reaches its block. -/
theorem State.placeCodes_reach {m o : Nat} {w : Bool} (h : s.placeCodes m o w = []) : inReach m o = true := by
  unfold State.placeCodes at h
  unfold inReach
  split at h
  · cases h
  · rename_i b hb
    have h2 : (reachCode m o b).toList = [] := (List.append_eq_nil_iff.mp h).2
    rw [hb]
    dsimp only
    cases hr : reachCode m o b with
    | none => rfl
    | some c => rw [hr] at h2; cases h2

/-- An offset that a master reaches lies within BAR0. -/
theorem inReach_lt {m o : Nat} (h : inReach m o = true) : o < 0x400000 := by
  unfold inReach at h
  split at h
  · rename_i b hb
    obtain ⟨r, hr, -⟩ := Option.map_eq_some_iff.mp hb
    have h1 : ∀ r ∈ blockRanges, r.2.1 ≤ 0x400000 := by decide
    have h2 := List.find?_some hr
    have h3 := h1 r (List.mem_of_find?_eq_some hr)
    simp at h2
    omega
  · cases h

/-- What a 32-bit write of an aligned offset meets. -/
theorem State.intents_word {o data : Nat} {t : Target} (ho : o % 4 = 0) (ht : target? o = some t) :
    s.intents 32 o data = [s.intent t (BitVec.ofNat 32 data)] := by
  have ho' : o / 4 * 4 = o := by omega
  unfold State.intents
  simp only [ho', ht, show ¬ (32 = 64) by decide, if_false, List.filterMap_cons, List.filterMap_nil, List.zipIdx_cons,
    List.zipIdx_nil, List.map_cons, List.map_nil, Nat.mul_zero, Nat.pow_zero, Nat.div_one]

/-- The codes of a 32-bit write to a place that its master is let to. -/
theorem State.regWriteCodes_word {m o data : Nat} {t : Target} (ho : o % 4 = 0) (ht : target? o = some t)
    (hb : blockOf o ≠ bMailbox) (hu : o ≠ ACCESS_UNLOCK) (hp : s.placeCodes m o true = []) :
    s.regWriteCodes m 32 o data = s.writeCodes m false false [s.intent t (BitVec.ofNat 32 data)] := by
  have ho' : o / 4 * 4 = o := by omega
  unfold State.regWriteCodes
  simp [ho', hp, widthCodes_word ho, State.placeCodes_reach hp, State.intents_word ho ht, beq_eq_false_iff_ne.mpr hb,
    beq_eq_false_iff_ne.mpr hu]

/-- A 32-bit write that breaks no rule is applied to its register, and a guarded one spends its master's unlock (R77,
R81). -/
theorem State.regWriteBy_plain {eff : State → Intent → State} {m o data : Nat} {t : Target} (ha : s.canAccess m = true)
    (ho : o % 4 = 0) (ht : target? o = some t) (hb : blockOf o ≠ bMailbox) (hu : o ≠ ACCESS_UNLOCK)
    (hp : s.placeCodes m o true = []) (hc : s.writeCodes m false false [s.intent t (BitVec.ofNat 32 data)] = []) :
    s.regWriteBy eff m 32 o data =
      eff (if t.row.guarded then s.relock m else s) (s.intent t (BitVec.ofNat 32 data)) := by
  have ho' : o / 4 * 4 = o := by omega
  have hlt : ¬ 0x400000 ≤ o := by have := inReach_lt (State.placeCodes_reach hp); omega
  have hit : (s.intent t (BitVec.ofNat 32 data)).t = t := rfl
  unfold State.regWriteBy
  simp only [State.regWriteCodes_word ho ht hb hu hp, State.intents_word ho ht, hc, pickCode, ho', ha, hlt, hb, hu, hit,
    State.placeCodes_reach hp, if_false, State.each, List.foldl_cons, List.foldl_nil, List.any_cons, List.any_nil, Bool.or_false,
    Bool.true_and, show ¬ (32 = 0) by decide, decide_false, Bool.not_true, Bool.false_or, Bool.false_eq_true]

variable (s)

/-- A field after a report whose loss register is another. -/
theorem State.rd_report_ne (a b c d e : Nat) {f : Fld} (h : f.off ≠ GL_LOSS a) : (s.report a b c d e).rd f = s.rd f := by
  rw [State.rd, State.rd, State.report_reg_ne s a b c d e h]

theorem satAdd_lt (w v : Nat) (k : Nat) : satAdd w v k < 2 ^ w := by
  have := Nat.two_pow_pos w
  unfold satAdd; omega

/-- Everything a rejection does (R78). -/
theorem State.reject_rejects (m a c : Nat) (w : Bool) (hm : m < 16) : s.rejects m a c w (s.reject m a c w) := by
  have hl : ∀ k, GL_LOSS k ≠ ACCESS_ERR_CNT := fun k => by unfold GL_LOSS ACCESS_ERR_CNT; omega
  have hl' : ∀ k, GL_LOSS k ≠ ACCESS_ERR m := fun k => by unfold GL_LOSS ACCESS_ERR; omega
  have he : ACCESS_ERR m ≠ ACCESS_ERR_CNT := by unfold ACCESS_ERR ACCESS_ERR_CNT; omega
  refine ⟨?_, fun o h1 h2 h3 => State.reject_reg_ne s m a c w h1 h2 h3, fun k h => State.reject_byte_ne s m a c w h, ?_, ?_, ?_⟩
  · obtain ⟨u, hu, -, h4⟩ := s.reject_unfold m a c w
    rw [h4, State.report_eq, hu]
  · unfold State.reject
    generalize blockOf (a % 2 ^ 40) = k
    generalize a % 2 ^ 40 = e
    dsimp only
    rw [State.rd_report_ne _ _ _ _ _ _ (fun h => hl k h.symm), State.rd_bump_same _ _ (by decide)]
    have : ∀ f v, f.off = ACCESS_ERR m → ∀ u : State, (u.wr f v).rd ACCESS_ERR_CNT_COUNT = u.rd ACCESS_ERR_CNT_COUNT := fun f v h u =>
      State.rd_wr_ne u v (by rw [h]; exact he.symm)
    split
    · rw [this _ _ rfl, this _ _ rfl, this _ _ rfl]; rfl
    · rw [this _ _ rfl]; rfl
  all_goals
    intro h0
    unfold State.reject
    generalize blockOf (a % 2 ^ 40) = k
    generalize a % 2 ^ 40 = e
    dsimp only
    simp only [h0, if_true, if_false]
    have hr : ∀ (u : State) (f : Fld), f.off = ACCESS_ERR m →
        ((u.bump ACCESS_ERR_CNT_COUNT 1).report k (kindReject w) c m e).rd f = u.rd f := fun u f hf => by
      rw [State.rd_report_ne _ _ _ _ _ _ (by rw [hf]; exact fun h => hl' k h.symm)]
      exact State.rd_wr_ne u _ (by rw [hf]; exact he)
  · refine ⟨?_, ?_, ?_⟩
    · rw [hr _ _ rfl, State.rd_wr_apart _ _ (of_decide_eq_true rfl) (of_decide_eq_true rfl) (.inr (of_decide_eq_true rfl)), State.rd_wr_apart _ _ (of_decide_eq_true rfl) (of_decide_eq_true rfl) (.inr (of_decide_eq_true rfl)),
        State.rd_wr_same _ _ (of_decide_eq_true rfl)]
      rfl
    · rw [hr _ _ rfl, State.rd_wr_apart _ _ (of_decide_eq_true rfl) (of_decide_eq_true rfl) (.inr (of_decide_eq_true rfl)), State.rd_wr_same _ _ (of_decide_eq_true rfl)]
      cases w <;> rfl
    · rw [hr _ _ rfl, State.rd_wr_same _ _ (of_decide_eq_true rfl)]
      exact Nat.mod_mod ..
  · refine ⟨?_, ?_, ?_, ?_⟩
    · rw [hr _ _ rfl, State.rd_wr_same _ _ (of_decide_eq_true rfl)]
      rfl
    · rw [hr _ _ rfl, State.rd_wr_apart _ _ (of_decide_eq_true rfl) (of_decide_eq_true rfl) (.inr (of_decide_eq_true rfl))]
    · rw [hr _ _ rfl, State.rd_wr_apart _ _ (of_decide_eq_true rfl) (of_decide_eq_true rfl) (.inr (of_decide_eq_true rfl))]
    · rw [hr _ _ rfl, State.rd_wr_apart _ _ (of_decide_eq_true rfl) (of_decide_eq_true rfl) (.inr (of_decide_eq_true rfl))]

/-- What a write brings a register to: its changed bits replaced are its chosen bits replaced (R76, R79). -/
theorem laid_merge (c w m : Word) :
    c &&& ~~~((w ^^^ c) &&& m) ||| w &&& ((w ^^^ c) &&& m) = (c &&& ~~~m) ||| (w &&& m) := by
  apply BitVec.eq_of_getLsbD_eq
  intro i hi
  simp only [BitVec.getLsbD_or, BitVec.getLsbD_and, BitVec.getLsbD_xor, BitVec.getLsbD_not, hi, decide_true, Bool.true_and]
  cases c.getLsbD i <;> cases w.getLsbD i <;> cases m.getLsbD i <;> rfl

/-- Laying the bits that a value changes over a register gives the value. -/
theorem merge_changed (c n : Word) : (c &&& ~~~(n ^^^ c)) ||| (n &&& (n ^^^ c)) = n := by
  apply BitVec.eq_of_getLsbD_eq
  intro i hi
  simp only [BitVec.getLsbD_or, BitVec.getLsbD_and, BitVec.getLsbD_xor, BitVec.getLsbD_not, hi, decide_true, Bool.true_and]
  cases c.getLsbD i <;> cases n.getLsbD i <;> rfl

theorem and_ones (x : Word) : x &&& 4294967295 = x := by
  have : (4294967295 : Word) = BitVec.allOnes 32 := by decide
  rw [this, BitVec.and_allOnes]

variable {s} in
theorem State.onlyRegs_trans {t u : State} {xs : List Nat} (h : s.onlyRegs xs t) (h' : t.onlyRegs xs u) : s.onlyRegs xs u := by
  refine ⟨?_, fun o ho => (h'.2 o ho).trans (h.2 o ho)⟩
  have e := h'.1
  rw [h.1] at e
  exact e

theorem State.onlyRegs_refl (xs : List Nat) : s.onlyRegs xs s := ⟨rfl, fun _ _ => rfl⟩

/-- Taking an empty class-A value does nothing. -/
theorem State.acceptA_none (o : Nat) (v : Word) : s.acceptA o 0 v = s := by simp [State.acceptA]

/-- No configuration bit changed: nothing goes to the standby. -/
theorem State.forwardBits_none (r : RegRow) (o : Nat) (k v : Word)
    (h : k &&& r.mask (fun f => f.acc == .rw && f.config) = 0) : s.forwardBits r o k v = s := by
  unfold State.forwardBits
  rw [h]
  rfl

/-- A merge changes its register alone. -/
theorem State.mergeReg_only (p : PendA) : s.onlyRegs [p.off] (s.mergeReg p) :=
  ⟨rfl, fun _ h => State.reg_setReg_ne s _ (by simpa using h)⟩

theorem State.mergeReg_same (p : PendA) : (s.mergeReg p).reg p.off = (s.reg p.off &&& ~~~p.mask) ||| (p.value &&& p.mask) :=
  State.reg_setReg_same ..

theorem and_not_zero (x : Word) : x &&& ~~~0 = x := by
  have h : ~~~(0 : Word) = 4294967295 := by decide
  rw [h, and_ones]

theorem and_zero_word (x : Word) : x &&& 0 = 0 := by simp

/-- Clearing no bit. -/
theorem State.mergeReg_none (o : Nat) : (s.mergeReg ⟨o, 0, 0, 0⟩).reg o = s.reg o := by
  have h := State.mergeReg_same s ⟨o, 0, 0, 0⟩
  dsimp only at h
  rw [and_not_zero, and_zero_word] at h
  simpa using h

/-- Laying the bits that a value changes over its register gives the value. -/
theorem State.mergeReg_changed {o k : Nat} {v c : Word} (h : s.reg o = c) : (s.mergeReg ⟨o, v ^^^ c, v, k⟩).reg o = v := by
  have e := State.mergeReg_same s ⟨o, v ^^^ c, v, k⟩
  dsimp only at e
  rw [e, h, merge_changed]

/-! An accepted write applied (R82). Masks of a row: class S, class A and configuration. -/

def RegRow.sMask (r : RegRow) : Word := r.mask (fun f => f.acc == .rw && f.app == .s)
def RegRow.aMask (r : RegRow) : Word := r.mask (fun f => f.acc == .rw && f.app == .a)
def RegRow.cMask (r : RegRow) : Word := r.mask (fun f => f.acc == .rw && f.config)

/-- Only class-A bits change, none of them forwarded: they wait for their apply point. -/
theorem State.applyIntent_classA (m a : Nat) (i : Intent) (hd : s.domainRuns i.t.off = true) (hi : i.idle = false)
    (hc : i.chg &&& i.t.row.cMask = 0) (h : i.chg &&& ~~~i.t.row.aMask = 0) (ha : i.act = 0) (hh : i.hit = false) :
    s.applyIntent m a i = (s.mergeReg ⟨i.t.off, i.clr, 0, 0⟩).acceptA i.t.off i.chg i.next := by
  unfold RegRow.cMask at hc
  unfold RegRow.aMask at h
  unfold State.applyIntent
  dsimp only
  rw [hi, if_neg (by decide), hd, if_neg (by decide), if_pos (by simp [h, ha, hh]), State.forwardBits_none _ _ _ _ _ hc]

/-- What a write brings at once, where its register's state is in SYS. -/
theorem State.applyIntent_now (m a : Nat) (i : Intent) (hi : i.idle = false)
    (h : ¬ (i.chg &&& ~~~i.t.row.aMask = 0 ∧ i.act = 0 ∧ i.hit = false)) (hx : crossing? i.t.off = none) :
    s.applyIntent m a i = s.land ⟨m, a, i.t.off, i.chg, i.next, i.clr, i.act, i.chg &&& i.t.row.sMask != 0, s.now⟩ := by
  unfold RegRow.aMask at h
  unfold RegRow.sMask
  unfold State.applyIntent
  dsimp only
  rw [hi, if_neg (by decide), if_neg (by simp [State.domainRuns, hx]), if_neg (by simpa using h),
    if_pos (by simp [State.crosses, hx])]

/-- A write that selects no bit changes nothing (R79). -/
theorem State.applyIntent_idle (m a : Nat) (i : Intent) (hi : i.idle = true) : s.applyIntent m a i = s := by
  unfold State.applyIntent
  dsimp only
  rw [hi, if_pos rfl]

/-- A landing that meets no check and brings no class-A, class-S or configuration bit. -/
theorem State.land_now (x : Crossing) (r : RegRow) (hr : regRow? x.off = some r) (hl : s.landCodes r x = [])
    (ha : x.mask &&& r.aMask = 0) (hc : x.mask &&& r.cMask = 0) :
    s.land x = ((s.mergeReg ⟨x.off, x.clr, 0, 0⟩).mergeReg ⟨x.off, x.mask &&& ~~~r.aMask, x.value, 0⟩).landed x.master r x.off
      (s.reg x.off) x.data.toNat := by
  unfold RegRow.aMask at *
  unfold RegRow.cMask at hc
  unfold State.land
  rw [hr]
  dsimp only
  rw [hl, pickCode]
  dsimp only
  rw [ha, State.acceptA_none, State.forwardBits_none _ _ _ _ _ hc]

/-- A write of a register outside TILLER's lanes, in a block that does not run or changing no class-S bit, meets no check
where it lands. -/
theorem State.landCodes_none (x : Crossing) (r : RegRow) (hb : r.base ≠ LANE_CTL 0) (hs : x.classS = false) :
    s.landCodes r x = [] := by
  unfold State.landCodes
  rw [if_neg hb, hs]
  rfl

/-! Reads (R73, R74). -/

variable {s} in
/-- With nothing in flight, nothing lands. -/
theorem State.landAt_quiet (h : s.settled) (o : Nat) : s.landAt o = s := by
  have hf : s.fabric.inFlight = [] := by
    unfold State.settled State.accepted at h
    simp at h
    exact h.2
  unfold State.landAt State.landWhere
  split
  · simp only [hf, List.filter_nil, State.each, List.foldl_nil]
    rw [← hf]
  · rfl

variable {s} in
/-- A full read of a register that meets no check. -/
theorem State.regRead_plain {m o : Nat} {t : Target} (hs : s.settled) (hm : s.canAccess m = true) (ho : o % 4 = 0) (ht : target? o = some t)
    (hp : s.placeCodes m o false = []) :
    s.regRead m 32 o = if t.kind = 0 then ((s.fullRead m t.row t.off).1.toNat, (s.fullRead m t.row t.off).2)
      else ((s.regShown m t.row t.off).toNat % 2 ^ 32, s) := by
  have ho' : o / 4 * 4 = o := by omega
  have hlt : ¬ 0x400000 ≤ o := by have := inReach_lt (State.placeCodes_reach hp); omega
  unfold State.regRead
  simp only [ho', hp, widthCodes_word ho, pickCode, List.append_nil, ht, State.landAt_quiet hs, hm, hlt, show ¬ (32 = 64) by decide,
    show ¬ (32 = 0) by decide, decide_false, Bool.not_true, Bool.or_self, Bool.false_eq_true, if_false]
  split <;> rename_i h <;> simp at h <;> simp [h, ho]

/-! A whole write (R76 to R83). -/

variable {s} in
theorem State.intent_off (r : RegRow) (o k : Nat) (d : Word) : (s.intent ⟨r, o, k⟩ d).t = ⟨r, o, k⟩ := rfl

/-- What an unmasked plain write of a register without W1C bits comes to. -/
theorem State.intent_plain {s : State} (hs : s.settled) {r : RegRow} (o : Nat) (d : Word) (hm : r.masked = false)
    (hc : d &&& r.w1c = 0) :
    s.intent ⟨r, o, 0⟩ d = ⟨⟨r, o, 0⟩, 0xFFFFFFFF, (s.reg o &&& ~~~r.rw) ||| (d &&& r.rw), (d ^^^ s.reg o) &&& r.rw, 0, d &&& r.acts,
      r.fields.any (fun f => f.acc == .wo), false⟩ := by
  unfold State.intent
  dsimp only
  have h := laid_merge (s.reg o) d r.rw
  simp only [hm, State.view_quiet hs, if_false, Bool.false_eq_true, and_ones, decide_true, if_true, Bool.false_and, Bool.true_and,
    Nat.zero_ne_one, show ¬ (0 = 2) by decide, show ¬ (0 = 3) by decide, ite_self]
  rw [h, hc]
  simp

/-- What a masked plain write of a register without W1C bits comes to: the upper half selects. -/
theorem State.intent_masked {s : State} (hs : s.settled) {r : RegRow} (o : Nat) (d : Word) (hm : r.masked = true)
    (hc : d &&& (d >>> 16) &&& r.w1c = 0) :
    s.intent ⟨r, o, 0⟩ d = ⟨⟨r, o, 0⟩, d >>> 16, (s.reg o &&& ~~~(r.rw &&& (d >>> 16))) ||| (d &&& (r.rw &&& (d >>> 16))),
      (d ^^^ s.reg o) &&& (r.rw &&& (d >>> 16)), 0, d &&& (d >>> 16) &&& r.acts,
      r.fields.any (fun f => f.acc == .wo), (d >>> 16) &&& 0xFFFF == 0⟩ := by
  unfold State.intent
  dsimp only
  have h := laid_merge (s.reg o) d (r.rw &&& (d >>> 16))
  simp only [hm, State.view_quiet hs, if_true, decide_true, Bool.true_and, Nat.zero_ne_one, if_false, show ¬ (0 = 2) by decide,
    show ¬ (0 = 3) by decide]
  rw [h, hc]
  simp

/-- A plain write that meets no check, whose register's state is in SYS and which changes no class-A, class-S or
configuration bit: the register takes its value, and what the register stands for follows. -/
theorem State.regWrite_now {s : State} {m o data : Nat} {r : RegRow} {i : Intent} (hs : s.settled) (hm : s.canAccess m = true)
    (ho : o % 4 = 0) (ht : target? o = some ⟨r, o, 0⟩) (hr : regRow? o = some r) (hb : blockOf o ≠ bMailbox)
    (hu : o ≠ ACCESS_UNLOCK) (hx : crossing? o = none) (hlane : r.base ≠ LANE_CTL 0) (hp : s.placeCodes m o true = [])
    (hi : s.intent ⟨r, o, 0⟩ (BitVec.ofNat 32 data) = i) (hclr : i.clr = 0) (hid : i.idle = false)
    (hcfg : i.chg &&& r.cMask = 0) (ha : i.chg &&& r.aMask = 0) (hS : i.chg &&& r.sMask = 0)
    (hn : i.chg &&& ~~~r.aMask ≠ 0 ∨ i.act ≠ 0 ∨ i.hit = true) (hw : Target.writable ⟨r, o, 0⟩ = true)
    (hl : s.unlocked m = true ∨ i.changesG = false)
    (hc : s.checkWrite (s.setReg o i.next) m i.act.toNat false r o = []) :
    ∃ u, (if r.guarded then s.relock m else s).onlyRegs [o] u ∧ u.reg o = (s.reg o &&& ~~~i.chg) ||| (i.next &&& i.chg) ∧
      s.regWrite m 32 o data = u.landed m r o (s.reg o) i.act.toNat := by
  have hit : i.t = ⟨r, o, 0⟩ := by rw [← hi]; rfl
  have hcodes : s.writeCodes m false false [i] = [] := by
    unfold State.writeCodes
    have hS' := hS
    unfold RegRow.sMask at hS'
    rw [State.viewed_quiet hs]
    simp only [List.foldl_cons, List.foldl_nil, List.flatMap_cons, List.flatMap_nil, List.append_nil, hit, hS', hid]
    have : broken [(Target.writable ⟨r, o, 0⟩, E_UNKNOWN), (false || s.unlocked m || !i.changesG, E_LOCKED),
      (decide True || (crossing? o).isSome || !s.runs o, E_BUSY)] = [] := by
      rw [hw]
      rcases hl with h | h <;> simp [h, broken]
    rw [this]
    simpa using hc
  unfold State.regWrite
  rw [State.regWriteBy_plain hm ho ht hb hu hp (by rw [hi]; exact hcodes), hi]
  have hrel : ∀ b : Bool, (if b then s.relock m else s).reg o = s.reg o := by intro b; cases b <;> exact State.reg_of_regs rfl
  generalize hs1 : (if r.guarded then s.relock m else s) = s1
  have hs1r : s1.reg o = s.reg o := by rw [← hs1]; exact hrel _
  rw [State.applyIntent_now s1 m o i hid (by
    rw [hit]
    rintro ⟨h1, h2, h3⟩
    rcases hn with h | h | h
    · exact h h1
    · exact h h2
    · rw [h3] at h; cases h) (by rw [hit]; exact hx)]
  rw [hit, hclr]
  rw [State.land_now s1 _ r hr (State.landCodes_none s1 _ r hlane (by dsimp only; rw [hS]; rfl)) (by exact ha) (by exact hcfg)]
  dsimp only
  have hm1 := State.mergeReg_only s1 ⟨o, 0, 0, 0⟩
  have hm2 := State.mergeReg_none s1 o
  dsimp only at hm1
  rw [hs1r] at hm2 ⊢
  generalize s1.mergeReg ⟨o, 0, 0, 0⟩ = s2 at hm1 hm2 ⊢
  have hk : i.chg &&& ~~~r.aMask = i.chg := by
    have e : i.chg = (i.chg &&& ~~~r.aMask) ||| (i.chg &&& r.aMask) := by
      apply BitVec.eq_of_getLsbD_eq
      intro j hj
      simp only [BitVec.getLsbD_or, BitVec.getLsbD_and, BitVec.getLsbD_not, hj, decide_true, Bool.true_and]
      cases i.chg.getLsbD j <;> cases r.aMask.getLsbD j <;> rfl
    rw [ha] at e
    simpa using e.symm
  rw [hk]
  refine ⟨s2.mergeReg ⟨o, i.chg, i.next, 0⟩, State.onlyRegs_trans hm1 (State.mergeReg_only s2 ⟨o, i.chg, i.next, 0⟩), ?_, rfl⟩
  have h3 := State.mergeReg_same s2 ⟨o, i.chg, i.next, 0⟩
  dsimp only at h3
  rw [h3, hm2]

/-- A plain write that meets a check is rejected with its code (R10, R77). -/
theorem State.regWriteBy_rejected {s : State} {eff : State → Intent → State} {m o data c : Nat} {t : Target}
    (ha : s.canAccess m = true) (ho : o % 4 = 0) (ht : target? o = some t) (hb : blockOf o ≠ bMailbox) (hu : o ≠ ACCESS_UNLOCK)
    (hp : s.placeCodes m o true = [])
    (hc : pickCode (s.writeCodes m false false [s.intent t (BitVec.ofNat 32 data)]) = some c) :
    s.regWriteBy eff m 32 o data = (if t.row.guarded then s.relock m else s).reject m o c true := by
  have ho' : o / 4 * 4 = o := by omega
  have hlt : ¬ 0x400000 ≤ o := by have := inReach_lt (State.placeCodes_reach hp); omega
  have hit : (s.intent t (BitVec.ofNat 32 data)).t = t := rfl
  unfold State.regWriteBy
  simp only [State.regWriteCodes_word ho ht hb hu hp, State.intents_word ho ht, hc, ho', ha, hlt, hit,
    State.placeCodes_reach hp, if_false, List.any_cons, List.any_nil, Bool.or_false, Bool.true_and, show ¬ (32 = 0) by decide,
    decide_false, Bool.not_true, Bool.or_self, Bool.false_eq_true]

/-- The code of a write whose register's own check gives one. -/
theorem State.writeCodes_check {s : State} {m o c : Nat} {r : RegRow} {i : Intent} (hs : s.settled) (hit : i.t = ⟨r, o, 0⟩)
    (hw : Target.writable ⟨r, o, 0⟩ = true) (hl : s.unlocked m = true ∨ i.changesG = false) (hS : i.chg &&& r.sMask = 0)
    (hid : i.idle = false) (hc : s.checkWrite (s.setReg o i.next) m i.act.toNat false r o = [c]) :
    pickCode (s.writeCodes m false false [i]) = some c := by
  unfold State.writeCodes
  unfold RegRow.sMask at hS
  rw [State.viewed_quiet hs]
  simp only [List.foldl_cons, List.foldl_nil, List.flatMap_cons, List.flatMap_nil, List.append_nil, hit, hS, hid]
  have : broken [(Target.writable ⟨r, o, 0⟩, E_UNKNOWN), (false || s.unlocked m || !i.changesG, E_LOCKED),
    (decide True || (crossing? o).isSome || !s.runs o, E_BUSY)] = [] := by
    rw [hw]
    rcases hl with h | h <;> simp [h, broken]
  rw [this, List.nil_append, if_neg (by decide), hc]
  rfl

/-- A write of a register without G fields changes none. -/
theorem Intent.changesG_unguarded {i : Intent} (h : i.t.row.guarded = false) : i.changesG = false := by
  unfold RegRow.guarded at h
  have h' : ∀ f ∈ i.t.row.fields, f.guarded = false := by simpa using h
  have e (p : FieldDesc → Bool) : i.t.row.mask (fun f => f.guarded && p f) = 0 := by
    unfold RegRow.mask
    rw [List.filter_eq_nil_iff.mpr (fun f hf => by simp [h' f hf])]
    rfl
  unfold Intent.changesG
  rw [e (fun f => f.acc == .rw), e (fun f => f.acc == .wo || f.acc == .w1s || f.acc == .w1c), and_zero_word, and_zero_word]
  simp

end Sys2Proof.Machine
end

