-- ==== Sys2Proof/Laws/Gcm.lean ====
section
/-! SUPPORT. AES-256-GCM opens what it seals. -/

namespace Sys2Proof.Machine

/-- Every number of a list is a byte. -/
def allBytes (xs : List Nat) : Prop := ∀ x ∈ xs, x < 256

theorem allBytes_append {xs ys : List Nat} (hx : allBytes xs) (hy : allBytes ys) : allBytes (xs ++ ys) := by
  intro x h
  rcases List.mem_append.mp h with h | h
  · exact hx x h
  · exact hy x h

theorem nums_bytes (bs : List Byte) : allBytes (nums bs) := by
  intro x h
  obtain ⟨b, -, rfl⟩ := List.mem_map.mp h
  exact b.isLt

theorem nums_bytesOfNums {xs : List Nat} (h : allBytes xs) : nums (bytesOfNums xs) = xs := by
  unfold nums bytesOfNums
  rw [List.map_map]
  conv => rhs; rw [← List.map_id xs]
  exact List.map_congr_left fun x hx => by simp [Nat.mod_eq_of_lt (h x hx)]

theorem bytesOfNums_nums (bs : List Byte) : bytesOfNums (nums bs) = bs := by
  simp [nums, bytesOfNums, List.map_map, Function.comp_def]

theorem xorBytes_bytes {xs ys : List Nat} (hx : allBytes xs) (hy : allBytes ys) : allBytes (xorBytes xs ys) := by
  intro x h
  obtain ⟨p, hp, rfl⟩ := List.mem_map.mp h
  exact Nat.xor_lt_two_pow (n := 8) (hx _ (List.of_mem_zip hp).1) (hy _ (List.of_mem_zip hp).2)

theorem xorBytes_length (xs ys : List Nat) : (xorBytes xs ys).length = min xs.length ys.length := by
  simp [xorBytes]

/-- A key stream taken twice leaves what it was laid over. -/
theorem xorBytes_twice (xs ks : List Nat) (h : xs.length ≤ ks.length) : xorBytes (xorBytes xs ks) ks = xs := by
  induction xs generalizing ks with
  | nil => simp [xorBytes]
  | cons x xs ih =>
    cases ks with
    | nil => simp at h
    | cons k ks =>
      have := ih ks (by simpa using h)
      simp only [xorBytes, List.zip_cons_cons, List.map_cons] at this ⊢
      rw [this, Nat.xor_assoc, Nat.xor_self, Nat.xor_zero]

theorem subBytes_bytes (xs : List Nat) : allBytes (xs.map subByte) := by
  intro x h
  obtain ⟨y, -, rfl⟩ := List.mem_map.mp h
  exact Nat.mod_lt _ (by decide)

theorem byteAt_lt {xs : List Nat} (h : allBytes xs) (i : Nat) : byteAt xs i < 256 := by
  unfold byteAt
  cases e : xs[i]? with
  | none => simp
  | some x => exact h x (List.mem_of_getElem? e)

theorem shiftRows_bytes {xs : List Nat} (h : allBytes xs) : allBytes (shiftRows xs) := by
  intro x hx
  obtain ⟨i, -, rfl⟩ := List.mem_map.mp hx
  exact byteAt_lt h _

/-! The key schedule. -/

/-- Words of four bytes. -/
def allWords (ws : List (List Nat)) : Prop := ∀ w ∈ ws, w.length = 4 ∧ allBytes w

theorem xtime_lt (x : Nat) (h : x < 256) : xtime x < 256 :=
  (by decide +kernel : ∀ y : Fin 256, xtime y < 256) ⟨x, h⟩

theorem keyWords_spec (n rcon : Nat) (ws : List (List Nat)) (hr : rcon < 256) (hl : 8 ≤ ws.length) (hw : allWords ws) :
    allWords (keyWords n rcon ws) ∧ (keyWords n rcon ws).length = n + ws.length := by
  induction n generalizing rcon ws with
  | zero => exact ⟨hw, (Nat.zero_add _).symm⟩
  | succ n ih =>
    have hp : (ws.headD []).length = 4 ∧ allBytes (ws.headD []) := by
      cases ws with
      | nil => simp at hl
      | cons w ws => exact hw w (by simp)
    have ho : ((ws[7]?).getD []).length = 4 ∧ allBytes ((ws[7]?).getD []) := by
      rw [List.getElem?_eq_getElem (by omega)]
      exact hw _ (List.getElem_mem _)
    have hc : allBytes [rcon, 0, 0, 0] := by
      intro x hx
      simp only [List.mem_cons, List.not_mem_nil, or_false] at hx
      omega
    have step : ∀ r w, r < 256 → w.length = 4 ∧ allBytes w → allWords (keyWords n r (w :: ws)) ∧
        (keyWords n r (w :: ws)).length = n + 1 + ws.length := by
      intro r w h1 h2
      have := ih r (w :: ws) h1 (by simp; omega) (fun v hv => by
        rcases List.mem_cons.mp hv with rfl | hv
        · exact h2
        · exact hw v hv)
      rw [List.length_cons] at this
      exact ⟨this.1, by omega⟩
    unfold keyWords
    simp only
    generalize ws.headD [] = prev at hp ⊢
    split
    · refine step _ _ (xtime_lt _ hr) ⟨?_, xorBytes_bytes ho.2 (xorBytes_bytes (subBytes_bytes _) hc)⟩
      simp [xorBytes_length, ho.1, hp.1]
    · split
      · refine step _ _ hr ⟨?_, xorBytes_bytes ho.2 (subBytes_bytes _)⟩
        simp [xorBytes_length, ho.1, hp.1]
      · refine step _ _ hr ⟨?_, xorBytes_bytes ho.2 hp.2⟩
        simp [xorBytes_length, ho.1, hp.1]

/-- Four words make 16 bytes. -/
theorem block_of_words (q : List (List Nat)) (hl : q.length = 4) (hw : allWords q) : q.flatten.length = 16 ∧ allBytes q.flatten := by
  match q, hl with
  | [a, b, c, d], _ =>
    have ha := hw a (by simp)
    have hb := hw b (by simp)
    have hc := hw c (by simp)
    have hd := hw d (by simp)
    exact ⟨by simp [ha.1, hb.1, hc.1, hd.1], by
      simpa using allBytes_append ha.2 (allBytes_append hb.2 (allBytes_append hc.2 hd.2))⟩

/-- The last round key of a key of 32 bytes has 16 bytes. -/
theorem lastKey_spec (key : List Nat) (hl : key.length = 32) (hb : allBytes key) :
    (((roundKeys key)[14]?).getD []).length = 16 ∧ allBytes (((roundKeys key)[14]?).getD []) := by
  have hf : allWords ((List.range 8).map (fun i => (key.drop (4 * i)).take 4)).reverse := by
    intro w hw
    obtain ⟨i, hi, rfl⟩ := List.mem_map.mp (List.mem_reverse.mp hw)
    have hi := List.mem_range.mp hi
    exact ⟨by simp; omega, fun x hx => hb x (List.mem_of_mem_drop (List.mem_of_mem_take hx))⟩
  obtain ⟨hw, hn⟩ := keyWords_spec 52 1 _ (by decide) (by simp) hf
  have e : (roundKeys key)[14]? = some (((keyWords 52 1 ((List.range 8).map (fun i => (key.drop (4 * i)).take 4)).reverse).reverse.drop
      (4 * 14)).take 4).flatten := by
    unfold roundKeys
    rw [List.getElem?_map]
    rfl
  rw [e, Option.getD_some]
  apply block_of_words
  · rw [List.length_take, List.length_drop, List.length_reverse, hn]; simp
  · exact fun w h => hw w (List.mem_reverse.mp (List.mem_of_mem_drop (List.mem_of_mem_take h)))

/-! Blocks, the key stream and the tag. -/

theorem aesBlock_length (rks : List (List Nat)) (block : List Nat) (h : ((rks[14]?).getD []).length = 16) :
    (aesBlock rks block).length = 16 := by
  simp [aesBlock, xorBytes_length, shiftRows, h]

theorem aesBlock_bytes (rks : List (List Nat)) (block : List Nat) (h : allBytes ((rks[14]?).getD [])) :
    allBytes (aesBlock rks block) := xorBytes_bytes (shiftRows_bytes (subBytes_bytes _)) h

/-- The key stream for a number of bytes. -/
def keyStream (rks : List (List Nat)) (iv : List Nat) (n : Nat) : List Nat :=
  (List.range ((n + 15) / 16)).flatMap (fun i => aesBlock rks (iv ++ (beBytes 4 (i + 2)).map BitVec.toNat))

theorem gcmStream_eq (rks : List (List Nat)) (iv bs : List Nat) : gcmStream rks iv bs = xorBytes bs (keyStream rks iv bs.length) := rfl

theorem keyStream_length (rks : List (List Nat)) (iv : List Nat) (n : Nat) (h : ((rks[14]?).getD []).length = 16) :
    n ≤ (keyStream rks iv n).length := by
  have : ∀ l : List Nat, (l.flatMap (fun i => aesBlock rks (iv ++ (beBytes 4 (i + 2)).map BitVec.toNat))).length = 16 * l.length := by
    intro l
    induction l with
    | nil => rfl
    | cons i l ih => rw [List.flatMap_cons, List.length_append, ih, aesBlock_length _ _ h, List.length_cons]; omega
  unfold keyStream
  rw [this, List.length_range]
  omega

theorem keyStream_bytes (rks : List (List Nat)) (iv : List Nat) (n : Nat) (h : allBytes ((rks[14]?).getD [])) :
    allBytes (keyStream rks iv n) := by
  intro x hx
  obtain ⟨i, -, hi⟩ := List.mem_flatMap.mp hx
  exact aesBlock_bytes rks _ h x hi

theorem gcmStream_length (rks : List (List Nat)) (iv bs : List Nat) (h : ((rks[14]?).getD []).length = 16) :
    (gcmStream rks iv bs).length = bs.length := by
  rw [gcmStream_eq, xorBytes_length]
  exact Nat.min_eq_left (keyStream_length rks iv _ h)

/-- A ciphertext under the same key stream is the plaintext. -/
theorem gcmStream_twice (rks : List (List Nat)) (iv bs : List Nat) (h : ((rks[14]?).getD []).length = 16) :
    gcmStream rks iv (gcmStream rks iv bs) = bs := by
  rw [gcmStream_eq, gcmStream_length rks iv bs h, gcmStream_eq]
  exact xorBytes_twice _ _ (keyStream_length rks iv _ h)

theorem gcmTag_spec (rks : List (List Nat)) (iv aad ct : List Nat) (h : ((rks[14]?).getD []).length = 16)
    (hb : allBytes ((rks[14]?).getD [])) : (gcmTag rks iv aad ct).length = 16 ∧ allBytes (gcmTag rks iv aad ct) := by
  have h16 : ∀ v, (gcmBlock v).length = 16 := fun v => by simp [gcmBlock, beBytes, leBytes_length]
  refine ⟨?_, xorBytes_bytes (nums_bytes _) (aesBlock_bytes _ _ hb)⟩
  show (xorBytes _ _).length = 16
  rw [xorBytes_length, aesBlock_length _ _ h, h16]
  rfl

/-- A ciphertext and a tag as bytes come apart again. -/
theorem sealed_parts (ct tag : List Nat) (ht : tag.length = 16) (hc : allBytes ct) (hu : allBytes tag) :
    (bytesOfNums (ct ++ tag)).length - 16 = ct.length ∧ 16 ≤ (bytesOfNums (ct ++ tag)).length ∧
      nums ((bytesOfNums (ct ++ tag)).take ct.length) = ct ∧ nums ((bytesOfNums (ct ++ tag)).drop ct.length) = tag := by
  have hl : (bytesOfNums (ct ++ tag)).length = ct.length + 16 := by simp [bytesOfNums, ht]
  have h1 : (bytesOfNums (ct ++ tag)).take ct.length = bytesOfNums ct := by simp [bytesOfNums]
  have h2 : (bytesOfNums (ct ++ tag)).drop ct.length = bytesOfNums tag := by simp [bytesOfNums]
  exact ⟨by omega, by omega, by rw [h1, nums_bytesOfNums hc], by rw [h2, nums_bytesOfNums hu]⟩

/-- What is sealed under a key of 32 bytes opens under it, with the same IV and additional data. -/
theorem gcmOpen_gcmSeal (key iv aad plain : List Byte) (h : key.length = 32) :
    gcmOpen key iv aad (gcmSeal key iv aad plain) = some plain := by
  obtain ⟨hl, hb⟩ := lastKey_spec (nums key) (by simpa [nums] using h) (nums_bytes _)
  have ht := gcmTag_spec (roundKeys (nums key)) (nums iv) (nums aad) (gcmStream (roundKeys (nums key)) (nums iv) (nums plain)) hl hb
  have hc : allBytes (gcmStream (roundKeys (nums key)) (nums iv) (nums plain)) :=
    xorBytes_bytes (nums_bytes _) (keyStream_bytes _ _ _ hb)
  obtain ⟨h1, h2, h3, h4⟩ := sealed_parts _ _ ht.1 hc ht.2
  simp only [gcmOpen, gcmSeal, h1, h3, h4]
  rw [if_pos ⟨h2, trivial⟩, gcmStream_twice _ _ _ hl, bytesOfNums_nums]

/-- Behind one ciphertext only one tag opens. -/
theorem gcmOpen_forged (key iv aad ct tag forged : List Byte) (ht : tag.length = 16) (hf : forged.length = 16) (hne : forged ≠ tag)
    (h : (gcmOpen key iv aad (ct ++ tag)).isSome = true) : gcmOpen key iv aad (ct ++ forged) = none := by
  have hn : ∀ t : List Byte, t.length = 16 → (ct ++ t).length - 16 = ct.length := fun t e => by rw [List.length_append]; omega
  simp only [gcmOpen, hn tag ht, hn forged hf, List.take_left, List.drop_left] at h ⊢
  split at h
  · rename_i c
    rw [if_neg]
    rintro ⟨-, e⟩
    refine hne ?_
    rw [← bytesOfNums_nums forged, e, ← c.2, bytesOfNums_nums]
  · simp at h

end Sys2Proof.Machine
end

