-- ==== Sys2Proof/Tests/Slice0.lean ====
section
/-! SUPPORT. Tests: ill-formed commands, words of the manual, single steps, and states that meet the hypotheses of the
statements. -/

namespace Sys2Proof.Tests

set_option Elab.async false

open Sys2Proof.Machine

/-! States. -/

/-- Fields written one after another. -/
def with_ (s : State) (l : List (Fld × Nat)) : State := l.foldl (fun t e => t.wr e.1 e.2) s

/-- A unit that runs, alone, with its host link up. -/
def run : State :=
  with_ { State.reset with boot := { boot0 with aon := true, porst := false }, now := 1000 }
    [(CP_BOOT_STAT_STAGE, 9), (HL_LINK_STAT_LINK_UP, 1)]

/-- A block of one word in and one word out, with an instance, for core 0. -/
def prog : Program :=
  { progId := 1, isa := 1,
    strips := [⟨0, 8, 2, 0, 0x100, 0, 0x100, 0, 0x100, 0, 2, 0, 2, 0, 2⟩, ⟨8, 8, 0, 0, 0x100, 0, 0x100, 0, 0x100, 0, 2, 0, 2, 0, 2⟩],
    barMask := [3, 1] ++ List.replicate 14 0, init := [], blocks := [⟨1, 1, 4, 24, 0, 8, 8, 8, []⟩], insts := [⟨1, 0, 0⟩], libLen := 16 }

/-- Core 0 runs its strip as core c. -/
def core (c : PassCore) : State :=
  with_ { run with pass := { run.pass with prog := some prog, core0 := c } } [(PASS_CORE_STAT_STATE 0, coreRunning)]

/-- Core 0 at its first instruction. -/
def ready : State := core core0

/-- The word of an instruction stands where core 0 fetches. -/
def fed (i : Instr) (s : State) : State :=
  s.putBytes ((s.codeOf 0).1 + 4 * (s.core 0).pc) (leBytes 4 ((encodeFurrow i).getD 0))

/-! States that meet the hypotheses of the statements about Furrow. -/

/-- Each instruction of a list is the one that runs on core 0 when its word stands there, and p holds of the state. -/
def feeds (s : State) (p : State → Prop) (is : List Instr) : Prop := ∀ i ∈ is, (fed i s).coreReady 0 i ∧ p (fed i s)

/-- The last bit of a strip's M share, and operands of each size. -/
def lastBit : MemOp := ⟨2, 0, 2047⟩
def atStart (area : BitVec 4) : MemOp := ⟨area, 0, 0⟩

theorem meets_coreReady : (fed (.furNop 0) ready).coreReady 0 (.furNop 0) ∧
    encodeFurrow (.furNop 0) ≠ encodeFurrow (.furNot 0) ∧ furrowCore (.furNot 0) = some 0 := by
  unfold State.coreReady; decide +kernel

theorem meets_bits :
    feeds ready (fun s => (s.bitAddr 0 .read lastBit).toOption = some (areaM + 255, 7))
      [.furLd 0 lastBit, .furLdn 0 lastBit, .furAnd 0 lastBit, .furAndn 0 lastBit, .furOr 0 lastBit, .furOrn 0 lastBit,
        .furXor 0 lastBit, .furXorn 0 lastBit] ∧
    feeds ready (fun s => (s.bitAddr 0 .write lastBit).toOption = some (areaM + 255, 7) ∧ (s.core 0).la = false)
      [.furSt 0 lastBit, .furStn 0 lastBit, .furSet 0 lastBit, .furRst 0 lastBit] ∧
    feeds (core { core0 with la := true }) (fun s => (s.bitAddr 0 .write lastBit).toOption = some (areaM + 255, 7) ∧ (s.core 0).la = true)
      [.furSet 0 lastBit, .furRst 0 lastBit] := by
  dsimp only [feeds, State.coreReady]; decide +kernel

/-- The run state with master m unlocked. -/
def unlocked (m : Nat) (s : State) : State := { s with fabric := { s.fabric with unlocks := [(m, s.now + 4096)] } }

/-- The unit at a boot stage, with 4 GiB of SDRAM and the devices answering. -/
def stage (n : Nat) : State :=
  with_ run [(CP_BOOT_STAT_STAGE, n), (CP_DDR_STAT_SIZE_GIB, 4), (CP_XSPI_STAT_XN0, 0xA1), (CP_DDR_STAT_TRAINED, 1)]

/-- 4 GiB of SDRAM fitted. -/
def fitted : State := with_ run [(CP_DDR_STAT_SIZE_GIB, 4)]

/-- A retained record with nothing in it. -/
def record : Retained :=
  { seq := 1, time := 0, meterTime := 0, digest := [], isSave := true, isFull := false, mode := 0, regs := [], frac := [],
    stations := [], mem := [], bad := [], lastLog := none, carried := [], msAcc := 0, furrows := [], engines := [], running := [],
    qhat := [], tnode := [], dEst := [], defs := [] }

/-- The state with its boot changed. -/
def booted (s : State) (b : Boot) : State := { s with boot := b }

/-- A core stopped in the middle of its code, with a call of a branch and one of a block open. -/
def busy : PassCore := { core0 with la := true, pc := 3, w0 := 5, w1 := 0, branch := [(true, 6)] }

/-- A core in the block of instance 0, below its record. -/
def inBlock : PassCore := { core0 with pc := 5, calls := [⟨3, some ⟨0, 1, 2, 3, 0, areaL⟩⟩] }

theorem meets_nested :
    feeds (core busy) (fun s => (s.ahead 0).branch = [(true, 6)] ∧ (s.ahead 0).branch.length < 16)
      [.furPush 0 7, .furNot 0, .furSetla 0, .furClrla 0, .furPeek 0, .furDrop 0, .furPop 0] ∧
    feeds (core { busy with branch := List.replicate 15 (true, 0) }) (fun s => (s.ahead 0).branch.length < 16) [.furPush 0 0] ∧
    ∀ op : Fin 7, feeds (core { busy with branch := [(false, op.val)] }) (fun s => (s.ahead 0).branch = [(false, op.val)]) [.furPop 0] := by
  dsimp only [feeds, State.coreReady]; decide +kernel

theorem meets_words :
    feeds ready (fun s => (s.wordAddr 0 .read 1 ⟨2, 0, 0xFF⟩).toOption = some (areaM + 0xFF) ∧ (s.wordAddr 0 .write 1 ⟨2, 0, 0xFF⟩).toOption = some (areaM + 0xFF))
      [.furLw8u 0 true ⟨2, 0, 0xFF⟩, .furLw8s 0 false ⟨2, 0, 0xFF⟩, .furSw8 0 ⟨2, 0, 0xFF⟩] ∧
    feeds ready (fun s => (s.wordAddr 0 .read 2 ⟨2, 0, 0x7F⟩).toOption = some (areaM + 0xFE) ∧ (s.wordAddr 0 .write 2 ⟨2, 0, 0x7F⟩).toOption = some (areaM + 0xFE))
      [.furLw16u 0 true ⟨2, 0, 0x7F⟩, .furLw16s 0 false ⟨2, 0, 0x7F⟩, .furSw16 0 ⟨2, 0, 0x7F⟩] ∧
    feeds ready (fun s => (s.wordAddr 0 .read 4 ⟨2, 0, 0x3F⟩).toOption = some (areaM + 0xFC) ∧ (s.wordAddr 0 .write 4 ⟨2, 0, 0x3F⟩).toOption = some (areaM + 0xFC))
      [.furLw32u 0 true ⟨2, 0, 0x3F⟩, .furLw32s 0 false ⟨2, 0, 0x3F⟩, .furLwf32 0 true ⟨2, 0, 0x3F⟩, .furSw32 0 ⟨2, 0, 0x3F⟩,
        .furSwf32 0 ⟨2, 0, 0x3F⟩] ∧
    feeds ready (fun s => (s.wordAddr 0 .read 8 ⟨2, 0, 0x1F⟩).toOption = some (areaM + 0xF8) ∧ (s.wordAddr 0 .write 8 ⟨2, 0, 0x1F⟩).toOption = some (areaM + 0xF8))
      [.furLw64 0 true ⟨2, 0, 0x1F⟩, .furSw64 0 ⟨2, 0, 0x1F⟩] := by
  dsimp only [feeds, State.coreReady]; decide +kernel

theorem meets_logic : feeds (core busy) (fun _ => True)
    [.furLdi 0 1, .furLdi1 0 2, .furLih 0 3, .furLit 0 4, .furSwap 0, .furMov 0, .furLdb 0 1 5, .furLdb 0 2 5, .furLdb 0 3 5,
      .furAdb 0 1, .furAdb 0 2, .furAdb 0 3, .furWordAnd 0, .furWordOr 0, .furWordXor 0, .furShl 0, .furShr 0, .furSar 0, .furMin 0,
      .furMax 0] := by
  dsimp only [feeds, State.coreReady]; decide +kernel

theorem meets_division :
    feeds (core busy) (fun s => (s.ahead 0).w1 = 0)
      [.furAdd 0, .furSub 0, .furMul 0, .furNeg 0, .furAbs 0, .furAdds 0, .furDiv 0, .furMod 0] ∧
    feeds (core { busy with w0 := BitVec.intMin 64, w1 := BitVec.allOnes 64 }) (fun s =>
      (s.ahead 0).w1 ≠ 0 ∧ (s.ahead 0).w0 = BitVec.intMin 64 ∧ (s.ahead 0).w1 = BitVec.allOnes 64) [.furDiv 0, .furMod 0] ∧
    feeds (core { busy with w1 := 7 }) (fun s => (s.ahead 0).w1 ≠ 0 ∧
      ¬ ((s.ahead 0).w0 = BitVec.intMin 64 ∧ (s.ahead 0).w1 = BitVec.allOnes 64)) [.furDiv 0, .furMod 0] := by
  dsimp only [feeds, State.coreReady]; decide +kernel

theorem meets_floating : feeds (core busy) (fun _ => True)
    [.furFadd 0, .furFsub 0, .furFmul 0, .furFdiv 0, .furFsqrt 0, .furFmin 0, .furFmax 0, .furFabs 0, .furFneg 0, .furItof 0,
      .furFtoi 0] := by
  dsimp only [feeds, State.coreReady]; decide +kernel

/-- A signalling NaN, and 1 over 0. -/
theorem meets_nans :
    feeds (core { busy with w0 := 0x7FF0000000000001 })
      (fun s => ((s.ahead 0).w0.extractLsb' 52 11 == BitVec.allOnes 11 && (s.ahead 0).w0.extractLsb' 0 52 != 0) = true)
      [.furFadd 0, .furFsub 0, .furFmul 0, .furFdiv 0] ∧
    feeds (core { busy with w0 := 0x3FF0000000000000, w1 := 0x8000000000000000 })
      (fun s => (s.ahead 0).w0.extractLsb' 52 11 ≠ BitVec.allOnes 11 ∧ (s.ahead 0).w0.extractLsb' 0 63 ≠ 0 ∧
        (s.ahead 0).w1.extractLsb' 0 63 = 0) [.furFdiv 0] := by
  dsimp only [feeds, State.coreReady]; decide +kernel

theorem meets_comparisons :
    feeds (core busy) (fun s => (3 : BitVec 3).toNat ≤ 3 ∧ (5 : BitVec 3).toNat ≤ 5 ∧
      (fpIsNan fmt64 (s.ahead 0).w0.toNat || fpIsNan fmt64 (s.ahead 0).w1.toNat) = false)
      [.furCmp 0 3 5, .furCmpu 0 3 5, .furFcmp 0 3 5, .furLdwb 0 63, .furStwb 0 63] ∧
    feeds (core { busy with w1 := 0x7FF0000000000001 })
      (fun s => (fpIsNan fmt64 (s.ahead 0).w0.toNat || fpIsNan fmt64 (s.ahead 0).w1.toNat) = true) [.furFcmp 0 0 0] := by
  dsimp only [feeds, State.coreReady]; decide +kernel

/-- A jump back to the first instruction, and the far end of the code. -/
theorem meets_control :
    feeds (core busy) (fun s => ((0 : Nat) : Int) = ((s.core 0).pc : Int) + 1 + (BitVec.ofInt 24 (-4)).toInt ∧ 0 < 2 ^ 20 ∧
      (((2 ^ 20 - 1 : Nat)) : Int) = ((s.core 0).pc : Int) + 1 + (BitVec.ofNat 24 1048571).toInt ∧ (s.ahead 0).calls.length < 16)
      [.furJmp 0 (-4), .furJc 0 (-4), .furJnc 0 (-4), .furLoopw 0 (-4), .furCall 0 (-4), .furJmp 0 1048571, .furNop 0, .furFlg 0, .furFlc 0] ∧
    feeds (core { busy with calls := [⟨7, none⟩] }) (fun s => (s.ahead 0).calls = [⟨7, none⟩]) [.furRet 0] := by
  dsimp only [feeds, State.coreReady]; decide +kernel

theorem meets_blocks :
    feeds (core busy) (fun s => s.fbBlock? 0 = some ⟨1, 1, 4, 24, 0, 8, 8, 8, []⟩ ∧ s.instAddr? 0 = some (instBank 0) ∧ (s.ahead 0).la = true ∧
      (s.ahead 0).b3.toNat + 8 + 8 ≤ 0x10000 ∧ (s.ahead 0).calls.length < 16 ∧ s.eccFault areaL 8 = false ∧
      s.eccFault (instBank 0) 16 = false) [.furCallfb 0 0] ∧
    feeds ready (fun s => s.fbBlock? 0 = some ⟨1, 1, 4, 24, 0, 8, 8, 8, []⟩ ∧ s.instAddr? 0 = some (instBank 0) ∧ (s.ahead 0).la = false)
      [.furCallfb 0 0] ∧
    feeds (core inBlock) (fun s => (s.core 0).calls = [⟨3, some ⟨0, 1, 2, 3, 0, areaL⟩⟩] ∧
      s.fbBlock? 0 = some ⟨1, 1, 4, 24, 0, 8, 8, 8, []⟩ ∧ s.instAddr? 0 = some (instBank 0) ∧
      (s.core 0).branch.length = 0 ∧ s.eccFault (instBank 0 + 16 + 8) 8 = false ∧ areaL + 8 + 8 ≤ instBank 0) [.furRet 0] := by
  dsimp only [feeds, State.coreReady]; decide +kernel

/-- Core 0 waits at barrier 0, and core 1 as c. -/
def atBarrier (c : PassCore) : State :=
  let s := core { busy with arrived := [0], waiting := some 0 }
  { s with pass := { s.pass with core1 := c } }

theorem meets_barriers : feeds (core busy) (fun s => 0 ∉ (s.core 0).arrived) [.furBar 0 0] ∧ (atBarrier core0).allArrived 0 = false ∧
    (atBarrier { core0 with arrived := [0], waiting := some 0 }).allArrived 0 = true ∧
    ((atBarrier { core0 with arrived := [0], waiting := some 0 }).core 0).waiting = some 0 := by
  dsimp only [feeds, State.coreReady]; decide +kernel

theorem meets_end : feeds (core busy) (fun s => (s.core 0).branch ≠ []) [.furEnd 0] ∧
    feeds ready (fun s => (s.core 0).branch = [] ∧ (s.core 0).calls = []) [.furEnd 0] := by
  dsimp only [feeds, State.coreReady]; decide +kernel

/-- A timer of core 0 with its flags, at the end of the strip's share. -/
def timer (flags : Byte) (c : PassCore) : State := { core c with mem := [(areaT + 32 + 4, flags)] }

theorem meets_timers : ∀ (la : Bool) (flags : Fin 8),
    feeds (timer (BitVec.ofNat 8 flags.val) { core0 with la := la }) (fun s =>
      recordReady s 0 (fun st => (st.tBase, st.tCount)) areaT 32 1 ∧ (s.ahead 0).la = la ∧
        s.bit (areaT + 32 + 4) 2 = decide (4 ≤ flags.val))
      [.furTon 0 1, .furTof 0 1, .furTp 0 1, .furTrd 0 1, .furTrs 0 1] := by
  unfold feeds recordReady State.coreReady
  intro la flags i hi
  refine ⟨?_, ⟨⟨⟨0, 8, 2, 0, 0x100, 0, 0x100, 0, 0x100, 0, 2, 0, 2, 0, 2⟩, ?_⟩, ?_⟩, ?_⟩ <;> revert i la flags <;> decide +kernel

theorem meets_counters :
    feeds ready (fun s => recordReady s 0 (fun st => (st.nBase, st.nCount)) areaN 16 1)
      [.furCtu 0 1, .furCtd 0 1, .furCrs 0 1, .furClv 0 1, .furCpv 0 1, .furCrd 0 1] ∧
    feeds ready (fun s => recordReady s 0 (fun st => (st.eBase, st.eCount)) areaE 8 1) [.furRtrg 0 1, .furFtrg 0 1] := by
  unfold feeds recordReady State.coreReady
  constructor <;> intro i hi <;>
    refine ⟨?_, ⟨⟨0, 8, 2, 0, 0x100, 0, 0x100, 0, 0x100, 0, 2, 0, 2, 0, 2⟩, ?_⟩, ?_⟩ <;> revert i <;> decide +kernel

theorem meets_system : feeds ready (fun s => s.fabric.inFlight = [] ∧ s.canAccess 2 = true ∧ s.gleaner.fifo.length < 256)
    [.furWrr 0 0x1000, .furRdr 0 0x1000, .furHist 0 1023] := by
  dsimp only [feeds, State.coreReady]; decide +kernel

/-! States that meet the hypotheses of the statements about the fabric and the host link. -/

theorem meets_rejections : run.canAccess 15 = true ∧ (booted run { run.boot with porst := true }).canAccess 1 = false ∧
    isHost 1 = false ∧
    pickCode (run.regWriteCodes 15 16 GLOBAL_SCRATCH 0) = some E_WIDTH ∧ pickCode (run.regWriteCodes 15 32 0x3FFFFC 0) = some E_UNKNOWN ∧
    pickCode (run.regWriteCodes 15 32 PASS_MODE_CTL 1) = some E_LOCKED ∧
    pickCode (widthCodes false 32 (GLOBAL_SCRATCH + 1) ++ run.placeCodes 15 ((GLOBAL_SCRATCH + 1) / 4 * 4) false) = some E_ALIGN ∧
    pickCode (fitted.memCodes 1 16 (sd 1) true) = some E_ALIGN ∧ pickCode (fitted.memCodes 6 32 0x1000000 false) = some E_UNKNOWN ∧
    fitted.memCodes 1 32 (sd 0) true = [] := by
  decide +kernel

theorem meets_scratch : run.settled ∧ (∀ m : Fin 16, run.canAccess m = true) ∧
    run.placeCodes 15 GLOBAL_SCRATCH true = [] ∧ run.placeCodes 14 (GLOBAL_SCRATCH + 0x4000) true = [] ∧
    run.placeCodes 15 (GLOBAL_SCRATCH + 0x8000) true = [] ∧ run.placeCodes 15 (GLOBAL_SCRATCH + 0xC000) true = [] ∧
    run.placeCodes 15 GLOBAL_SCRATCH false = [] ∧ run.placeCodes 15 (GLOBAL_SCRATCH + 0x4000) false = [] := by
  unfold State.settled; decide +kernel

theorem meets_key : run.canAccess 1 = true ∧ run.placeCodes 1 ACCESS_UNLOCK true = [] ∧ (0x5EEDC0DE : Word) = 0x5EEDC0DE ∧ (0 : Word) ≠ 0x5EEDC0DE := by
  decide +kernel

/-- Semaphore n held by a master. -/
def held (n m : Nat) : State := with_ run [(ACCESS_SEM_STATE n, 1), (ACCESS_SEM_OWNER n, m)]

theorem meets_semaphores : run.settled ∧ run.canAccess 0 = true ∧ run.canAccess 14 = true ∧ run.placeCodes 0 (ACCESS_SEM 31) false = [] ∧ ¬ run.rd (ACCESS_SEM_STATE 31) ≠ 0 ∧
    run.placeCodes 0 (ACCESS_SEM 31) true = [] ∧
    ((held 0 0).settled ∧ (held 0 0).placeCodes 0 (ACCESS_SEM 0) false = [] ∧ (held 0 0).placeCodes 0 (ACCESS_SEM 0) true = [] ∧
      (held 0 0).rd (ACCESS_SEM_STATE 0) ≠ 0 ∧ (held 0 0).rd (ACCESS_SEM_OWNER 0) = 0) ∧
    ((held 31 15).settled ∧ (held 31 15).placeCodes 0 (ACCESS_SEM 31) false = [] ∧ (held 31 15).placeCodes 0 (ACCESS_SEM 31) true = [] ∧
      (held 31 15).rd (ACCESS_SEM_STATE 31) ≠ 0 ∧ (held 31 15).rd (ACCESS_SEM_OWNER 31) ≠ 0) ∧
    ((unlocked 14 (held 31 15)).mayWrite 14 ACCESS_SEM_FORCE ∧ (unlocked 14 (held 31 15)).rd (ACCESS_SEM_STATE 31) ≠ 0 ∧ (14 : Fin 16).val = mPF1) := by
  unfold State.mayWrite State.settled; decide +kernel

/-- A commit that waits for the writes accepted before it, the third the last of them, and an edit since some time. -/
def editing (pend : List PendA) (now : Nat) : State :=
  let s := with_ { run with now := now } [(ACCESS_CFG_CTL_EDIT, 1), (ACCESS_CFG_CTL_EDIT_MAX, 1)]
  { s with fabric := { s.fabric with commitOn := some 3, editSince := some 1000, pendA := pend, compareOn := true } }

theorem meets_config : run.settled ∧ run.canAccess 15 = true ∧ run.placeCodes 15 ACCESS_CFG_CTL true = [] ∧
    run.rd ACCESS_CFG_CTL_EDIT_MAX ≠ 0 ∧ run.rd ACCESS_CFG_CTL_EDIT = 0 ∧
    ((editing [] 0).fabric.commitOn = some 3 ∧ (editing [] 0).paired = false ∧ (editing [] 0).commitReady 3 = true) ∧
    ((editing [⟨PASS_WD_CFG, 1, 1, 4⟩] 0).commitReady 3 = true ∧ (editing [⟨PASS_WD_CFG, 1, 1, 3⟩] 0).commitReady 3 = false) ∧
    run.fabric.commitOn = none ∧
    (let s := editing [] (1000 + cycPerS)
     s.fabric.editSince = some 1000 ∧ s.rd ACCESS_CFG_CTL_EDIT = 1 ∧ 1000 + s.rd ACCESS_CFG_CTL_EDIT_MAX * cycPerS ≤ s.now) ∧
    (let s := { run with fabric := { run.fabric with compareOn := true } }
     s.fabric.compareOn = true ∧ s.rd ACCESS_CFG_CTL_EDIT = 0 ∧ s.fabric.commitOn = none) := by
  unfold State.settled; decide +kernel

/-- A write of the steward's in flight to a field port since the time 1000. -/
def crossing : Crossing := ⟨mSteward, FP_CTL 0, FP_CTL 0, 1, 1, 0, 1, false, 1000⟩
def flying (now : Nat) (stopped : Bool) : State :=
  let s := with_ { run with now := now } (if stopped then [(CP_CLK_STAT_STOPPED, 32)] else [])
  { s with fabric := { s.fabric with inFlight := [crossing] } }

theorem meets_flight : (flying 1000 false).fabric.inFlight = [crossing] ∧ crossing.off = FP_CTL 0 ∧
    (flying 1000 false).domainRuns (FP_CTL 0) = true ∧ (flying 1255 true).domainRuns (FP_CTL 0) = false ∧
    (flying 1255 true).now < crossing.since + 256 ∧ (flying 1256 true).domainRuns (FP_CTL 0) = false ∧
    crossing.since + 256 ≤ (flying 1256 true).now ∧ crossing.master < 16 := by
  decide +kernel

theorem meets_clocks : (1 : Fin 12).val ≠ 0 ∧ (0 : Fin 12).val = 0 ∧ (unlocked 15 run).mayWrite 15 CP_TIME_CTL ∧
    (unlocked 15 run).rd CP_TIME_CTL_TIME_BUSY = 0 ∧
    (let s := { run with calSet := some (5 * cycPerS, 1001) }
     s.calSet = some (5 * cycPerS, 1001) ∧ s.now < 1001 ∧ s.cal + cycPerS < 5 * cycPerS) ∧
    (let s := { run with calSet := some (cycPerS, 1000) }
     s.calSet = some (cycPerS, 1000) ∧ 1000 ≤ s.now ∧ cycPerS ≤ s.cal + cycPerS ∧ s.cal ≤ cycPerS + cycPerS) ∧
    (cycPerS : Int).natAbs ≤ cycPerS ∧ cycPerS < (-(cycPerS : Int) - 1).natAbs := by
  unfold State.mayWrite State.settled; decide +kernel

/-- A function with one vector pending, and room for posted writes. -/
def linked (p : PcieFn) : State := { run with host := { run.host with bringupDone := true, pf0 := p } }
def fnOn : PcieFn := { pcieFn0 with d3hot := false, msix := { pcieFn0.msix with enable := true, fmask := false, unmasked := [], pba := [63] } }

theorem meets_link : ((linked pcieFn0).boot.porst = false ∧ (linked pcieFn0).boot.aon = true ∧ (linked pcieFn0).host.bringupDone = true ∧
      ((4 = 1 ∨ 4 = 2 ∨ 4 = 4) ∧ 1 ≤ 4 ∧ 4 ≤ 4)) ∧
    State.reset.host.bringupDone = false ∧ ¬ (8 = 1 ∨ 8 = 2 ∨ 8 = 4) ∧
    (let s := linked { pcieFn0 with d3hot := true }
     (s.fn false).msix.pba = [] ∧ (s.fn false).d3hot = true) := by
  decide +kernel

theorem meets_vectors : (let s := linked fnOn
     s.hostUp = true ∧ (s.fn false).msix.enable = true ∧ (s.fn false).msix.fmask = false ∧ (s.fn false).d3hot = false ∧
       63 < 64 ∧ 63 ∉ (s.fn false).msix.unmasked ∧ 63 ∈ (s.fn false).msix.pba ∧ 0 ∉ (s.fn false).msix.pba ∧
       s.causeSet false 5 = false ∧ 5 ∉ (s.fn false).msix.pba ∧ 5 ∉ (s.fn false).msix.unmasked) ∧
    bar4Ok 0x4000 32 = false ∧ (linked { fnOn with d3hot := true }).hostUp = true := by
  decide +kernel

theorem meets_aperture : (let s := fitted
     s.fnUp false = true ∧ s.sdramSize < 4 * 2 ^ 30 + 4 ∧
       bitsOf (s.reg (HL_WIN 0)).toNat 3 0 * 2 ^ 30 + 0x4000000 % 2 ^ 30 + 4 ≤ s.sdramSize ∧
       (∀ r ∈ apertureGuarded, ¬ (r.1 < 0x4000000 + 4 ∧ 0x4000000 < r.1 + r.2)) ∧ (s.fn false).postedBytes + 4 ≤ 0x10000 ∧
       (s.fn false).posted = [] ∧ s.anyBad (sd 0x4000000) 4 = false ∧
       s.settled ∧ s.canAccess (fnMaster false) = true ∧ s.placeCodes (fnMaster false) (HL_WIN 0) true = [] ∧
       (3 : Word).toNat % 16 * 2 ^ 30 < s.sdramSize) ∧
    (let p : PcieFn := { pcieFn0 with posted := [(sd 0, [some 1, none])] }
     let s := { fitted with host := { fitted.host with pf0 := p } }
     (s.fn false).posted = [(sd 0, [some 1, none])] ∧ (s.fn false).reads = []) ∧
    (let w : WaitingRead := ⟨0, sd 0, 4, 1000 - 1000, 1⟩
     let p : PcieFn := { pcieFn0 with posted := [(sd 0, [some 1])], reads := [w] }
     let s := { with_ fitted [(HL_BAR2_CFG_TMO_MS, 1)] with host := { fitted.host with pf0 := p } }
     let u := { s with now := cycPerMs }
     (s.fn false).reads = [w] ∧ s.now < w.since + s.rd HL_BAR2_CFG_TMO_MS * cycPerMs ∧
       w.since + u.rd HL_BAR2_CFG_TMO_MS * cycPerMs ≤ u.now ∧ w.addr - aSdram + w.len ≤ s.sdramSize ∧
       s.anyBad w.addr w.len = false) ∧
    (let s := { fitted with host := { fitted.host with pf0 := { pcieFn0 with d3hot := true } } }
     s.hostUp = true ∧ (s.fn false).d3hot = true) ∧
    (with_ run [(HL_LINK_STAT_LINK_UP, 0)]).hostUp = false ∧
    0x10000 < (fitted.fn false).postedBytes + (List.replicate 0x10001 (none : Option Byte)).length := by
  refine ⟨?_, ⟨rfl, rfl⟩, ?_, ?_, ?_, ?_⟩
  · unfold State.settled; decide +kernel
  · decide +kernel
  · decide +kernel
  · decide +kernel
  · rw [List.length_replicate]; decide +kernel

/-- A word waits in a direction, or a word mailbox is full. -/
def posted (d : MbDir) : State := if d.queue then run.setWaiting d.data [⟨7, 0⟩] else with_ run [(d.full, 1)]

theorem meets_mailboxes : (run.fn false).posted = [] ∧ (run.fn true).posted = [] ∧ (run.fn false).reads = [] ∧
    (run.fn true).reads = [] ∧ (∀ m : Fin 16, run.canAccess m = true) ∧ run.requests.replies = [] ∧
    (qchXY 0 ∈ allDirs ∧ run.placeCodes 15 (qchXY 0).data true = [] ∧ (qchXY 0).sender = 15 ∧ run.mbBusy (qchXY 0) = false ∧
      (qchXY 0).queue = true ∧ (qchXY 0).sender ≠ 1) ∧
    ((run.setWaiting (qchXY 0).data (List.replicate 32 ⟨7, 0⟩)).mbBusy (qchXY 0) = true) ∧
    (mbwDir 0 ∈ allDirs ∧ run.placeCodes (mbwDir 0).sender (mbwDir 0).data true = [] ∧ run.mbBusy (mbwDir 0) = false ∧
      (mbwDir 0).queue = false ∧ (posted (mbwDir 0)).mbBusy (mbwDir 0) = true) ∧
    ((posted (qchYX 0)).placeCodes 15 (qchYX 0).data false = [] ∧ (posted (qchYX 0)).settled ∧ (qchYX 0).receiver = 15 ∧
      (posted (qchYX 0)).waiting (qchYX 0).data = [⟨7, 0⟩] ∧ run.mbUnread (qchYX 0) = false) ∧
    ((posted (mbwDir 0)).placeCodes (mbwDir 0).receiver (mbwDir 0).data false = [] ∧ (posted (mbwDir 0)).rd (mbwDir 0).full = 1) ∧
    ((qchXY 2).receiver = 2 ∧ (posted (qchXY 2)).mbUnread (qchXY 2) = true ∧ ((posted (qchXY 2)).core 0).gated = true) := by
  unfold State.settled; decide +kernel

/-! States that meet the hypotheses of the statements about sowing, passes and requests. -/

theorem meets_restarts : (run.boot.aon = true ∧ run.boot.porst = false ∧ run.boot.saving = none) ∧
    ((booted run { run.boot with porst := true }).boot.porst = true ∧ (booted run { run.boot with porst := true }).boot.aon = true) ∧ (booted run { run.boot with saving := some record }).boot.saving = some record ∧
    ((unlocked 15 run).mayWrite 15 CP_RESTART ∧ 9 ≤ (unlocked 15 run).rd CP_BOOT_STAT_STAGE ∧
      (unlocked 15 run).rd CP_BOOT_STAT_STAGE ≤ 12 ∧ (unlocked 15 run).boot.saving = none) ∧
    (booted run { run.boot with aon := false }).boot.aon = false := by
  unfold State.mayWrite State.settled; decide +kernel

theorem meets_stages : (stage 0).boot.testMode = false ∧
    (let s := stage 0; { s with boot := { s.boot with testMode := true } }).boot.testMode = true ∧
    (∀ n : Fin 4, (stage n.val).atStage n.val = true) ∧ run.atStage 0 = false ∧ run.keys.area.target = none ∧
    (stage 2).rd CP_DDR_STAT_TRAINED = 1 ∧ 4 ≤ 16 ∧ 16 ≤ 16 := by
  decide +kernel

/-- An image with a directory of the sections given (type, offset, length) and its check word. -/
def image (n len crc : Nat) (types : List (Nat × Nat × Nat)) : State :=
  let s := booted (stage n) { run.boot with imageLen := len }
  let hdr := leBytes 4 0x4453584B ++ leBytes 2 3 ++ leBytes 2 0x100 ++ leBytes 4 4096
  let s1 := (s.putBytes s.imageBase hdr).putBytes (s.imageBase + 0x40) (leBytes 2 types.length ++ leBytes 2 0 ++ leBytes 4 0x100)
  let s2 := s1.each types.zipIdx (fun t e =>
    t.putBytes (s.imageBase + 0x100 + 16 * e.2) (leBytes 2 e.1.1 ++ leBytes 2 0 ++ leBytes 4 e.1.2.1 ++ leBytes 4 e.1.2.2))
  s2.putBytes (s.imageBase + len - 4) (leBytes 4 crc)

/-! The neutral point of Ed448: as a public key it verifies one signature of every message, so that a signed message can be
shown. -/

def neutralKey : List Byte := leBytes 57 1
def neutralSig : List Byte := neutralKey ++ List.replicate 57 0
def isNeutral (t : Point448) : Prop := t.x = 0 ∧ t.y = t.z

theorem neutral_plus (s t : Point448) (hs : isNeutral s) (ht : isNeutral t) : isNeutral (s.plus t) := by
  have h0 : ∀ x, mul448 x 0 = 0 := fun x => by simp [mul448]
  have h1 : ∀ x, mul448 0 x = 0 := fun x => by simp [mul448]
  have hd : ∀ a b, sub448 (mul448 a b) 0 = mul448 a b := fun a b => by simp [sub448, mul448]
  have ha : ∀ x, add448 0 x = x % p448 := fun x => by simp [add448]
  have hb : ∀ a b, add448 (mul448 a b) 0 = mul448 a b := fun a b => by simp [add448, mul448]
  have hm : mul448 (s.z % p448) (t.z % p448) = mul448 s.z t.z := by simp [mul448, Nat.mul_mod]
  have hz : ∀ a b, sub448 (mul448 a b) (mul448 a b) = 0 := fun a b => by
    have : mul448 a b < p448 := Nat.mod_lt _ (by decide +kernel)
    unfold sub448
    rw [Nat.mod_eq_of_lt this, Nat.add_sub_cancel' (Nat.le_of_lt this), Nat.mod_self]
  refine ⟨?_, ?_⟩ <;> simp only [Point448.plus, hs.1, ht.1, hs.2, ht.2, h0, h1, hd, ha, hb, hm, hz]
  simp only [mul448, Nat.mul_mod_mod, Nat.mod_mul_mod, Nat.mul_assoc]

theorem neutral_times (t : Point448) (k n : Nat) (acc : Point448) (h : isNeutral t ∨ k = 0) (ha : isNeutral acc) :
    isNeutral (times448 k t n acc) := by
  induction n generalizing acc with
  | zero => exact ha
  | succ n ih =>
    have h2 := neutral_plus _ _ ha ha
    rcases h with h | rfl
    · unfold times448; split
      · exact ih _ (neutral_plus _ _ h2 h)
      · exact ih _ h2
    · unfold times448; rw [Nat.zero_div]; exact ih _ h2

theorem neutral_same (s t : Point448) (hs : isNeutral s) (ht : isNeutral t) : s.same t = true := by
  simp [Point448.same, hs.1, ht.1, hs.2, ht.2, mul448, Nat.mul_comm]

theorem neutral_verifies (context : String) (digest : List Byte) : edVerify neutralKey context digest neutralSig = true := by
  have h : decode448 neutralKey = some zero448 := by decide +kernel
  have hd : ofLeBytes (neutralSig.drop 57) = 0 := by decide +kernel
  have hz : isNeutral zero448 := ⟨rfl, rfl⟩
  have hp := neutral_plus _ _ hz (neutral_times zero448 (edScalar context (neutralKey ++ neutralKey ++ digest)) 456 _ (.inl hz) hz)
  have hs := neutral_same _ _ (neutral_times _ 4 456 _ (.inl (neutral_times gen448 0 456 _ (.inr rfl) hz)) hz)
    (neutral_times _ 4 456 _ (.inl hp) hz)
  have ho : decide (0 < order448) = true := by decide +kernel
  unfold edVerify
  rw [show neutralSig.take 57 = neutralKey from rfl, h, hd]
  simp only [Point448.times, hs, ho, show neutralSig.length = 114 from rfl]
  rfl

theorem neutral_signed {key sig : List Byte} (hk : key = neutralKey) (hs : sig = neutralSig) (context : String) (digest : List Byte) :
    edVerify key context digest sig = true := by
  rw [hk, hs, neutral_verifies]

/-- An image with the sections that must be there, as short as it can be, in DEPLOYED with the neutral key as the owner's; its
signatures and those of its firmware are of the neutral point. -/
def smallImage : State :=
  let signed (s : State) : State := [0x180, 0x200, 0x3D0].foldl (fun t k => t.putBytes (s.imageBase + k) [1]) s
  let lived (s : State) : State := { s with keys := { s.keys with lc := 1, owner := neutralKey } }
  lived <| signed <| image 5 0x450 741419037 [(1, 0x180, 128), (2, 0x200, 128), (3, 0x280, 1), (16, 0x2C0, 1), (17, 0x300, 1), (32, 0x340, 1), (33, 0x380, 1),
    (48, 0x3C0, 1)]

theorem meets_slotRead : (stage 4).atStage 4 = true ∧ (stage 4).keys.lc ≠ 3 ∧ (stage 4).triesHost = false ∧
    (stage 4).norAnswers 0 = true ∧ (stage 4).boot.slot = 0 ∧ 0x10000000 ≤ (stage 4).sdramSize ∧
    (let s := booted (stage 4) { run.boot with slot := 1 }
     s.atStage 4 = true ∧ s.keys.lc ≠ 3 ∧ s.triesHost = false ∧ s.norAnswers s.boot.slot = false) ∧
    ((if imgLenOk ((stage 4).ld ((stage 4).slotPlace.1 + 8) 4) (stage 4).slotPlace.2 then (stage 4).ld ((stage 4).slotPlace.1 + 8) 4
      else 0x100) ≤ 0x8000000) := by
  decide +kernel

set_option maxRecDepth 20000 in
/-- No value of the fused key that verifies firmware can be shown, so the image passes every check where it is the neutral key. -/
theorem meets_verify (h : (List.range 57).map Config.firmwareKey = neutralKey) : smallImage.atStage 5 = true ∧
    smallImage.slotCheck = none := by
  have hi : smallImage.imageSigned smallImage.image = true :=
    neutral_signed (by decide +kernel) (by decide +kernel) _ _
  have hf : ∀ t off, smallImage.image.entry? t = some ⟨t, 0, 0, off, 128, 0⟩ → smallImage.bytes (smallImage.image.base + off + 128 - 128) 114 = neutralSig →
      smallImage.image.fwSigned t = true := by
    intro t off he hb
    unfold Sec.fwSigned
    simp only [he]
    exact neutral_signed h hb _ _
  refine ⟨by decide +kernel, ?_⟩
  unfold State.slotCheck
  simp only [hi, hf secFw 0x180 (by decide +kernel) (by decide +kernel), hf secSteward 0x200 (by decide +kernel) (by decide +kernel)]
  decide +kernel

theorem meets_verifyFails : (stage 5).atStage 5 = true ∧ (stage 5).slotCheck = some (E_NO_IMAGE, secNone) ∧
    (stage 6).atStage 6 = true := by
  decide +kernel

theorem meets_unpack : (let s := image 7 0x450 0 [(secSafe, 0x180, 1)]
     s.atStage 7 = true ∧ s.image.directory.filter (fun e => !secKnown.contains e.type) = [] ∧
       (match s.unpackSlot with
        | .error f => f.access == none
        | .ok _ => false) = true) ∧
    smallImage.image.directory.filter (fun e => !secKnown.contains e.type) = [] := by
  decide +kernel

theorem meets_restore : (stage 8).atStage 8 = true ∧ (stage 8).pass.timerOn = false := by decide +kernel

/-- A running unit with a retention device in use, at a time. -/
def retaining (now : Nat) (b : Boot) : State :=
  { with_ run [(CP_XSPI_STAT_XR0, 1), (CP_RETAIN_CFG_CHECKPOINT_S, 1)] with now := now, boot := b }

theorem meets_saves :
    (let s := retaining cycPerS run.boot
     s.rd CP_BOOT_STAT_STAGE = 9 ∧ s.retained = true ∧ s.boot.ckptDue = false ∧
       s.boot.ckptAt + s.rd CP_RETAIN_CFG_CHECKPOINT_S * cycPerS ≤ s.now) ∧
    (retaining 0 { run.boot with writing := some record }).boot.writing = some record ∧
    (let s := retaining 0 run.boot
     s.boot.warnAt = none ∧ s.boot.confirmed = false ∧ s.boot.aon = true ∧ s.boot.porst = false) ∧
    (let s := retaining (20 * cycPerUs - 1) { run.boot with warnAt := some 0 }
     s.boot.warnAt = some 0 ∧ s.boot.confirmed = false ∧ s.now < 0 + 20 * cycPerUs) ∧
    (let s := retaining (20 * cycPerUs) { run.boot with warnAt := some 0 }
     0 + 20 * cycPerUs ≤ s.now ∧ s.rd CP_BOOT_STAT_STAGE = 9) ∧
    (let s := booted (stage 4) { run.boot with warnAt := some 0 }
     s.rd CP_BOOT_STAT_STAGE ≠ 9) ∧
    (let s := with_ (retaining 0 { run.boot with saving := some record }) [(CP_BOOT_STAT_STAGE, 0xB)]
     s.boot.saving = some record ∧ s.boot.held = none ∧ s.boot.released = false ∧ s.rd CP_BOOT_STAT_STAGE = 0xB ∧
       s.meter.closing = false) ∧
    (let t := retaining 0 { run.boot with saving := some record }
     let s := { t with meter := { t.meter with closing := true } }
     s.boot.saving.isSome = true ∧ s.meter.closing = true) ∧
    (run.field.reserving = none ∧ run.reservation <
      (run.gzAll.map (fun g => run.gz g 0x28 8) ++ run.field.waiting.map HeldTelegram.floor).foldl max 0 + 2 ^ 24) ∧
    (let s := { run with field := { run.field with reserving := some (2 ^ 24, 1000) } }
     s.field.reserving = some (2 ^ 24, 1000) ∧ 1000 ≤ s.now ∧ 2 ^ 24 < 2 ^ 63 ∧ s.field.waiting = []) ∧
    (let s := { run with field := { run.field with reserving := some (2 ^ 24, 1001) } }
     s.now < 1001) := by
  decide +kernel

/-- A unit whose pass timer is on: the phase, and the pass changed. -/
def timed (ph : Nat) (f : Pass → Pass) : State :=
  let s := with_ { run with pass := { run.pass with timerOn := true, nextTick := 1000, tickOf := 0 } } [(PASS_PHASE_PHASE, ph)]
  { s with pass := f s.pass }

theorem meets_ticks : (let s := timed phRemainder id
     s.pass.timerOn = true ∧ s.pass.nextTick ≤ s.now ∧ s.ownPasses = true ∧ s.pass.holdTicksUntil ≤ s.pass.nextTick ∧
       s.rd PASS_PHASE_PHASE = phRemainder ∧ s.pass.lateDue = none) ∧
    (let s := timed phRemainder (fun p => { p with nextTick := 1001 })
     s.now < s.pass.nextTick) ∧
    (let s := timed phLogic id
     s.pass.holdTicksUntil ≤ s.pass.nextTick ∧ s.rd PASS_PHASE_PHASE ≠ phRemainder ∧ s.ownPasses = true) ∧
    (let s := timed phRemainder (fun p => { p with holdTicksUntil := 1001 })
     s.pass.nextTick < s.pass.holdTicksUntil ∧ s.pass.nextTick ≤ s.now ∧ s.ownPasses = true) ∧
    (let s := timed phRemainder (fun p => { p with lateDue := some 900 })
     s.pass.lateDue = some 900 ∧ s.pass.timerOn = true ∧ s.rd PASS_PHASE_PHASE = phRemainder) := by
  decide +kernel

theorem meets_phases : (let s := with_ (timed phFreeze (fun p => { p with prog := some prog, core0 := { core0 with gated := false } })) [(PASS_MODE_STAT_MODE, modeRun)]
     s.rd PASS_PHASE_PHASE = phFreeze ∧ s.rd PASS_MODE_STAT_MODE = modeRun ∧ s.pass.fatal = false ∧
       (s.strip? 0).isSome = true ∧ (s.core 0).gated = false ∧ s.strip? 3 = none) ∧
    (let s := timed phFreeze id
     s.rd PASS_PHASE_PHASE = phFreeze ∧ s.rd PASS_MODE_STAT_MODE ≠ modeRun) ∧
    (let s := timed phLogic id
     s.rd PASS_PHASE_PHASE = phLogic ∧ s.stripsDone = true) ∧
    (let s := with_ (timed phLogic id) [(PASS_CORE_STAT_STATE 3, coreWaiting)]
     s.stripsDone = false) ∧
    ((timed phOutput id).rd PASS_PHASE_PHASE = phOutput ∧ (timed phOutput id).fabric.inFlight = []) ∧
    (let t := timed phHeadland (fun p => { p with faulted := true })
     let s := { t with fabric := { t.fabric with pendNow := [⟨PASS_WD_CFG, 0xFF, 5, 1⟩] } }
     s.rd PASS_PHASE_PHASE = phHeadland ∧ s.paired = false ∧ s.requests.applying = [] ∧ s.camp.publishing = false ∧
       s.fabric.pendNow = [⟨PASS_WD_CFG, 0xFF, 5, 1⟩] ∧ s.pass.faulted = true) := by
  decide +kernel

theorem meets_modes : (let s := unlocked 15 (timed phRemainder (fun p => { p with prog := some prog }))
     s.mayWrite 15 PASS_MODE_CTL ∧ s.pass.timerOn = true ∧ s.pass.prog.isSome = true ∧ s.rd CP_BOOT_STAT_STAGE = 9 ∧ s.scan = false ∧
       s.rd PASS_MODE_STAT_MODE = modeStop) ∧
    (let s := unlocked 15 (with_ (timed phRemainder id) [(PASS_MODE_STAT_MODE, modeHold)])
     s.mayWrite 15 PASS_MODE_CTL ∧ s.pass.prog = none ∧ s.pass.faulted = false ∧ s.rd PASS_MODE_STAT_MODE ≠ modeStop) ∧
    (let s := timed phLogic (fun p => { p with tickOf := 1000 })
     s.now < s.pass.tickOf + s.wdLimit) ∧
    (let t := timed phLogic id
     let s := { t with now := t.pass.tickOf + t.wdLimit }
     s.pass.timerOn = true ∧ s.rd PASS_PHASE_PHASE ≠ phRemainder ∧ s.pass.tickOf + s.wdLimit ≤ s.now ∧ s.healthyStandby = false) := by
  unfold State.mayWrite State.settled; decide +kernel

/-- Words, put in at a time, at the head of a channel of requests. -/
def asking (s : State) (ch : ReqChannel) (words : List Word) (t : Nat) : State :=
  s.setWaiting (qchXY (chNum ch)).data (words.map (fun w => ⟨w, t⟩))

/-- The header of a request with the tag 7 and n words of its own. -/
def ask (op n : Nat) : Word := BitVec.ofNat 32 (op * 2 ^ 24 + 0x070000 + n)

/-- A request to go back to the program kept, with one kept or without. -/
def reverting (p : Option Program) : State :=
  let s := { stage 9 with pass := { run.pass with kept := p } }
  asking s .qch00 [ask 0x22 0, 0, 0] 1000
def revert : Amend := ⟨0, 0x22, 7, [], [], none⟩

/-- What `offered` asks of a state is decided by running it. -/
theorem offered_of (s : State) (ch : ReqChannel) (a : Amend) (len off : Nat) (rest : List Nat)
    (h : a.ch = chNum ch ∧ a.group = none ∧ a.op < 256 ∧ a.tag < 256 ∧ a.inl.length ≤ 29 ∧ s.rd (qchXY (chNum ch)).senderReset = 0 ∧
      s.groupOn (chNum ch) = none ∧ s.mustWait (chNum ch) = false ∧
      s.formCodes ch (s.requestWords (qchXY (chNum ch))) (decide (0 < s.rd (qchXY (chNum ch)).preLevel)) = [] ∧
      ((s.waiting (qchXY (chNum ch)).data).take (3 + a.inl.length)).all (fun x =>
        ((s.waiting (qchXY (chNum ch)).data).head?.map (·.at_)).any (fun t => decide (x.at_ ≤ t + 10 * cycPerMs))) = true)
    (hw : s.requestWords (qchXY (chNum ch)) =
        (a.op * 2 ^ 24 + a.tag * 2 ^ 16 + a.inl.length) :: len :: off :: (a.inl.map BitVec.toNat ++ rest))
    (hp : a.payload = if a.op = 0x41 then [] else s.bytes (s.stagingBase + off) len) : offered s ch a len := by
  obtain ⟨h1, h2, h3, h4, h5, h6, h7, h8, h9, h10⟩ := h
  refine ⟨h1, h2, h3, h4, h5, h6, h7, h8, h9, fun w hh x hx => ?_, off, rest, hw, hp⟩
  have := List.all_eq_true.mp h10 x hx
  rw [hh] at this
  simpa using this

theorem meets_amendment : offered (reverting (some prog)) .qch00 revert 0 ∧ (revert.op, Instr.exchRevert .qch00) ∈ amendmentRows .qch00 ∧
    ((((reverting (some prog)).popWords (qchXY 0) 3).draft []).codes revert) = [] ∧
    offered (reverting none) .qch00 revert 0 ∧
    pickCode ((((reverting none).popWords (qchXY 0) 3).draft []).codes revert) = some E_STATE ∧
    (reverting none).requests.replies = [] ∧ ((reverting none).waiting (qchYX 0).data).length ≤ 30 := by
  refine ⟨offered_of _ _ _ _ 0 [] (by decide +kernel) (by decide +kernel) (by decide +kernel), by decide +kernel, by decide +kernel,
    offered_of _ _ _ _ 0 [] (by decide +kernel) (by decide +kernel) (by decide +kernel), by decide +kernel, by decide +kernel, by decide +kernel⟩

/-- A steward command for a slot and offset, one byte long. -/
def norAsk (op : Nat) (slot : Word) : State := asking (stage 9) .qch01 [ask op 2, 1, 0, slot, 0] 1000
def norWant (op : Nat) (slot : Word) (pay : List Byte) : Amend := ⟨1, op, 7, [slot, 0], pay, none⟩

theorem meets_nor : offered (norAsk 0x40 0) .qch01 (norWant 0x40 0 ((norAsk 0x40 0).bytes (norAsk 0x40 0).stagingBase 1)) 1 ∧
    offered (norAsk 0x40 2) .qch01 (norWant 0x40 2 ((norAsk 0x40 2).bytes (norAsk 0x40 2).stagingBase 1)) 1 ∧
    offered (norAsk 0x40 1) .qch01 (norWant 0x40 1 ((norAsk 0x40 1).bytes (norAsk 0x40 1).stagingBase 1)) 1 ∧
    offered (norAsk 0x41 0) .qch01 (norWant 0x41 0 []) 1 ∧ offered (norAsk 0x41 2) .qch01 (norWant 0x41 2 []) 1 ∧
    (norAsk 0x40 0).norAnswers 0 = true ∧ (norAsk 0x40 1).norAnswers 1 = false ∧ 1 ≤ (norAsk 0x40 0).norHalf := by
  refine ⟨offered_of _ _ _ _ 0 [] ?_ ?_ ?_, offered_of _ _ _ _ 0 [] ?_ ?_ ?_, offered_of _ _ _ _ 0 [] ?_ ?_ ?_,
    offered_of _ _ _ _ 0 [] ?_ ?_ ?_, offered_of _ _ _ _ 0 [] ?_ ?_ ?_, ?_, ?_, ?_⟩
  all_goals decide +kernel

/-- An open group of one amendment. -/
def grouped (now : Nat) : State :=
  { run with now := now, requests := { run.requests with open_ := [⟨0, 0, 0, [{ revert with group := some 0 }], none, none⟩] } }

theorem meets_timeouts : (let s := asking run .qch00 [ask 0x22 0] 0
     s.waiting (qchXY 0).data = [⟨ask 0x22 0, 0⟩] ∧ s.now < 0 + 10 * cycPerMs) ∧
    (let s := { asking run .qch00 [ask 0x22 0] 0 with now := 10 * cycPerMs }
     s.waiting (qchXY 0).data = [⟨ask 0x22 0, 0⟩] ∧ 0 + 10 * cycPerMs ≤ s.now ∧ bitOf (ask 0x22 0).toNat 15 = false ∧ s.groupOn 0 = none ∧
       s.requests.replies = [] ∧ ask 0x22 0 % 32 = 0) ∧
    (let s := { asking run .qch00 [ask 0x22 0x8000, 0] 0 with now := 10 * cycPerMs }
     s.waiting (qchXY 0).data = [⟨ask 0x22 0x8000, 0⟩, ⟨0, 0⟩] ∧ bitOf (ask 0x22 0x8000).toNat 15 = true ∧ isStewardOp 0x22 = false ∧
       (ask 0x22 0x8000).toNat % 32 = 0 ∧
       ((s.waiting (qchXY 0).data).takeWhile (fun x => decide (x.at_ ≤ 0 + 10 * cycPerMs))).length < 3) ∧
    ((grouped 0).groupOn 0 = some ⟨0, 0, 0, [{ revert with group := some 0 }], none, none⟩ ∧ (grouped 0).now < 0 + 100 * cycPerMs) ∧
    ((grouped (100 * cycPerMs)).groupOn 0 = some ⟨0, 0, 0, [{ revert with group := some 0 }], none, none⟩ ∧
       0 + 100 * cycPerMs ≤ (grouped (100 * cycPerMs)).now ∧
       ((grouped (100 * cycPerMs)).waiting (qchXY 0).data).head?.any (fun w => decide (w.at_ < 0 + 100 * cycPerMs)) = false) ∧
    (((grouped (100 * cycPerMs)).setWaiting (qchXY 0).data [⟨0, 1⟩]).waiting (qchXY 0).data).head?.any
      (fun w => decide (w.at_ < 0 + 100 * cycPerMs)) = true := by
  decide +kernel

/-- A headland that applies an amendment. -/
def applying (a : Amend) : State := let s := timed phHeadland id; { s with requests := { s.requests with applying := [a] } }
def discard : Amend := ⟨0, 0x23, 7, [], [], none⟩

theorem meets_headland : (let s := { held 31 mSteward with requests := { run.requests with applying := [discard] } }
     s.semHeld 31 = true ∧ s.semOwner 31 = mSteward) ∧
    (let s := applying discard
     ¬(s.semHeld 31 = true ∧ s.semOwner 31 = mSteward) ∧ s.rd PASS_PHASE_PHASE = phHeadland ∧ s.paired = false ∧ s.pass.faulted = false ∧ s.camp.publishing = false ∧ s.fabric.pendNow = [] ∧
       s.requests.applying = [discard] ∧ s.requests.replies = [] ∧ (s.waiting (qchYX 0).data).length ≤ 30 ∧ discard.ch = chNum .qch00) ∧
    (let a : Amend := ⟨0, 0x38, 7, [0, 1], List.replicate 256 0, none⟩
     a.op = 0x38 ∧ 256 * inlW a.inl 1 + a.payload.length ≤ 0x10000) := by
  decide +kernel

/-! States that meet the hypotheses of the statements about surveyors, lanes and campaigns. -/

/-- A field of region 0 with both its problems to come, on lane 0. -/
def field0 : FieldRun :=
  ⟨0, 0, some 0, true, true, false, false, false, false, 0, false, false, false, [], [], [], none, none, false⟩

/-- A campaign with the fields and groups given. -/
def camp (fs : List FieldRun) (gs : List GroupRun) : Campaign :=
  ⟨0, 0, 0, 0, 1, 10, 1, 4, 0, 0, 0, 0, [], [], [], fs, gs, false, false, false⟩

/-- A unit with a campaign in flight, in a phase. -/
def campaigning (c : Campaign) (ph : Nat) : State := let s := timed ph id; { s with camp := { s.camp with inFlight := some c } }

/-- The state with the survey changed. -/
def surveyed (s : State) (f : Survey → Survey) : State := { s with survey := f s.survey }

theorem meets_surveyors : (unlocked 15 run).mayWrite 15 (SV_CTL 0) ∧
    (let s := held 31 (mSurveyor 0)
     s.rd (ACCESS_SEM_STATE 31) ≠ 0 ∧ s.rd (ACCESS_SEM_OWNER 31) = mSurveyor 0) ∧
    ((held 0 0).rd (ACCESS_SEM_STATE 0) ≠ 0 ∧ (held 0 0).rd (ACCESS_SEM_OWNER 0) ≠ mSurveyor 0) ∧
    (surveyed run (fun v => { v with restarting := [(7, 2000)] })).svRestarting 7 = true ∧
    (surveyed run (fun v => { v with snapDue := [7] })).survey.snapDue.contains 7 = true ∧
    (let s := surveyed run (fun v => { v with advances := [⟨0, 0, 0, 10, 1, 0, 900⟩] })
     s.svRestarting 0 = false ∧ s.survey.snapDue.contains 0 = false ∧
       s.survey.advances.find? (fun x => x.region == 0) = some ⟨0, 0, 0, 10, 1, 0, 900⟩ ∧ (s.atlas 0).regionPipes 0 = []) ∧
    (let s := surveyed (campaigning (camp [field0] []) phFreeze) (fun v => { v with snapDue := [0] })
     s.camp.inFlight = some (camp [field0] []) ∧ s.survey.snapDue.contains 0 = true ∧ s.svRestarting 0 = false) ∧
    run.camp.inFlight = none := by
  unfold State.mayWrite State.settled; decide +kernel

theorem meets_launch : (let s := timed phFreeze id
     s.rd PASS_PHASE_PHASE = phFreeze ∧ s.camp.decidedAt ≠ some s.passCount ∧ s.camp.inFlight = none ∧ s.camp.asked = false ∧
       s.launchDue = false) ∧
    (let s := with_ (timed phFreeze id) [(GLOBAL_MODE_MODE, modeRun), (CMN_CFG_EN, 1)]
     s.launchDue = true ∧ s.mayLaunch = true ∧ s.camp.inFlight = none) ∧
    (let t := timed phFreeze id
     let s := { t with camp := { t.camp with asked := true } }
     s.camp.asked = true ∧ s.mayLaunch = false ∧ s.camp.inFlight = none) ∧
    (timed phLogic id).rd PASS_PHASE_PHASE ≠ phFreeze := by
  decide +kernel

/-- Atlas bank 0 with nine junctions of field 0, eight of them joined to the first by pipes in service. -/
def star : State :=
  let s := campaigning (camp [field0] []) phRemainder
  let b := s.atlas 0
  (s.each (List.range 9) (fun t n => t.st (b.addr 0 n) 1 1)).each (List.range 8) (fun t p =>
    t.putBytes (b.addr 1 p) (leBytes 2 0 ++ leBytes 2 (p + 1) ++ leBytes 1 0 ++ leBytes 1 1))

/-- A unit whose surveyor 0 has the estimation problem of field 0 to assemble next. -/
def assembling (s : State) : Bool :=
  s.camp.inFlight == some (camp [field0] []) && !s.survey.snapDue.contains 0 && !s.svRestarting 0 &&
    !s.survey.advances.any (fun a => a.region == 0) && s.rd (SV_ERR_CODE 0) == 0 &&
    ((camp [field0] []).fields.filter (fun y => y.region == 0)).find? (fun y => y.work != 0) == some field0

theorem meets_assembled : (let s := campaigning (camp [field0] []) phRemainder
     assembling s = true ∧ field0.field = 0 ∧ field0.lane = some 0 ∧ field0.work = 1 ∧
       (s.estProblem (camp [field0] []) field0).capacity 1 s = true ∧ (s.atlas 0).paired 0 = true) ∧
    assembling star = true ∧ (star.estProblem (camp [field0] []) field0).capacity 1 star = false := by
  decide +kernel

/-- A solve in progress on lane 0. -/
def solve (d : Option Nat) : LaneRun := ⟨0, [], 1, 0, [], d, 0, 500, ⟨[], [], [], [], [], []⟩, []⟩

/-- A problem of one stage with one variable, and a solve of it whose iterate holds x. -/
def oneVar : List Byte := List.replicate 5 0 ++ [1] ++ List.replicate 0xFA 0 ++ [1] ++ List.replicate 31 0
def solveAt (x : Nat) : LaneRun := { solve none with prob := oneVar, iter := ⟨[[x]], [], [], [], [[0]], [[0]]⟩ }
def solving (st : Nat) (d : Option Nat) : State := { with_ run [(LANE_STAT_STATE 0, st)] with lanes := [solve d] }

theorem meets_lanes : ((1 : Fin 16).val = mSteward ∨ (1 : Fin 16).val = mSurveyor 0) ∧ run.rd (LANE_STAT_STATE 0) = laneIdle ∧
    ¬ ((15 : Fin 16).val = mSteward ∨ (15 : Fin 16).val = mSurveyor 0) ∧ run.deadlineRaised = false ∧
    ((run.slice_ 0).laneCheck).isSome = true ∧ run.rd (LANE_ERR_CODE 0) = 0 ∧
    (campaigning { camp [] [] with raised := true } phRemainder).deadlineRaised = true ∧
    (solving laneRun none).rd (LANE_STAT_STATE 0) = laneRun ∧ (solving laneDeliver none).rd (LANE_STAT_STATE 0) = laneDeliver ∧
    (solving laneOut none).rd (LANE_STAT_STATE 0) = laneOut ∧ (solving laneRun none).laneRun? 0 = some (solve none) ∧
    (updateOf ((solve none).sec run).problem ((solve none).sec run).deltaExp (solve none).iter).2.isSome = true ∧
    (updateOf ((solveAt 0x7FF8000000000000).sec run).problem 40 (solveAt 0x7FF8000000000000).iter).2 = none ∧
    (solve none).decided = none ∧ (solving laneDeliver (some stAborted)).laneRun? 0 = some (solve (some stAborted)) ∧
    (solving laneDeliver (some stAborted)).camp.inFlight = none ∧ writesIterate stFormat 0 = false ∧ run.laneRun? 0 = none := by
  decide +kernel

theorem meets_tests : (run.laneRun? 0 = none ∧ run.rd (LANE_STAT_STATE 0) ≠ laneRun ∧ run.rd (LANE_STAT_STATE 0) ≠ laneDeliver ∧
      run.rd (LANE_STAT_STATE 0) ≠ laneTest) ∧
    (with_ run [(LANE_STAT_STATE 0, laneTest)]).rd (LANE_STAT_STATE 0) = laneTest ∧
    (let s := unlocked 1 run
     s.mayWrite 1 (LANE_CTL 0) ∧ s.domainRuns (LANE_CTL 0) = true ∧ s.rd (LANE_STAT_STATE 0) = laneIdle) ∧
    (let s := unlocked 1 (with_ run [(LANE_STAT_STATE 0, laneOut), (LANE_STAT_OOS 0, 1)])
     s.mayWrite 1 (LANE_CTL 0) ∧ s.rd (LANE_STAT_OOS 0) = 1 ∧ s.rd (LANE_STAT_HELD 0) = 0) ∧
    (let s := unlocked 1 (with_ run [(LANE_STAT_STATE 0, laneRun)])
     s.mayWrite 1 (LANE_CTL 0) ∧ s.rd (LANE_STAT_STATE 0) = laneRun) ∧
    (let s := timed phRemainder id
     s.settled ∧ s.canAccess 1 = true ∧ s.placeCodes 1 (LANE_CTL 0) true = [] ∧ s.pass.timerOn = true ∧ s.paired = false ∧
       s.domainRuns (LANE_CTL 0) = true ∧ (with_ s [(CP_CLK_STAT_STOPPED, 0x1FF)]).domainRuns (LANE_CTL 0) = false) := by
  unfold State.mayWrite State.settled; decide +kernel

theorem meets_testPasses : benchPasses [] = true := by simp [benchPasses, benchRef, benchWrong]

/-- A group of two fields in its first round. -/
def group0 (conv : Bool) (round : Nat) : GroupRun := ⟨[0, 1], 0, round, none, conv, [], 0, 0⟩

theorem meets_publication : (let c := { camp [field0] [group0 false 1] with deadline := 1 }
     let t := campaigning c phHeadland
     let s := { t with lanes := [solve none] }
     s.camp.inFlight = some c ∧ s.rd PASS_PHASE_PHASE = phHeadland ∧ c.launchPass + c.deadline ≤ s.passCount + 1 ∧ c.raised = false ∧
       c.ready = false ∧ s.lanes = [solve none] ∧ (solve none).lane = (0 : Fin 256).val ∧ (solve none).decided = none ∧
       s.groupFor c 0 = some (group0 false 1) ∧ (group0 false 1).converged = false ∧ (group0 false 1).done ≠ some (group0 false 1).round ∧
       c.roundDone (group0 false 1) = true) ∧
    (let s := campaigning (camp [] []) phRemainder
     s.rd PASS_PHASE_PHASE ≠ phHeadland ∧ s.groupFor (camp [] []) 0 = none) ∧
    (let s := campaigning (camp [] [group0 true 4]) phHeadland
     s.groupFor (camp [] [group0 true 4]) 0 = some (group0 true 4) ∧ (group0 true 4).converged = true) ∧
    (let c := { camp [] [] with raised := true }
     let t := campaigning c phHeadland
     let s := { t with camp := { t.camp with publishing := true } }
     s.rd PASS_PHASE_PHASE = phHeadland ∧ c.raised = true ∧ s.lanesQuiet c = true ∧ s.camp.publishing = true ∧ s.paired = false ∧
       s.pass.faulted = false ∧ s.fabric.pendNow = [] ∧ s.requests.applying = [] ∧ s.camp.inFlight = some c) := by
  decide +kernel

/-! The worked example of chapter 7: the slice of field 0, laid out as its table gives it. -/

/-- Binary64 words: 0, 1, −1, 2, 3, 6, 10. -/
def laneSlice : List Byte :=
  let w (n : Nat) : List Byte := leBytes 8 n
  leBytes 4 0x54494C4C ++ [0, 1] ++ List.replicate 34 0 ++ leBytes 4 96 ++ leBytes 4 0x1C0 ++ leBytes 4 40 ++ leBytes 4 0x200 ++
  List.replicate 200 0 ++ [2, 1] ++ List.replicate 6 0 ++ leBytes 4 0x140 ++ leBytes 4 96 ++ leBytes 4 0x1C0 ++ List.replicate 44 0 ++
  w 0 ++ w 0 ++ w 0x4018000000000000 ++ w 0x4008000000000000 ++ w 0x4024000000000000 ++ w 0 ++ w 0x4000000000000000 ++ w 0 ++
  leBytes 4 3 ++ leBytes 4 0 ++ w 0x4000000000000000 ++ w 0x3FF0000000000000 ++ w 0xBFF0000000000000 ++ List.replicate 32 0 ++
  w 0x4008000000000000 ++ w 0x3FF0000000000000 ++ List.replicate 24 0

def laneSec : Sec := ⟨{ run with mem := [] }.putBytes 0 laneSlice, 0, laneSlice.length⟩

theorem test_lane_layout : laneSec.laneCheck = none := by decide +kernel

theorem test_lane_start : (laneSec.startIter laneSec.problem).x = [[0x4008000000000000, 0x3FF0000000000000]] := by
  decide +kernel

/-- The result of the example: X, Y and ZB of its table. -/
def laneResult : LaneIter :=
  ⟨[[0x4000000000000000, 0]], [[0xC02C000000000000]], [[]], [[]], [[0, 0x402C000000000000]], [[0, 0]]⟩

theorem test_lane_result : convergedAt laneSec.problem laneResult (f64 (tenTo 14)) (f64 (tenTo 14)) = true ∧
    objective laneSec.problem laneResult.x = 0x4038000000000000 ∧
    resultWords laneSec.problem (bigH laneSec.problem) (bigG laneSec.problem) laneResult 0 =
      [0x4000000000000000, 0, 0xC02C000000000000, 0, 0xC02C000000000000].flatMap (leBytes 8) := by
  decide +kernel


/-! States that meet the hypotheses of the statements about loop engines and field exchange. -/

/-- Engine 31 changed: in a state, with RUN and HOLD_LAW, and an upper end of its range. -/
def looping (st hi : Nat) (hold : Nat) (f : LoopEngine → LoopEngine) : State :=
  (with_ run [(LOOP_STAT_STATE 31, st), (LOOP_CTL_RUN 31, if st = 1 then 1 else 0), (LOOP_CTL_HOLD_LAW 31, hold),
    (LOOP_PV_MAX_VALUE 31, hi), (LOOP_SAMPLE_DIV 31, 1)]).setEngine 31 (f loopEngine0)

theorem meets_engines : (let s := looping leStopped 0x3F800000 0 id
     s.settled ∧ s.canAccess 1 = true ∧ s.placeCodes 1 (LOOP_CTL 31) true = [] ∧ s.pvOk 31 = true ∧ s.rd (LOOP_CTL_RUN 31) = 0 ∧ s.rd (LOOP_CTL_HOLD_LAW 31) = 0) ∧
    (let s := looping leRunning 0x3F800000 1 (fun e => { e with held := some [], heldCount := 16 })
     s.settled ∧ s.canAccess 1 = true ∧ s.placeCodes 1 (LOOP_CTL 31) true = [] ∧ s.pvOk 31 = true ∧ s.rd (LOOP_CTL_RUN 31) = 1 ∧ s.rd (LOOP_CTL_HOLD_LAW 31) = 1 ∧
       (s.engine 31).held.isSome = true ∧ 16 ≤ (s.engine 31).heldCount) ∧
    (let s := looping leStopped 0 0 (fun e => { e with held := some [], heldCount := 15 })
     s.pvOk 31 = false ∧ s.placeCodes 1 (LOOP_CTL 31) true = [] ∧ (s.engine 31).heldCount < 16) ∧
    (run.engine 31).held = none := by
  unfold State.settled; decide +kernel

/-- The grid of the loop engines at a next tick. -/
def grid (s : State) (t : Option Nat) : State := { s with loops := { s.loops with nextTick := t } }

theorem meets_loopTick : (grid run none).loops.nextTick = none ∧ (run.now < 1001 ∧ (grid run (some 1001)).loops.nextTick = some 1001) ∧
    (let s := grid (looping leRunning 0x3F800000 0 id) (some 1000)
     s.loops.nextTick = some 1000 ∧ 1000 ≤ s.now ∧ s.fabric.pendA = [] ∧ s.loops.engines.length = 32 ∧ s.leState 31 = leRunning ∧
       s.loops.ticks % s.rd (LOOP_SAMPLE_DIV 31) = s.rd (LOOP_SAMPLE_PHASE 31) ∧ (s.engine 31).due = none) ∧
    (let s := grid (looping leRunning 0x3F800000 0 (fun e => { e with due := some 0 })) (some 1000)
     s.leState 31 = leRunning ∧ (s.engine 31).due.isSome = true ∧ s.rd (LOOP_STAT_CONSEC 31) < 7) ∧
    (let s := with_ (grid (looping leRunning 0x3F800000 0 (fun e => { e with due := some 0 })) (some 1000)) [(LOOP_STAT_CONSEC 31, 7)]
     s.loops.ticks % s.rd (LOOP_SAMPLE_DIV 31) = s.rd (LOOP_SAMPLE_PHASE 31) ∧ (s.engine 31).due.isSome = true ∧
       s.rd (LOOP_STAT_CONSEC 31) = 7) := by
  decide +kernel

/-- A sample of engine 31 that is due with n ADC samples there. -/
def sampling (n fault : Nat) : State :=
  let t := with_ (looping leRunning 0x3F800000 0 (fun e => { e with due := some 0, first := false })) [(MT_ADC_STAT_FAULT 0, fault)]
  { t with meter := { t.meter with samples := n } }

theorem meets_sample : ((sampling 0 0).feedbackPresent 31 0 = false ∧ ((sampling 0 0).engine 31).due = some 0 ∧
      (sampling 0 0).leState 31 = leRunning) ∧
    ((sampling 1 1).feedbackPresent 31 0 = true ∧ (sampling 1 1).sourceOk 0 0 = false ∧ (sampling 1 1).rd (LOOP_STAT_CONSEC 31) < 7) ∧
    (let s := sampling 1 0
     s.feedbackPresent 31 0 = true ∧ s.sourceOk (s.rd (LOOP_SRC_PV_KIND 31)) (s.rd (LOOP_SRC_PV_REF 31)) = true ∧
       (s.engine 31).held = none ∧ (s.engine 31).first = false ∧ s.rd (LOOP_CTL_MANUAL 31) = 0 ∧ s.rd (LOOP_OUT_LIM_POS 31) = 0) ∧
    (run.engine 31).due = none ∧ run.loops.xspAt = none ∧
    (let s := { run with now := 299999, loops := { run.loops with xspAt := some 0, pwmNextAt := 300000 } }
     s.loops.xspAt = some 0 ∧ s.now < 0 + 300000 ∧ s.now < s.loops.pwmNextAt) ∧
    (let s := { run with now := 300000, loops := { run.loops with xspAt := some 0, pwmNextAt := 300000 } }
     s.loops.xspAt = some 0 ∧ 0 + 300000 ≤ s.now ∧ s.loops.pwmNextAt ≤ s.now) := by
  decide +kernel

/-- Port 3 with EN and LINK, and changed. -/
def port (en link : Nat) (f : FieldPort → FieldPort) : State :=
  (with_ run [(FP_CTL_EN 3, en), (FP_STAT_LINK 3, link), (FX_CFG_WR_AGE_M, 1)]).setFport 3 (f fieldPort0)

theorem meets_ports : ((unlocked 15 (port 0 0 id)).settled ∧ (unlocked 15 (port 0 0 id)).canAccess 15 = true ∧ (unlocked 15 (port 0 0 id)).placeCodes 15 (FP_CTL 3) true = [] ∧
      checkField (unlocked 15 (port 0 0 id)) (FP_CTL 0) 3 = [] ∧ (unlocked 15 (port 0 0 id)).domainRuns (FP_CTL 3) = true ∧
      (unlocked 15 (port 0 0 id)).rd (FP_CTL_EN 3) = 0) ∧
    ((unlocked 15 (port 1 1 id)).settled ∧ (unlocked 15 (port 1 1 id)).canAccess 15 = true ∧ (unlocked 15 (port 1 1 id)).placeCodes 15 (FP_CTL 3) true = [] ∧
      checkField (unlocked 15 (port 1 1 id)) (FP_CTL 0) 3 = [] ∧ (unlocked 15 (port 1 1 id)).domainRuns (FP_CTL 3) = true ∧
      (unlocked 15 (port 1 1 id)).rd (FP_CTL_EN 3) = 1 ∧ (unlocked 15 (port 1 1 id)).rd (FP_STAT_LINK 3) = 1) ∧
    ((port 1 0 id).rd (FP_STAT_LINK 3) = 0 ∧ (port 1 0 id).rd (FP_CTL_EN 3) = 1) ∧
    (let s := { port 1 0 id with now := 2 * cycPerS }
     s.rd (FP_CTL_EN 3) = 1 ∧ s.rd (FP_STAT_LINK 3) = 0 ∧ (s.fport 3).enabledAt + 2 * cycPerS ≤ s.now ∧
       (⟨1, bField, 0, 3⟩ : ActiveFault) ∉ s.active) ∧
    (let s := { port 1 0 id with now := 2 * cycPerS - 1 }
     ¬ (s.fport 3).enabledAt + 2 * cycPerS ≤ s.now) := by
  unfold State.settled; decide +kernel

/-- A frame with its padding and check sequence, as it arrives. -/
def wire (bs : List Byte) : List Byte :=
  let full := bs ++ List.replicate (60 - bs.length) 0
  full ++ fcsOf full

/-- A frame from and to the MAC address 0, as it stands in a queue; one with an IPv6 packet from and to the address 0. -/
def ether (type : Nat) (body : List Byte) : List Byte := List.replicate 12 0 ++ beBytes 2 type ++ body
def ipFrame (proto : Byte) (body : List Byte) : RxFrame :=
  ⟨ether 0x86DD (beBytes 4 0x60000000 ++ beBytes 2 body.length ++ [proto, 255] ++ List.replicate 32 0 ++ body), 0⟩
def icmp (kind : Nat) : RxFrame := ipFrame 58 (run.summed 0 0 58 2 (beBytes 1 kind ++ List.replicate 23 0))
def udp (port_ : Nat) (data : List Byte) : RxFrame :=
  ipFrame 17 (run.summed 0 0 17 6 (beBytes 4 port_ ++ beBytes 2 (8 + data.length) ++ [0, 0] ++ data))

def queued (f : RxFrame) (g : FieldPort → FieldPort) : State := port 1 1 (fun p => { g p with queue := [f] })

/-- Which of what R295 tells apart a frame carries. -/
def carriedKind : Carried → Nat
  | .other => 0
  | .neighbor _ => 1
  | .mld _ => 2
  | .echo _ => 3
  | .ptp _ => 4
  | .udp _ => 5

theorem meets_frames : ((port 0 0 id).rd (FP_CTL_EN 3) = 0 ∧ ((port 0 0 id).fport 3).queue = []) ∧
    (¬ ((port 1 1 id).rd (FP_CTL_EN 3) = 0 ∨ (port 1 1 id).rd (FP_STAT_LINK 3) = 0)) ∧
    isPause (wire (beBytes 6 pauseMac ++ List.replicate 6 0 ++ beBytes 2 pauseType ++ [0, 1])) = true ∧
    (let bs := wire (icmp 128).bytes
     isPause bs = false ∧ frameSound bs = true ∧ (port 1 1 id).macAdmitted 3 (frameDest bs) = true ∧
       ((port 1 1 id).fport 3).level + frameRoom ⟨bs.take (bs.length - 4), 0⟩ ≤ 0x200000) ∧
    (isPause [] = false ∧ frameSound [] = false) ∧
    ((queued ⟨[], 0⟩ id).fport 3).queue = [⟨[], 0⟩] ∧
    ([⟨[], 0⟩, icmp 135, icmp 130, icmp 128, udp 319 [], udp 4810 []].map (fun f => carriedKind ((port 1 1 id).carried 3 f.bytes)) =
      [0, 1, 2, 3, 4, 5]) ∧
    ((((queued (icmp 128) id).fport 3).echoes.filter (fun t => decide (run.now < t + cycPerS))).length < 10) ∧
    (10 ≤ (((queued (icmp 128) (fun p => { p with echoes := List.replicate 10 900 })).fport 3).echoes.filter
      (fun t => decide (run.now < t + cycPerS))).length) := by
  decide +kernel

theorem meets_fullQueue (f : RxFrame) (bs : List Byte) (h : bs.length = 0x200000) :
    0x200000 < ((queued ⟨bs, 0⟩ id).fport 3).level + frameRoom f := by
  have e : ((queued ⟨bs, 0⟩ id).fport 3).queue = [⟨bs, 0⟩] := rfl
  unfold FieldPort.level
  rw [e]
  simp only [List.map_cons, List.map_nil, sumN, List.foldl_cons, List.foldl_nil, frameRoom, h]
  omega

theorem meets_fullQueueBytes : (List.replicate 0x200000 (0 : Byte)).length = 0x200000 := List.length_replicate

/-- A PTP message of a type, alone in the queue of a port with a role and a delay mechanism, its parent the source 0. -/
def timeMsg (type : Byte) : List Byte := [type, 2, 0, 64] ++ List.replicate 60 0
def timing (type : Byte) (role peer at_ run_ : Nat) : State :=
  with_ (queued ⟨ether 0x88F7 (timeMsg type), at_⟩ (fun p => { p with lockRun := run_, ptp := { ptpPort0 with parent := some 0 } }))
    [(FP_CTL_PTP_L2 3, 1), (FP_CTL_PTP_ROLE 3, role), (FP_CTL_PTP_P2P 3, peer)]

theorem meets_times : (∀ x ∈ [(0, 1, 0), (1, 2, 0), (2, 1, 1), (0, 2, 0)], (fun (type, role, peer) =>
      let s := timing type role peer 0 7
      s.carried 3 (ether 0x88F7 (timeMsg type)) = .ptp (timeMsg type) ∧ s.ptpSound 3 (timeMsg type) = true ∧
        pmType (timeMsg type) = type.toNat ∧ s.rd (FP_CTL_PTP_ROLE 3) = role ∧ s.rd (FP_CTL_PTP_P2P 3) = peer) x) ∧
    (timing 0xF 1 0 0 0).ptpSound 3 (timeMsg 0xF) = false ∧ run.rd (FP_CTL_PTP_ROLE 3) = 0 ∧
    pmSource (timeMsg 0) = 0 ∧ pmTwoStep (timeMsg 0) = false ∧ ((timing 0 1 0 0 7).fport 3).ptp.parent = some 0 ∧
    (port 1 1 id).ptp 3 = ptpPort0 ∧ ptpPort0.parent ≠ some 0 ∧
    (let o (at_ : Nat) : Int := (stampNs at_ : Int) - stampOf (timeMsg 0) 34 - pmCorrection (timeMsg 0) - ((timing 0 1 0 0 7).ptp 3).delay
     (o 0).natAbs ≤ 1000 ∧ 1000 < (o 2400).natAbs) ∧
    ((timing 0 1 0 0 7).fport 3).lockRun = 7 ∧ { run with field := { run.field with ppsAt := some 0 } }.ppsValid = true := by
  decide +kernel

/-- The key of station 0x77 at generation 0 under a root key of no bytes, and telegrams from it with counter 5 and a plaintext of
zeros, sealed under it. -/
def stationKey77 : List Byte := beBytes 32 21145391522060403639679013242616142741684455677154611586566659997805615488355
def helloData : List Byte := beBytes 80
  1394992111016304464299181626291762402049647365408300713858760650426476103691959269681667884433176310996851875038241056521969453198017655532459056933277557843183441125970862260376597985061035505
def reportData : List Byte := beBytes 176
  2165750494267977153475047077427658178872662157483262742032023299438143527685786325740737978306361214715086930546453227204202552489175508755846835818332257383727926554336455263989095179243290085169452209020104875199661544429627618239786626796685469462801209338793045540372508069529301073443576537366571841634128652330626894696715856134221993520985611147115727065939300024659848418195939918332081758145370736418642372017094196

theorem stationKey77_eq (s : State) (h : s.keys = run.keys) : s.stationKey 0x77 0 = stationKey77 := by
  unfold State.stationKey
  rw [h]
  decide +kernel

theorem telegramOf_77 (s : State) (h : s.keys = run.keys) (d : List Byte) (type : Nat) (plain : List Byte)
    (hd : beU d 3 1 = type ∧ beU d 4 8 = 0x77 ∧ beU d 12 1 = 0 ∧ beU d 16 8 = 5)
    (ho : gcmOpen stationKey77 (telegramIv 1 5) (d.take 32) (d.drop 32) = some plain) :
    s.telegramOf d = ⟨type, 0x77, 0, 5, some plain⟩ := by
  obtain ⟨h1, h2, h3, h4⟩ := hd
  unfold State.telegramOf
  simp only [h1, h2, h3, h4, stationKey77_eq s h, ho]

theorem telegramOf_hello (s : State) (h : s.keys = run.keys) :
    s.telegramOf helloData = ⟨tgHello, 0x77, 0, 5, some (List.replicate 32 0)⟩ :=
  telegramOf_77 s h _ _ _ (by decide +kernel) (by decide +kernel)

theorem telegramOf_report (s : State) (h : s.keys = run.keys) :
    s.telegramOf reportData = ⟨tgReport, 0x77, 0, 5, some (List.replicate 128 0)⟩ :=
  telegramOf_77 s h _ _ _ (by decide +kernel) (by decide +kernel)

/-- The packet of a datagram, from and to the address 0. -/
def telegramPacket (data : List Byte) : Packet :=
  ⟨0, 0, 17, 255, run.summed 0 0 17 6 (beBytes 4 4810 ++ beBytes 2 (8 + data.length) ++ [0, 0] ++ data)⟩

/-- The root key is valid, and the telegram is alone in the queue; entry 16383 is its station, in a session state. -/
def arrived (data : List Byte) : State := with_ (queued (udp 4810 data) id) [(KS_SLOT_STATE 1, 2)]
def station (data : List Byte) (se : Nat) : State :=
  (((arrived data).st (gazAddr 16383) 8 0x77).st (gazAddr 16383 + 0x1E) 1 3).st (gazAddr 16383 + 0x22) 1 se

/-- A telegram whose header is right passes for what its station makes of it. -/
theorem checkTelegram_77 (s : State) (data : List Byte) (x : Telegram)
    (hp : (telegramPacket data).udpPort = 4810 ∧ (telegramPacket data).udpOk = true ∧
      headerOk (telegramPacket data).udpData (telegramPacket data).udpLen = true ∧ (telegramPacket data).udpData = data)
    (ht : s.telegramOf data = x) : s.checkTelegram 3 (telegramPacket data) = s.checkStation 3 0 x := by
  obtain ⟨h1, h2, h3, h4⟩ := hp
  unfold State.checkTelegram
  rw [h1, h2, h3, h4, ht]
  rfl

theorem meets_telegrams : (∀ d ∈ [helloData, reportData], (arrived d).carried 3 (udp 4810 d).bytes = .udp (telegramPacket d) ∧
      ((arrived d).fport 3).queue = [udp 4810 d] ∧ (telegramPacket d).udpData = d) ∧
    (let s := station helloData 0
     s.ownField = true ∧ s.saving = false ∧ s.presence 16383 ≠ prDisabled ∧ s.maySend = true ∧ s.rd (FP_CTL_EN 3) = 1 ∧
       s.field.waiting = [] ∧ s.reservation < max (s.gz 16383 0x28 8) 0 + 1 ∧
       max (s.gz 16383 0x28 8) 0 + 1 ≤ (with_ s [(CP_CTR_RESERVE_LO_RESERVE, 1), (CP_CTR_RESERVE_HI_VALID, 1)]).reservation ∧
       (with_ s [(PAIR_CFG_PAIRED, 1)]).ownField = true ∧ (with_ s [(PAIR_CFG_PAIRED, 1)]).maySend = false) ∧
    (station reportData seWelcomed).gz 16383 0x22 1 = seWelcomed ∧ (station reportData seClosed).gz 16383 0x22 1 ≠ seWelcomed ∧
    (station reportData seClosed).gz 16383 0x22 1 ≠ seOpen ∧ (arrived helloData).rootValid = true ∧ run.rootValid = false ∧
    (arrived helloData).wrStation 0 = 0 ∧ (∀ j < 256, (arrived helloData).wrStation j ≠ 0x77) := by
  decide +kernel

theorem meets_passes : (station helloData 0).checkTelegram 3 (telegramPacket helloData) = .known 16383 ∧
    (∀ se ∈ [seWelcomed, seClosed], (station reportData se).checkTelegram 3 (telegramPacket reportData) = .known 16383) ∧
    (arrived helloData).checkTelegram 3 (telegramPacket helloData) = .unknown := by
  refine ⟨?_, fun se hs => ?_, ?_⟩
  · rw [checkTelegram_77 _ _ _ (by decide +kernel) (telegramOf_hello (station helloData 0) rfl)]; decide +kernel
  · rw [checkTelegram_77 _ _ _ (by decide +kernel) (telegramOf_report (station reportData se) rfl)]; revert se; decide +kernel
  · rw [checkTelegram_77 _ _ _ (by decide +kernel) (telegramOf_hello (arrived helloData) rfl)]; decide +kernel

theorem meets_waitingRoom : (let s := { (port 1 1 id).st (wrAddr 255) 8 0x77 with cal := 61 * cycPerS }
     s.wrStation 255 ≠ 0 ∧ s.ld (wrAddr 255 + 0x28) 8 + s.rd FX_CFG_WR_AGE_M * minuteUnits < s.time) ∧
    (let s := (port 1 1 id).st (wrAddr 255) 8 0x77
     s.time ≤ s.ld (wrAddr 255 + 0x28) 8 + s.rd FX_CFG_WR_AGE_M * minuteUnits) := by
  decide +kernel

/-! States that meet the hypotheses of the statements about plant buses and metering. -/

/-- Bus channel 7 in a state, with a bit timing that is right, changed. -/
def busCh (st : Nat) (l : List (Fld × Nat)) (q : List CanReq) : State :=
  (with_ run ([(CB_STAT_STATE 7, st), (CB_CTL_EN 7, if st = 0 then 0 else 1), (CB_NBT_NBRP 7, 10), (CB_NBT_NTSEG1 7, 5),
    (CB_NBT_NTSEG2 7, 2), (CB_NBT_NSJW 7, 1), (CB_DBT_DTSEG2 7, 10)] ++ l)).setCanCh 7 { canChannel0 with queue := q }

/-- The state at a time, with the tick after the pass in progress at another. -/
def ticking (now next_ : Nat) (s : State) : State := { s with now := now, pass := { s.pass with nextTick := next_ } }

/-- A CAN frame of one byte, and a request of object 0. -/
def canFrame (id : Nat) : CanFrame := ⟨false, id, false, false, false, false, 1, [1]⟩
def canReq : CanReq := ⟨0, 1, [1]⟩

theorem meets_bus : (let s := busCh cbStopped [] []
     s.cbState 7 = cbStopped ∧ s.rd (CB_CTL_EN 7) = 0 ∧ s.cbTimingOk 7 = true) ∧
    (let s := busCh cbStopped [(CB_NBT_NSJW 7, 3)] []
     s.rd (CB_CTL_EN 7) = 0 ∧ s.cbTimingOk 7 = false) ∧
    ((busCh cbIntegrating [] []).cbState 7 = cbIntegrating ∧ (busCh cbIntegrating [] []).rd (CB_CTL_EN 7) = 1 ∧
      (busCh cbIntegrating [] []).cbMonitors 7 = false ∧ (busCh cbIntegrating [(CB_CTL_MON 7, 1)] []).cbMonitors 7 = true) ∧
    (busCh cbBusOff [] []).cbState 7 = cbBusOff ∧
    (let s := busCh cbAsleep [] []
     s.cbState 7 = cbAsleep ∧ s.rd (CB_CTL_WAKE_MODE 7) = 0) ∧
    (let s := busCh cbAsleep [(CB_CTL_WAKE_MODE 7, 1), (CB_WAKE_ID_ID 7, 5)] []
     s.rd (CB_CTL_WAKE_MODE 7) = 1 ∧ s.wakeMatch 7 (canFrame 4) = false ∧ s.wakeMatch 7 (canFrame 5) = true ∧
       s.rxObject 7 false 5 = none ∧ (canFrame 5).fdf = false ∧ ({ canFrame 5 with fdf := true } : CanFrame).fdf = true ∧
       s.rd (CB_CTL_FD_EN 7) = 0) ∧
    ((ticking 23999 0 run).now < (ticking 23999 0 run).windowEnd 7 ∧ (ticking 24000 0 run).windowEnd 7 ≤ (ticking 24000 0 run).now ∧
      (ticking 24000 0 run).windowShort 7 = true ∧ (ticking 0 10000000 run).windowShort 7 = false) ∧
    (let s := busCh cbAsleep [(CB_CTL_WAKE_MODE 7, 1), (CB_WAKE_ID_ID 7, 5), (OBJ_CFG_DIR 7 255, 1), (OBJ_CFG_ID 7 255, 5)] []
     s.wakeMatch 7 (canFrame 5) = true ∧ s.rxObject 7 false 5 = some 255 ∧ s.busCopied = false) ∧
    (with_ run [(PAIR_CFG_PAIRED, 1), (PAIR_STAT_STATE, prStandby)]).busCopied = true := by
  decide +kernel

theorem meets_frames7 : (let s := busCh cbActive [(OBJ_CFG_DIR 7 255, 1), (OBJ_CFG_ID 7 255, 5), (OBJ_STAT_UNREAD 7 255, 1), (CB_STAT_REC 7, 127)] []
     s.cbState 7 = cbActive ∧ s.busCopied = false ∧ (canFrame 5).fdf = false ∧ (canFrame 5).remote = false ∧ s.rxObject 7 false 5 = some 255 ∧
       s.rd (OBJ_STAT_UNREAD 7 255) = 1 ∧ s.rd (CB_STAT_REC 7) ≤ 127 ∧ s.rxObject 7 false 6 = none ∧ (s.canCh 7).queue = []) ∧
    (let s := busCh cbPassive [(CB_STAT_REC 7, 128), (CB_CTL_PEX_EN 7, 1)] []
     s.cbState 7 = cbPassive ∧ 127 < s.rd (CB_STAT_REC 7) ∧ s.rd (CB_CTL_PEX_EN 7) = 1) ∧
    ((busCh cbMonitoring [] []).cbState 7 = cbMonitoring ∧ (busCh cbMonitoring [(CB_CTL_PEX_EN 7, 0)] []).rd (CB_CTL_PEX_EN 7) = 0) ∧
    (let s := busCh cbIntegrating [] []
     ¬ (s.cbState 7 = cbActive ∨ s.cbState 7 = cbPassive ∨ s.cbState 7 = cbMonitoring)) ∧
    ((busCh cbActive [(CB_STAT_TEC 7, 247)] []).rd (CB_STAT_TEC 7) < 248 ∧ 248 ≤ (busCh cbActive [(CB_STAT_TEC 7, 248)] []).rd (CB_STAT_TEC 7) ∧
      cbActive ≠ cbMonitoring ∧ CanErr.bit ≠ .exception ∧ (busCh cbActive [] []).ending 7 = none) ∧
    (let s := ticking 0 10000000 (busCh cbActive [(CB_STAT_TEC 7, 247), (CB_CTL_MON 7, 1)] [canReq])
     s.ending 7 = some (canReq, []) ∧ s.cbMonitors 7 = true ∧ s.rd (CB_CTL_SLEEP_REQ 7) = 0) ∧
    (let s := ticking 0 10000000 (busCh cbActive [(CB_STAT_TEC 7, 247)] [canReq])
     s.ending 7 = some (canReq, []) ∧ s.cbMonitors 7 = false ∧ s.cbState 7 = cbActive ∧ s.rd (CB_CTL_SLEEP_REQ 7) = 0 ∧ (∀ x ∈ canReq :: [], x.object < 256) ∧
       s.rd (CB_STAT_TEC 7) < 248) ∧
    (let s := (busCh cbPassive [(CB_STAT_TEC 7, 248)] []).setCanCh 7 ⟨some canReq, [], 15, false⟩
     s.ending 7 = some (canReq, []) ∧ s.cbMonitors 7 = false ∧ s.rd (CB_CTL_SLEEP_REQ 7) = 0 ∧ s.cbState 7 = cbPassive ∧ (s.canCh 7).noAcks = 15 ∧ 248 ≤ s.rd (CB_STAT_TEC 7)) := by
  decide +kernel

/-- Metering with channel 31 enabled or not, and its samples since its last overload. -/
def metering (en since : Nat) (l : List (Fld × Nat)) : State :=
  let s := with_ run ((MT_ADC_CFG_EN 31, en) :: l)
  { s with meter := { s.meter with
    running := true, adc := s.meter.adc.set 31 { s.adcCh 31 with sinceLow := since } } }
def adcIn (low : Bool) : List AdcSample := List.replicate 32 ⟨0, 0, low, false⟩

/-- Metering that has one sample to complete. -/
def closing : State := let s := metering 0 0 []; { s with meter := { s.meter with closing := true } }

theorem meets_samples : (metering 0 0 [(MT_STAT_FROZEN, 1)]).rd MT_STAT_FROZEN = 1 ∧ run.meter.running = false ∧
    (closing.meter.running = true ∧ closing.rd MT_STAT_FROZEN = 0 ∧ closing.meter.closing = true) ∧
    (let s := metering 0 0 [(MT_ADC_CFG_HG_EN 0, 1), (MT_ADC_CFG_HG_LIMIT 0, 1), (MT_ADC_CFG_EN 0, 1)]
     (adcIn false)[0]? = some ⟨0, 0, false, false⟩ ∧ s.rd (MT_ADC_CFG_EN 0) = 1 ∧ s.rd (MT_ADC_CFG_HG_EN 0) = 1 ∧
       3 ≤ (s.adcCh 0).sinceHigh ∧ 3 ≤ (s.adcCh 0).sinceLow ∧
       rabs (r64 0 * (s.adcCal 0).highGain + (s.adcCal 0).highOfs) ≤ mkRat (s.rd (MT_ADC_CFG_HG_LIMIT 0)) 256 * highScale) ∧
    (let s := metering 0 3 []
     s.rd MT_STAT_FROZEN = 0 ∧ s.meter.running = true ∧ s.meter.closing = false ∧ s.fabric.armed = [] ∧ s.meter.outageFrom = none ∧ s.meter.adc.length = 32 ∧
       (adcIn false)[31]? = some ⟨0, 0, false, false⟩ ∧ s.rd (MT_ADC_CFG_EN 31) = 0) ∧
    (let s := metering 1 2 []
     s.rd (MT_ADC_CFG_EN 31) = 1 ∧ (s.adcCh 31).sinceLow < 3 ∧ (adcIn true)[31]? = some ⟨0, 0, true, false⟩) ∧
    (let s := metering 1 3 [(MT_HM_SRC_EN 15, 1)]
     3 ≤ (s.adcCh 31).sinceLow ∧ s.rd (MT_ADC_CFG_HG_EN 31) = 0 ∧ s.rd (MT_HM_SRC_EN 15) = 1 ∧ s.rd (MT_HM_SRC_FLOW_KIND 15) = 0) := by
  decide +kernel

theorem meets_conversions : run.meter.rtd.length = 16 ∧ run.rd (MT_RTD_CFG_TYPE 15) = 0 ∧
    (with_ run [(MT_RTD_CFG_TYPE 15, 1)]).rd (MT_RTD_CFG_TYPE 15) ≠ 0 ∧
    (fpDecode fmt64 0x7FF0000000000000 = .inf false) ∧ ¬ (fpDecode fmt64 0 = .inf false ∨ 4 < r64 0 / rtdR0 1) ∧
    r64 0 / rtdR0 1 < mkRat 4 10 ∧
    ¬ (fpDecode fmt64 0x4059000000000000 = .inf false ∨ 4 < r64 0x4059000000000000 / rtdR0 1) ∧
    mkRat 4 10 ≤ r64 0x4059000000000000 / rtdR0 1 := by
  decide +kernel

/-- Pulse input 31, which has read high since the time 0 and counted as low. -/
def pulsing (now : Nat) (l : List (Fld × Nat)) : State :=
  let s := { with_ run l with now := now }
  { s with meter := { s.meter with pulse := s.meter.pulse.set 31 { s.pulseIn 31 with raw := true, since := 0, level := false } } }

theorem meets_edges : (let s := pulsing 4799 []
     ¬ ((s.pulseIn 31).raw ≠ (s.pulseIn 31).level ∧ (s.pulseIn 31).since + s.stableCycles 31 ≤ s.now)) ∧
    (let s := pulsing 4800 []
     (s.pulseIn 31).raw ≠ (s.pulseIn 31).level ∧ (s.pulseIn 31).since + s.stableCycles 31 ≤ s.now ∧ s.rd (MT_PLS_CFG_EN 31) ≠ 1) ∧
    (let s := pulsing 4800 [(MT_PLS_CFG_EN 31, 1)]
     s.rd MT_STAT_FROZEN = 0 ∧ s.rd (MT_PLS_CFG_EN 31) = 1 ∧ (s.pulseIn 31).raw = (s.rd (MT_PLS_CFG_EDGE 31) == 0) ∧
       (s.pulseIn 31).since + s.stableCycles 31 ≤ s.now ∧ (s.pulseIn 31).raw ≠ (s.pulseIn 31).level ∧
       (∀ k < 16, s.rd (MT_HM_SRC_EN k) = 0 ∨ s.rd (MT_HM_SRC_FLOW_KIND k) = 0 ∨ s.rd (MT_HM_SRC_FLOW_CH k) ≠ 31)) := by
  decide +kernel

/-- A calibration step of channel 31 in a phase that began at the time 0. -/
def calibrating (phase now : Nat) (l : List (Fld × Nat)) : State :=
  let s := { with_ run ([(MT_STAT_CAL_CH, 31)] ++ l) with now := now }
  { s with meter := { s.meter with running := true, calPhase := phase } }

/-- Readings of ±0.75 of full scale that are right, of both modulators; one of nothing. -/
def lowReading : CalReading := ⟨0, 0x3FE8000000000000, 0xBFE8000000000000⟩
def highReading : CalReading := ⟨0, 0x3FA8000000000000, 0xBFA8000000000000⟩
def noReading : CalReading := ⟨0, 0, 0⟩

theorem meets_calibration : (let s := calibrating 0 cycPerS [(MT_ADC_CFG_EN 31, 1), (MT_CTL_CAL_EN, 1), (MT_CTL_CAL_S, 1)]
     s.rd MT_CTL_CAL_EN = 1 ∧ s.rd MT_STAT_CAL_BUSY = 0 ∧ s.rd MT_STAT_FROZEN = 0 ∧ s.meter.running = true ∧
       s.meter.calAt + s.rd MT_CTL_CAL_S * cycPerS ≤ s.now ∧ s.calNext s.meter.calLast = some 31) ∧
    (let s := calibrating 0 (cycPerS - 1) [(MT_CTL_CAL_EN, 1), (MT_CTL_CAL_S, 1)]
     ¬ (s.meter.calAt + s.rd MT_CTL_CAL_S * cycPerS ≤ s.now)) ∧
    (let s := calibrating 1 (2 * cycPerS) []
     s.meter.calFrom + 2 * cycPerS ≤ s.now ∧ s.meter.calPhase = 1 ∧ s.rd MT_STAT_CAL_CH = 31) ∧
    (let s := calibrating 4 (2 * cycPerS) []
     s.meter.calPhase = 4 ∧ calBad 31 (s.adcCh 31).cal (calOf lowReading highReading) = false ∧
       calBad 31 (s.adcCh 31).cal (calOf noReading highReading) = true) ∧
    (let s := calibrating 1 (2 * cycPerS - 1) []
     s.now < s.meter.calFrom + 2 * cycPerS) ∧
    (let s := calibrating 2 cycPerS []
     s.meter.calFrom + cycPerS ≤ s.now ∧ s.meter.calPhase = 2 ∧ s.rd MT_STAT_CAL_CH < 32) ∧
    (calibrating 5 cycPerS []).meter.calPhase = 5 ∧ rabs (r64 0) ≤ mkRat 5 100000 ∧ mkRat 5 100000 < rabs (r64 0x3FE8000000000000) ∧
    (let s := calibrating 2 (cycPerS - 1) []
     s.now < s.meter.calFrom + cycPerS) := by
  decide +kernel

/-! States that meet the hypotheses of the statements about the pair. -/

/-- A unit of a pair in a state, with the link up or not, changed. -/
def pairing (st link : Nat) (l : List (Fld × Nat)) (f : Pair → Pair) : State :=
  let s := with_ run ([(PAIR_CFG_PAIRED, 1), (PAIR_STAT_STATE, st), (PAIR_STAT_LINK_UP, link)] ++ l)
  { s with pair := f s.pair }

/-- A partner's HELLO that has nothing in common with the unit's, of a role. -/
def partner (role : Bool) : PairHello := ⟨role, 0, 0, 0, 0, 0, false⟩

/-- The set of pass 8, empty, with n frames. -/
def emptySet (n : Nat) (broken : Bool) : PairSet := ⟨8, [], [], none, none, n, broken, 0, 0, 0, []⟩

theorem meets_pairLink : run.onLink = false ∧ run.receives = false ∧
    (let s := { pairing prActive 1 [(PAIR_CFG_COMPARE_EN, 1)] (fun p => { p with
        aliveAt := 0, failedRun := 2, sent := some (8, [], 0), own := [(8, 5)] }) with now := 100 * cycPerUs }
     s.onLink = true ∧ s.prState = prActive ∧ s.pair.aliveAt + 100 * cycPerUs ≤ s.now ∧ s.pair.failedRun = 2 ∧
       s.pair.sent = some (8, [], 0) ∧ s.pair.joining = false ∧ s.pair.own.lookup 9 = none ∧ s.pair.own.lookup 8 = some 5 ∧
       s.pair.ownCamp = none ∧ s.rd PAIR_CFG_COMPARE_EN = 1 ∧ s.journalFull = false) ∧
    (let s := { pairing prActive 1 [] id with now := 100 * cycPerUs - 1 }
     ¬ s.pair.aliveAt + 100 * cycPerUs ≤ s.now ∧ (3 : BitVec 2) = 3 ∧ s.pair.failedRun ≠ 2) ∧
    ((pairing prJoining 1 [] id).onLink = true ∧ (pairing prJoining 1 [] id).prState = prJoining ∧
      (pairing prJoining 1 [] id).receives = true) ∧
    (let s := pairing prStandby 1 [] (fun p => { p with staged := some (emptySet 0 false), committed := some (7, 0) })
     s.onLink = true ∧ s.prState = prStandby ∧ s.rd PASS_PHASE_PHASE = phRemainder ∧ s.pair.staged = some (emptySet 0 false) ∧
       s.pair.committed.any (fun c => (c.1 + 1) % 2 ^ 32 == (emptySet 0 false).pass) = true) ∧
    (let s := pairing prStandby 1 [] id
     s.onLink = true ∧ s.prState = prStandby ∧ s.pair.staged = none ∧ s.receives = true) ∧
    (let s := pairing prStandby 0 [] (fun p => { p with hello := some (partner true) })
     s.paired = true ∧ s.linkUp = false ∧ s.pair.hello ≠ none) ∧
    (let s := pairing prStandby 0 [] id
     s.paired = true ∧ s.pair.hello = none ∧ b2n (partner false).role = s.rd GLOBAL_MODE_ROLE) ∧
    (run.paired = false ∧ run.pair.hello = none) := by
  decide +kernel

theorem meets_pairAlign : (∀ b : Bool, (let s := pairing prStandby 1 [] (fun p => { p with setEnded := b, failedRun := 2 })
     s.onLink = true ∧ s.prState = prStandby ∧ s.pair.staged = none ∧ s.pair.setEnded = b)) ∧
    (let s := pairing prStandby 1 [] (fun p => { p with staged := some (emptySet 0 false) })
     s.rd PASS_PHASE_PHASE = phRemainder ∧ (emptySet 0 false).blocks = [] ∧ (emptySet 0 false).writes = [] ∧
       s.pair.committed.any (fun c => (c.1 + 1) % 2 ^ 32 == (emptySet 0 false).pass) = false) ∧
    (let s := pairing prActive 1 [] (fun p => { p with
        sent := some (8, [], 0), joining := true, own := [(8, 5)], ownCamp := some (8, 6, false) })
     s.onLink = true ∧ s.prState = prActive ∧ s.pair.sent = some (8, [], 0) ∧ s.pair.joining = true ∧ s.pair.own.lookup 8 = some 5 ∧
       s.pair.ownCamp = some (8, 6, false)) := by
  decide +kernel

theorem meets_pairEnd : (∀ st ∈ [prStandby, prJoining],
      (let s := pairing st 1 [] (fun p => { p with recv := some (emptySet 3 false) })
       s.receives = true ∧ s.prState = st ∧ (s.recvOf 8).frames = 3 ∧ (s.recvOf 8).broken = false ∧ (s.recvOf 8).blocks = [] ∧
         (s.recvOf 8).writes = [])) ∧
    (let s := pairing prStandby 1 [] (fun p => { p with recv := some (emptySet 3 true), failedRun := 2 })
     s.receives = true ∧ (s.recvOf 8).frames ≠ 4 ∧ (s.recvOf 8).broken = true ∧ s.pair.failedRun = 2) := by
  decide +kernel

theorem meets_triangulation : (let s := pairing prActive 1 [(PAIR_STAT_TRI_BUSY, 1)] (fun p => { p with theirs := some 0 })
     s.rd PAIR_STAT_TRI_BUSY = 1 ∧ s.prState = prActive ∧ s.pair.theirs = some 0 ∧
       (b2n (!false) + 2 * b2n (!([0] : List (Fin 4)).isEmpty) + 4 * 0) ≠ 0) ∧
    (let s := pairing prStandby 1 [(PAIR_STAT_TRI_BUSY, 1)] (fun p => { p with theirs := some 1 })
     s.prState = prStandby ∧ s.pair.theirs = some 1 ∧ s.pair.eccBad = false ∧ s.pair.eccCorr ≤ s.rd PAIR_CFG_TRI_ECC_MAX) ∧
    (with_ run [(PAIR_STAT_TRI_BUSY, 1)]).pair.theirs = none := by
  decide +kernel

theorem meets_verdicts : run.rd PAIR_STAT_TRI_BUSY = 0 ∧ (with_ run [(PAIR_STAT_TRI_BUSY, 1)]).rd PAIR_STAT_TRI_BUSY = 1 ∧
    (let s := pairing prActive 1 [] (fun p => { p with verdict := some 1 })
     s.onLink = true ∧ s.pair.verdict = some 1 ∧ s.prState = prActive ∧ (1 : Nat) ≠ 0 ∧ (0 : BitVec 3) = 0) ∧
    (let s := pairing prStandby 1 [(PAIR_STAT_CONSEC, 2)] (fun p => { p with verdict := some 0 })
     s.onLink = true ∧ s.pair.verdict = some 0 ∧ s.prState = prStandby ∧ (7 : BitVec 3) ≠ 0 ∧ 2 ≤ s.rd PAIR_STAT_CONSEC) ∧
    (pairing prStandby 1 [] id).pair.verdict = none := by
  decide +kernel

theorem meets_takeover : (with_ run [(PAIR_STAT_AUTH_IN, 1)]).rd PAIR_STAT_AUTH_IN = 1 ∧ run.rd PAIR_STAT_AUTH_IN = 0 ∧ run.paired = false ∧
    (let s := pairing prStandby 1 [(PAIR_STAT_AUTH_IN, 1), (PAIR_STAT_READY, 1)] id
     s.rd PAIR_STAT_AUTH_IN = 1 ∧ s.paired = true ∧ s.prState = prStandby ∧ s.linkUp = true ∧ s.rd PAIR_STAT_READY = 1 ∧
       s.sameRole = false ∧ s.pair.staged = none ∧ s.pair.shadow = none ∧ Memory.wf s.mem = true ∧ s.pair.committed = none) ∧
    (let s := pairing prStandby 1 [(PAIR_STAT_AUTH_IN, 1)] id
     s.rd PAIR_STAT_AUTH_IN = 1 ∧ s.linkUp = true ∧ ¬ (s.rd PAIR_STAT_READY = 1 ∨ s.pair.handover = true) ∧ s.pair.waitEnd = none) ∧
    (let s := pairing prStandby 0 [] (fun p => { p with waitEnd := some 1000 })
     s.rd PAIR_STAT_AUTH_IN = 0 ∧ s.paired = true ∧ s.prState = prStandby ∧ s.pair.waitEnd = some 1000 ∧ 1000 ≤ s.now ∧
       s.sameRole = false ∧ s.prState ≠ prActive ∧ s.pair.staged = none ∧ s.pair.shadow = none ∧ Memory.wf s.mem = true) ∧
    (let s := pairing prStandby 0 [] (fun p => { p with waitEnd := some 1001 })
     s.pair.waitEnd = some 1001 ∧ s.now < 1001) ∧
    (let s := pairing prActive 0 [] (fun p => { p with freezeDue := true })
     s.pair.freezeDue = true ∧ s.rd PASS_PHASE_PHASE = phRemainder) ∧
    run.pair.freezeDue = false ∧ run.pair.waitEnd = none := by
  decide +kernel

theorem meets_pairCommands : (let s := unlocked 15 (pairing prActive 1 [] (fun p => { p with hello := some { partner true with state := prStandby, ready := true } }))
     s.mayWrite 15 PAIR_CMD ∧ s.healthyStandby = true ∧ s.prState ≠ prFallow ∧ s.prState ≠ prWaiting ∧ s.paired = true ∧ s.prState = prActive) ∧
    (let s := unlocked 15 (pairing prFallow 1 [(PAIR_STAT_AUTH_IN, 1)] id)
     s.mayWrite 15 PAIR_CMD ∧ s.healthyStandby = false ∧ s.prState = prFallow ∧ s.rd PAIR_STAT_AUTH_IN = 1 ∧ s.linkUp = true ∧
       s.pair.hello = none) ∧
    (let s := unlocked 15 (pairing prWaiting 0 [] id)
     s.mayWrite 15 PAIR_CMD ∧ s.prState = prWaiting ∧ s.rd PAIR_STAT_AUTH_IN = 0 ∧ s.pair.staged = none ∧ s.pair.shadow = none ∧
       Memory.wf s.mem = true ∧ s.paired = true ∧ s.prState ≠ prActive ∧ s.linkUp = false) ∧
    (let s := unlocked 15 run
     s.mayWrite 15 PAIR_CMD ∧ s.paired = false) := by
  unfold State.mayWrite State.settled; decide +kernel

/-- A fallow unit with AUTH_IN high that a partner has greeted. -/
def greeted (f : PairHello → PairHello) : State :=
  let s := unlocked 15 (pairing prFallow 1 [(PAIR_STAT_AUTH_IN, 1)] id)
  { s with pair := { s.pair with hello := some (f s.hello) } }

theorem meets_join : (greeted id).prState = prFallow ∧ (greeted id).linkUp = true ∧ (greeted id).pair.hello = some (greeted id).hello ∧
    (greeted id).rd PAIR_STAT_AUTH_IN = 1 := by
  exact ⟨by decide +kernel, by decide +kernel, rfl, by decide +kernel⟩

theorem meets_agrees : (greeted (fun h => { h with role := !h.role })).agrees
      { (greeted (fun h => { h with role := !h.role })).hello with role := !(greeted (fun h => { h with role := !h.role })).hello.role } = true ∧
    (greeted id).agrees (greeted id).hello = false := by
  constructor <;> simp [State.agrees]

/-- A journal with no room left. -/
theorem meets_journal (w : PairWrite) :
    (pairing prActive 1 [] (fun p => { p with journal := List.replicate 16384 w })).journalFull = true := by
  show (decide (16384 ≤ (List.replicate 16384 w).length) || _) = true
  rw [List.length_replicate]; rfl

/-! States that meet the hypotheses of the statements about the key store and debug. -/

/-- The registers KS_IN that spell bytes. -/
def inWords (bs : List Byte) : List (Nat × Word) :=
  (List.range' 0 ((bs.length + 3) / 4)).map (fun k => (KS_IN k, BitVec.ofNat 32 (ofLeBytes ((bs.drop (4 * k)).take 4))))

theorem get_inWords (f : Nat → Word) (m : List (Nat × Word)) (n a k : Nat) (h : a ≤ k) (hk : k < a + n) :
    smapGet regReset ((List.range' a n).map (fun k => (KS_IN k, f k)) ++ m) (KS_IN k) = f k := by
  induction n generalizing a with
  | zero => omega
  | succ n ih =>
    rw [List.range'_succ, List.map_cons, List.cons_append, smapGet]
    by_cases e : a = k
    · subst e; simp
    · have : KS_IN a ≠ KS_IN k := by unfold KS_IN; omega
      rw [if_neg this]; exact ih (a + 1) (by omega) (by omega)

theorem le_of_le (bs : List Byte) : leBytes bs.length (ofLeBytes bs) = bs := by
  induction bs with
  | nil => rfl
  | cons b bs ih =>
    have h1 : BitVec.ofNat 8 (b.toNat + 256 * ofLeBytes bs) = b := by
      apply BitVec.eq_of_toNat_eq; rw [BitVec.toNat_ofNat]; have := b.isLt; omega
    have h2 : (b.toNat + 256 * ofLeBytes bs) / 256 = ofLeBytes bs := by have := b.isLt; omega
    simp only [List.length_cons, leBytes, ofLeBytes, h1, h2, ih]

theorem le_take (bs : List Byte) (n : Nat) : (leBytes (bs.length + n) (ofLeBytes bs)).take bs.length = bs := by
  have h : ∀ (k n v : Nat), (leBytes (k + n) v).take k = leBytes k v := by
    intro k n
    induction k with
    | zero => intro v; simp [leBytes]
    | succ k ih => intro v; rw [Nat.succ_add]; simp [leBytes, ih]
  rw [h, le_of_le]

/-- Bytes split into words of four are those bytes again. -/
theorem words_bytes (n : Nat) (bs : List Byte) (h : n = (bs.length + 3) / 4) :
    ((List.range n).flatMap (fun k => leBytes 4 (ofLeBytes ((bs.drop (4 * k)).take 4)))).take bs.length = bs := by
  induction n generalizing bs with
  | zero => have : bs.length = 0 := by omega
            simp [List.length_eq_zero_iff.mp this]
  | succ n ih =>
    rw [List.range_succ_eq_map, List.flatMap_cons, List.flatMap_map]
    by_cases h4 : bs.length ≤ 4
    · have hn : n = 0 := by omega
      subst hn
      have ht : bs.take 4 = bs := List.take_of_length_le h4
      have := le_take bs (4 - bs.length)
      rw [show bs.length + (4 - bs.length) = 4 by omega] at this
      simp [ht, this]
    · have hl : (bs.take 4).length = 4 := by rw [List.length_take]; omega
      have e : leBytes 4 (ofLeBytes ((bs.drop (4 * 0)).take 4)) = bs.take 4 := by
        have := le_of_le (bs.take 4); rw [hl] at this; simpa using this
      have ih' := ih (bs.drop 4) (by rw [List.length_drop]; omega)
      rw [e, List.take_append, hl]
      have ht : (bs.take 4).take bs.length = bs.take 4 := List.take_of_length_le (by rw [hl]; omega)
      rw [ht]
      conv => rhs; rw [← List.take_append_drop 4 bs]
      congr 1
      rw [List.length_drop] at ih'
      have ef : (fun a => leBytes 4 (ofLeBytes ((bs.drop (4 * a.succ)).take 4))) =
          fun k => leBytes 4 (ofLeBytes (((bs.drop 4).drop (4 * k)).take 4)) := by
        funext k
        rw [List.drop_drop, show 4 + 4 * k = 4 * k.succ by omega]
      rw [ef]; exact ih'

/-- A unit whose key store has been changed, with a command of PF1 at the head of SQCH_00 and its input in KS_IN. -/
def commanding (f : KeyStore → KeyStore) (op : Nat) (inp : List Byte) : State :=
  { run with
    keys := f run.keys
    queues := [((sqchXY 0).data, [⟨BitVec.ofNat 32 (op * 2 ^ 24 + 7 * 2 ^ 16), 0⟩, ⟨BitVec.ofNat 32 inp.length, 0⟩])]
    regs := inWords inp ++ run.regs }

theorem asks (f : KeyStore → KeyStore) (op : Nat) (inp : List Byte) (ho : op < 256) (hi : inp.length ≤ 1024) :
    ksAsks (commanding f op inp) op 7 inp := by
  refine ⟨⟨ho, by decide, by decide, rfl, Nat.zero_le _, [], ?_⟩, hi, ?_⟩
  · have h1 : (op * 2 ^ 24 + 7 * 2 ^ 16) % 2 ^ 32 = op * 2 ^ 24 + 7 * 2 ^ 16 + 0 := by omega
    have h2 : inp.length % 2 ^ 32 = inp.length := Nat.mod_eq_of_lt (by omega)
    show [(BitVec.ofNat 32 (op * 2 ^ 24 + 7 * 2 ^ 16)).toNat, (BitVec.ofNat 32 inp.length).toNat] = _
    rw [BitVec.toNat_ofNat, BitVec.toNat_ofNat, h1, h2]
  · have hk : ∀ k, k < (inp.length + 3) / 4 → (commanding f op inp).reg (KS_IN k) = BitVec.ofNat 32 (ofLeBytes ((inp.drop (4 * k)).take 4)) := by
      intro k h
      exact get_inWords (fun k => BitVec.ofNat 32 (ofLeBytes ((inp.drop (4 * k)).take 4))) run.regs _ 0 k (by omega) (by omega)
    have hb : ∀ k, k < (inp.length + 3) / 4 →
        leBytes 4 ((commanding f op inp).reg (KS_IN k)).toNat = leBytes 4 (ofLeBytes ((inp.drop (4 * k)).take 4)) := by
      intro k h
      rw [hk k h, BitVec.toNat_ofNat, Nat.mod_eq_of_lt]
      have h1 := ofLeBytes_lt ((inp.drop (4 * k)).take 4)
      have h2 : ((inp.drop (4 * k)).take 4).length ≤ 4 := by rw [List.length_take]; omega
      calc _ < 256 ^ ((inp.drop (4 * k)).take 4).length := h1
        _ ≤ 256 ^ 4 := Nat.pow_le_pow_right (by decide) h2
        _ = 2 ^ 32 := by decide
    unfold State.ksInput
    rw [show (List.range ((inp.length + 3) / 4)).flatMap (fun k => leBytes 4 ((commanding f op inp).reg (KS_IN k)).toNat) =
        (List.range ((inp.length + 3) / 4)).flatMap (fun k => leBytes 4 (ofLeBytes ((inp.drop (4 * k)).take 4))) from ?_]
    · exact words_bytes _ inp rfl
    · rw [List.flatMap_def, List.flatMap_def]; congr 1
      apply List.map_congr_left; intro k h; exact hb k (List.mem_range.mp h)

/-- A key of a type, and a slot for it. -/
def keyed (type : Nat) (derived : Bool) (value : Option (List Byte)) : KeySlot := ⟨true, type, derived, 0xFF, 3, false, [], value, false, []⟩

/-- The key store in a life-cycle state with slot 63 as given. -/
def store (lc : Nat) (k : KeySlot) (f : KeyStore → KeyStore) : KeyStore → KeyStore :=
  fun s => f { s with lc := lc, slots := s.slots.set 63 k }

def key32 : List Byte := List.replicate 32 7

theorem meets_ksForm : run.keys.slots.length = 64 ∧ (1, Instr.ksWrite) ∈ [(1, Instr.ksWrite), (3, .ksDestroy)] ∧
    (run.requestWords (sqchXY 0)).length < 2 ∧ ksPosted (commanding id 3 []) 3 7 0 0 ∧ ksPosted (commanding id 10 []) 10 7 0 0 ∧
    (let s : State := { run with queues := [((sqchXY 0).data, [⟨0x01070001, 0⟩, ⟨1025, 0⟩])] }
     ksPosted s 1 7 1 1025) := by
  refine ⟨by decide, by decide, by decide +kernel, (asks id 3 [] (by decide) (by decide)).1, (asks id 10 [] (by decide) (by decide)).1, ?_⟩
  exact ⟨by decide, by decide, by decide, rfl, by decide +kernel, [], by decide +kernel⟩

/-- KS_WRITE of a key of 32 bytes to slot 63. -/
def writeIn : List Byte := [63, 1, 0, 0] ++ key32

theorem meets_ksWrite (f : KeyStore → KeyStore) : ksAsks (commanding f 1 writeIn) 1 7 ([BitVec.ofNat 8 63, BitVec.ofNat 8 1, 0, 0] ++ key32) ∧
    key32.length = keyLen 1 := ⟨asks f 1 writeIn (by decide) (by decide), by decide⟩

theorem meets_ksWrites : (commanding (store 1 noSlot (fun k => { k with signedOnly := true })) 1 writeIn).noClear = true ∧
    (let s := commanding (store 1 noSlot id) 1 writeIn
     s.noClear = false ∧ s.stateOf 63 = 0) ∧
    (let s := commanding (store 1 (keyed 1 true none) id) 1 writeIn
     s.noClear = false ∧ s.stateOf 63 ≠ 0 ∧ (s.slot 63).derived = true) ∧
    (let s := commanding (store 1 (keyed 1 false none) id) 1 writeIn
     s.noClear = false ∧ s.stateOf 63 ≠ 0 ∧ (s.slot 63).derived = false ∧ (s.slot 63).type = 1 ∧ (s.slot 63).bound = false) := by
  decide +kernel

theorem meets_ksSlots (f : KeyStore → KeyStore) (op n : Nat) (h : op < 256) :
    ksAsks (commanding f op [BitVec.ofNat 8 n]) op 7 [BitVec.ofNat 8 n] := asks f op _ h (by simp)

theorem meets_ksSlot : (commanding id 3 [5]).stateOf 5 = 0 ∧ (commanding (store 1 (keyed 1 false none) id) 3 [63]).stateOf 63 ≠ 0 := by
  decide +kernel

/-- A unit with entry 16383 used, with KEY_GEN 0. -/
def withStation (s : State) : State := { s with mem := s.mem ++ [(gazAddr 16383, 0x77)] }

theorem meets_ksStation (f : KeyStore → KeyStore) (a gen : Byte) :
    ksAsks (withStation (commanding f 5 ([a, gen] ++ leBytes 2 16383))) 5 7 ([a, gen] ++ leBytes 2 16383) :=
  asks f 5 _ (by decide) (by simp [leBytes_length])

theorem meets_ksStations : (withStation (commanding id 5 ([0, 0] ++ leBytes 2 16383))).gzUsed 16383 = true ∧
    (commanding id 5 ([0, 0] ++ leBytes 2 16383)).gzUsed 16383 = false ∧
    (withStation (commanding id 5 ([1, 0] ++ leBytes 2 16383))).gz 16383 0x23 1 = 0 ∧
    (withStation (commanding id 5 ([1, 1] ++ leBytes 2 16383))).noClear = false ∧
    (withStation (commanding id 5 ([1, 1] ++ leBytes 2 16383))).gz 16383 0x23 1 ≠ 1 ∧
    (commanding (fun k => { k with signedOnly := true }) 5 ([1, 1] ++ leBytes 2 16383)).noClear = true := by
  decide +kernel

/-- USE of slot 63: a KMAC, and the opening of 28 bytes. -/
def macIn : List Byte := [63, 2, 0, 0]
def openIn : List Byte := [63, 1] ++ leBytes 2 0 ++ List.replicate 28 0

theorem meets_ksUse (f : KeyStore → KeyStore) : ksAsks (commanding f 6 macIn) 6 7 ([BitVec.ofNat 8 63, 2, 0, 0] ++ []) ∧
    ksAsks (commanding f 6 openIn) 6 7 ([BitVec.ofNat 8 63, 1] ++ leBytes 2 0 ++ List.replicate 28 0) :=
  ⟨asks f 6 macIn (by decide) (by decide), asks f 6 openIn (by decide) (by decide)⟩

theorem meets_ksUses : (commanding (store 1 noSlot id) 6 macIn).stateOf 63 = 0 ∧
    (let s := commanding (store 1 { keyed 1 false (some key32) with use := 0 } id) 6 macIn
     s.stateOf 63 ≠ 0 ∧ bitOf (s.slot 63).use 1 = false) ∧
    (let s := commanding (store 1 (keyed 1 false none) id) 6 macIn
     s.stateOf 63 ≠ 0 ∧ s.stateOf 63 ≠ 2 ∧ bitOf (s.slot 63).use 1 = true) ∧
    (let s := commanding (store 1 (keyed 1 false (some key32)) id) 6 openIn
     s.stateOf 63 = 2 ∧ bitOf (s.slot 63).use 1 = true ∧ bitOf (s.slot 63).use 0 = true ∧ 28 + 0 ≤ (List.replicate 28 (0 : Byte)).length) := by
  decide +kernel

theorem meets_ksAttest (f : KeyStore → KeyStore) : ksAsks (commanding f 7 []) 7 7 [] ∧ ksAsks (commanding f 8 key32) 8 7 key32 ∧
    ksAsks (commanding f 8 [1]) 8 7 [1] :=
  ⟨asks f 7 [] (by decide) (by decide), asks f 8 key32 (by decide) (by decide), asks f 8 [1] (by decide) (by decide)⟩

theorem meets_ksAttests : (commanding (store 1 noSlot id) 8 key32).stateOf 0 = 2 ∧ (commanding (store 3 noSlot id) 8 key32).stateOf 0 ≠ 2 := by
  decide +kernel

theorem meets_ksLife (f : KeyStore → KeyStore) (owner : List Byte) (h : owner.length = 57) :
    ksAsks (commanding f 9 (1 :: owner)) 9 7 (1 :: owner) ∧ ksAsks (commanding f 9 [2]) 9 7 [2] ∧ ksAsks (commanding f 9 [3]) 9 7 [3] :=
  ⟨asks f 9 _ (by decide) (by simp [h]), asks f 9 [2] (by decide) (by decide), asks f 9 [3] (by decide) (by decide)⟩

theorem meets_ksLives : (commanding (store 0 noSlot id) 9 [2]).keys.lc = 0 ∧ (commanding (store 1 noSlot id) 9 [2]).keys.lc ≠ 0 ∧
    (commanding (store 0 noSlot id) 9 [3]).keys.area.target = none := by
  decide +kernel

/-- The digest of the identity as bytes one by one. -/
def idDigest : List Byte := (List.range 32).map (fun i => (shake256 identityPublic 32).getD i 0)

theorem absorb_length (n : Nat) (a : List DWord) (m : List Byte) (h : a.length = 25) : (absorb n a m).length = 25 := by
  induction n generalizing a m with
  | zero => exact h
  | succ n ih => exact ih _ _ rfl

theorem sponge_length (suffix : Byte) (m : List Byte) : (sponge suffix m 32).length = 32 := by
  have hs : ∀ l : List DWord, (l.flatMap (fun l => leBytes 8 l.toNat)).length = 8 * l.length := by
    intro l; induction l with
    | nil => rfl
    | cons x xs ih => rw [List.flatMap_cons, List.length_append, leBytes_length, ih, List.length_cons]; omega
  unfold sponge
  rw [show (32 + shakeRate - 1) / shakeRate = 1 from rfl]
  simp only [squeezeBlocks, List.append_nil, List.length_take, hs, absorb_length _ (List.replicate 25 0) _ (by simp)]
  rfl

theorem idDigest_eq : idDigest = shake256 identityPublic 32 := by
  have hl : (shake256 identityPublic 32).length = 32 := sponge_length _ _
  apply List.ext_getElem
  · simp [idDigest, hl]
  · intro i h1 h2
    simp [idDigest, List.getD_eq_getElem?_getD, List.getElem?_eq_getElem h2]

/-- An update message up to its wrapped key: an action for a slot, with a counter and the operands. -/
def updHead (action slot type ctr arg : Nat) : List Byte :=
  leBytes 4 0x5055534B ++ leBytes 1 action ++ leBytes 1 slot ++ leBytes 1 type ++ leBytes 1 0 ++ leBytes 8 ctr ++ idDigest ++ leBytes 8 arg ++
    List.replicate 56 0

/-- The key that wraps for the ephemeral key 0, and what it makes of a key of 0 of a length, byte by byte. -/
def wrapKey : List Byte :=
  kmac256 (x448 transportPrivate (List.replicate 56 0)) (List.replicate 56 0 ++ transportPublic) 32 "KEIVIX-WRAP"
def sealedKey (head : List Byte) (n : Nat) : List Byte := gcmSeal wrapKey ((head.drop 8).take 8 ++ List.replicate 4 0) head (List.replicate n 0)
def wrappedKey (head : List Byte) (n : Nat) : List Byte := (List.range (n + 16)).map (fun i => (sealedKey head n).getD i 0)

/-- The message whole, with what it wraps and its tag, and the signature that the neutral key verifies. -/
def updMsg (head wrapped tag : List Byte) : List Byte := head ++ wrapped ++ List.replicate (64 - wrapped.length) 0 ++ tag ++ neutralSig ++
  List.replicate 6 0

/-- A message that wraps nothing. -/
def updIn (action slot type ctr arg : Nat) : List Byte := updMsg (updHead action slot type ctr arg) [] (List.replicate 16 0)

/-- A message that wraps a key of n zeros, with its tag, or with another. -/
def updTagged (f : List Byte → List Byte) (action slot type n : Nat) : List Byte :=
  let head := updHead action slot type 1 0
  updMsg head ((wrappedKey head n).take n) (f ((wrappedKey head n).drop n))
def updWrap : Nat → Nat → Nat → Nat → List Byte := updTagged id
def updForged : Nat → Nat → Nat → Nat → List Byte := updTagged (List.map (fun b => b + 1))

theorem updHead_length (action slot type ctr arg : Nat) : (updHead action slot type ctr arg).length = 0x70 := by
  simp [updHead, idDigest, leBytes_length]

theorem updMsg_length (head w tag : List Byte) (hh : head.length = 0x70) (hw : w.length ≤ 64) (ht : tag.length = 16) :
    (updMsg head w tag).length = 312 := by
  simp only [updMsg, List.length_append, List.length_replicate, hh, ht, show neutralSig.length = 114 from rfl]
  omega

theorem updIn_length (action slot type ctr arg : Nat) : (updIn action slot type ctr arg).length = 312 :=
  updMsg_length _ _ _ (updHead_length _ _ _ _ _) (by simp) (by simp)

theorem wrappedKey_eq (head : List Byte) (n : Nat) : wrappedKey head n = sealedKey head n := by
  have hk : (nums wrapKey).length = 32 := by rw [nums, List.length_map]; exact sponge_length _ _
  have hl := lastKey_spec _ hk (nums_bytes _)
  have h : (sealedKey head n).length = n + 16 := by
    simp only [sealedKey, gcmSeal, bytesOfNums, List.length_map, List.length_append]
    rw [gcmStream_length _ _ _ hl.1, (gcmTag_spec _ _ _ _ hl.1 hl.2).1]
    simp [nums]
  apply List.ext_getElem
  · simp [wrappedKey, h]
  · intro i h1 h2
    simp [wrappedKey, List.getD_eq_getElem?_getD, List.getElem?_eq_getElem h2]

theorem wrappedKey_length (head : List Byte) (n : Nat) : (wrappedKey head n).length = n + 16 := by simp [wrappedKey]

/-- Where the parts of a message stand. -/
theorem updMsg_parts (head w tag : List Byte) (hh : head.length = 0x70) (hw : w.length ≤ 64) (ht : tag.length = 16) :
    (updMsg head w tag).take 0x70 = head ∧ ((updMsg head w tag).drop 0x70).take w.length = w ∧
      ((updMsg head w tag).drop 0xB0).take 16 = tag ∧ ((updMsg head w tag).drop 0xC0).take 114 = neutralSig ∧
      ((updMsg head w tag).drop 0x10).take 32 = (head.drop 0x10).take 32 ∧ ((updMsg head w tag).drop 8).take 8 = (head.drop 8).take 8 ∧
      ((updMsg head w tag).drop 0x38).take 56 = (head.drop 0x38).take 56 := by
  have e : updMsg head w tag = head ++ (w ++ (List.replicate (64 - w.length) 0 ++ (tag ++ (neutralSig ++ List.replicate 6 0)))) := by
    simp [updMsg, List.append_assoc]
  have eb : (updMsg head w tag).drop 0xB0 = tag ++ (neutralSig ++ List.replicate 6 0) := by
    rw [e, show (0xB0 : Nat) = head.length + (w.length + (64 - w.length)) by omega, ← List.drop_drop, List.drop_left,
      ← List.drop_drop, List.drop_left, List.drop_left' (by simp)]
  refine ⟨?_, ?_, ?_, ?_, ?_, ?_, ?_⟩
  · rw [e, ← hh, List.take_left]
  · rw [e, ← hh, List.drop_left, List.take_left]
  · rw [eb, ← ht, List.take_left]
  · rw [show (0xC0 : Nat) = 0xB0 + tag.length by omega, ← List.drop_drop, eb, List.drop_left]
    exact List.take_left' rfl
  · rw [e, List.drop_append_of_le_length (by omega), List.take_append_of_le_length (by rw [List.length_drop]; omega)]
  · rw [e, List.drop_append_of_le_length (by omega), List.take_append_of_le_length (by rw [List.length_drop]; omega)]
  · rw [e, List.drop_append_of_le_length (by omega), List.take_append_of_le_length (by rw [List.length_drop]; omega)]

/-- What a message unwraps to is what its ciphertext and tag open to. -/
theorem updTagged_opens (f : List Byte → List Byte) (hf : ∀ l, (f l).length = l.length) (action slot type n : Nat) (hn : n ≤ 64)
    (hk : updKeyLen (updTagged f action slot type n) = n)
    (hz : ((updHead action slot type 1 0).drop 0x38).take 56 = List.replicate 56 0) :
    let head := updHead action slot type 1 0
    updUnwrap (updTagged f action slot type n) = gcmOpen wrapKey ((head.drop 8).take 8 ++ List.replicate 4 0) head
      ((sealedKey head n).take n ++ f ((sealedKey head n).drop n)) ∧
    (updTagged f action slot type n).length = 312 ∧ ((sealedKey head n).drop n).length = 16 := by
  intro head
  have hl := wrappedKey_length head n
  have h1 : ((wrappedKey head n).take n).length = n := by rw [List.length_take, hl]; omega
  have h2 : ((wrappedKey head n).drop n).length = 16 := by rw [List.length_drop, hl]; omega
  obtain ⟨p1, p2, p3, -, -, p4, p5⟩ := updMsg_parts head _ (f ((wrappedKey head n).drop n)) (updHead_length _ _ _ _ _)
    (by rw [h1]; exact hn) (by rw [hf, h2])
  refine ⟨?_, updMsg_length _ _ _ (updHead_length _ _ _ _ _) (by rw [h1]; exact hn) (by rw [hf, h2]), by rw [← wrappedKey_eq, h2]⟩
  rw [h1] at p2
  unfold updUnwrap
  rw [hk]
  unfold updTagged
  simp only [p1, p2, p3, p4, p5, head, hz]
  rw [wrappedKey_eq]
  rfl

theorem updWrap_unwraps (action slot type n : Nat) (hn : n ≤ 64) (hk : updKeyLen (updWrap action slot type n) = n)
    (hz : ((updHead action slot type 1 0).drop 0x38).take 56 = List.replicate 56 0) :
    updUnwrap (updWrap action slot type n) = some (List.replicate n 0) := by
  rw [updWrap, (updTagged_opens id (fun _ => rfl) action slot type n hn hk hz).1, id, List.take_append_drop]
  exact gcmOpen_gcmSeal _ _ _ _ (sponge_length _ _)

theorem updForged_fails (action slot type n : Nat) (hn : n ≤ 64) (hk : updKeyLen (updForged action slot type n) = n)
    (hz : ((updHead action slot type 1 0).drop 0x38).take 56 = List.replicate 56 0) : updUnwrap (updForged action slot type n) = none := by
  obtain ⟨h, -, ht⟩ := updTagged_opens (List.map (fun b => b + 1)) (fun _ => List.length_map _) action slot type n hn hk hz
  rw [updForged, h]
  refine gcmOpen_forged _ _ _ _ ((sealedKey (updHead action slot type 1 0) n).drop n) _ ht (by rw [List.length_map, ht]) ?_ ?_
  · intro e
    have h0 := congrArg (fun l : List Byte => l[0]?) e
    rw [List.getElem?_map, List.getElem?_eq_getElem (by omega)] at h0
    simp at h0
  · have := gcmOpen_gcmSeal wrapKey (((updHead action slot type 1 0).drop 8).take 8 ++ List.replicate 4 0) (updHead action slot type 1 0)
      (List.replicate n 0) (sponge_length _ _)
    rw [List.take_append_drop, sealedKey, this]
    rfl

theorem updWrap_keys : updUnwrap (updWrap 1 63 1 32) = some (List.replicate 32 0) ∧
    updUnwrap (updWrap 6 0 0 57) = some (List.replicate 57 0) ∧ updUnwrap (updForged 1 63 1 32) = none ∧
    updUnwrap (updForged 6 0 0 57) = none :=
  ⟨updWrap_unwraps 1 63 1 32 (by decide) (by decide +kernel) (by decide +kernel),
    updWrap_unwraps 6 0 0 57 (by decide) (by decide +kernel) (by decide +kernel),
    updForged_fails 1 63 1 32 (by decide) (by decide +kernel) (by decide +kernel),
    updForged_fails 6 0 0 57 (by decide) (by decide +kernel) (by decide +kernel)⟩

/-- The messages of the tests: each action, action 4 in both senses, and messages that forge a tag, or repeat a counter. -/
def updMsgs : List (List Byte) :=
  [updWrap 1 63 1 32, updWrap 6 0 0 57, updForged 1 63 1 32, updForged 6 0 0 57, updIn 2 63 0 1 0, updIn 3 63 0 1 0, updIn 4 0 0 1 16383,
    updIn 4 0 0 1 (16383 + 2 ^ 32 * 257), updIn 5 0 0 1 1, updIn 7 0 0 1 0, updIn 8 0 0 1 0, updIn 7 0 0 0 0]

/-- Every one is 312 bytes long, names the unit, and carries the neutral signature. -/
theorem updMsgs_spec (m : List Byte) (h : m ∈ updMsgs) : m.length = 312 ∧ (m.drop 0x10).take 32 = shake256 identityPublic 32 ∧
    (m.drop 0xC0).take 114 = neutralSig := by
  have gen : ∀ action slot type ctr arg w tag, w.length ≤ 64 → tag.length = 16 →
      (updMsg (updHead action slot type ctr arg) w tag).length = 312 ∧
      ((updMsg (updHead action slot type ctr arg) w tag).drop 0x10).take 32 = shake256 identityPublic 32 ∧
      ((updMsg (updHead action slot type ctr arg) w tag).drop 0xC0).take 114 = neutralSig := by
    intro action slot type ctr arg w tag hw ht
    obtain ⟨-, -, -, p4, p5, -, -⟩ := updMsg_parts (updHead action slot type ctr arg) w tag (updHead_length _ _ _ _ _) hw ht
    exact ⟨updMsg_length _ _ _ (updHead_length _ _ _ _ _) hw ht, by rw [p5, ← idDigest_eq]; rfl, p4⟩
  have plain : ∀ action slot type ctr arg, _ := fun action slot type ctr arg => gen action slot type ctr arg [] (List.replicate 16 0) (by simp) (by simp)
  have tagged : ∀ (f : List Byte → List Byte) (_ : ∀ l, (f l).length = l.length) action slot type n (_ : n ≤ 64), _ :=
    fun f hf action slot type n hn => gen action slot type 1 0 ((wrappedKey (updHead action slot type 1 0) n).take n)
      (f ((wrappedKey (updHead action slot type 1 0) n).drop n)) (by rw [List.length_take, wrappedKey_length]; omega)
      (by rw [hf, List.length_drop, wrappedKey_length]; omega)
  simp only [updMsgs, List.mem_cons, List.not_mem_nil, or_false] at h
  rcases h with rfl | rfl | rfl | rfl | rfl | rfl | rfl | rfl | rfl | rfl | rfl | rfl
  · exact tagged id (fun _ => rfl) 1 63 1 32 (by decide)
  · exact tagged id (fun _ => rfl) 6 0 0 57 (by decide)
  · exact tagged (List.map (fun b => b + 1)) (fun _ => List.length_map _) 1 63 1 32 (by decide)
  · exact tagged (List.map (fun b => b + 1)) (fun _ => List.length_map _) 6 0 0 57 (by decide)
  all_goals exact plain _ _ _ _ _

/-- Slot 63 written, in DEPLOYED with the neutral key as the owner's, entry 16383 used, and a rollback floor of 1 allowed. -/
def owned : KeyStore → KeyStore := store 1 (keyed 1 false (some key32)) (fun k => { k with rollback := 1, owner := neutralKey })
def deployed (m : List Byte) : State := withStation (commanding owned 2 m)

theorem meets_ksUpdates (m : List Byte) (h : m ∈ updMsgs) : ksAsks (deployed m) 2 7 m ∧ (deployed m).updSigned m = true ∧
    (deployed m).keys.lc = 1 := by
  obtain ⟨h1, -, h3⟩ := updMsgs_spec m h
  exact ⟨asks owned 2 m (by decide) (by rw [h1]; decide), neutral_signed rfl h3 _ _, rfl⟩

/-- What R390 calls a conflict, but for the digest of the identity. -/
def otherConflict (s : State) (bs : List Byte) : Bool :=
  (inU bs 4 1 == 1 && s.writeConflict (inU bs 5 1) (inU bs 6 1)) || ((inU bs 4 1 == 2 || inU bs 4 1 == 3) && inU bs 5 1 == 0) ||
    (inU bs 4 1 == 4 && bitOf (inU bs 0x34 4) 8 && s.gz (inU bs 0x30 4) 0x23 1 == inU bs 0x34 4 % 256) ||
    (inU bs 4 1 == 5 && (decide (inU bs 0x30 4 ≤ s.rd KS_FLOOR_FLOOR) || decide (s.keys.rollback < inU bs 0x30 4)))

theorem conflictFree (s : State) (m : List Byte) (h : m ∈ updMsgs) (hc : otherConflict s m = false) : s.updConflict m = false := by
  unfold State.updConflict
  unfold otherConflict at hc
  rw [(updMsgs_spec m h).2.1]
  simpa using hc

theorem meets_updates : ∀ m ∈ updMsgs, updForm m = true ∧ otherConflict (deployed m) m = false ∧
    (updSlot (inU m 4 1) = true → inU m 5 1 = 63 ∧ (deployed m).stateOf 63 ≠ 0) ∧
    (inU m 4 1 = 4 → (deployed m).gzUsed (inU m 0x30 4) = true) ∧ (inU m 8 8 = 0 ∨ (deployed m).keyCtr < inU m 8 8) := by
  decide +kernel

theorem meets_updRefused : updForm [] = false ∧ (commanding (store 2 noSlot id) 2 (updIn 7 0 0 1 0)).keys.lc ≠ 1 ∧
    (commanding (store 0 noSlot id) 2 (updIn 7 0 0 1 0)).keys.lc = 0 ∧
    (commanding (store 1 noSlot id) 2 (updIn 7 0 0 1 0)).updSigned (updIn 7 0 0 1 0) = false ∧ run.boot.saving = none := by
  decide +kernel

theorem meets_ksTimeout : (run.waiting (sqchXY 0).data).length ≠ 1 ∧
    (let s : State := { run with queues := [((sqchXY 0).data, [⟨0x01000000, 0⟩])], now := 10 * cycPerMs - 1 }
     s.waiting (sqchXY 0).data = [⟨0x01000000, 0⟩] ∧ s.now < 0 + 10 * cycPerMs) ∧
    (let s : State := { run with queues := [((sqchXY 0).data, [⟨0x01000000, 0⟩])], now := 10 * cycPerMs }
     s.waiting (sqchXY 0).data = [⟨0x01000000, 0⟩] ∧ 0 + 10 * cycPerMs ≤ s.now ∧ s.requests.replies = [] ∧
       (s.waiting (sqchYX 0).data).length ≤ 30) := by
  decide +kernel

theorem meets_ksQuery : (∀ m ∈ [1, 2, 3], run.mbUnread (smbwDir m) = false) ∧ run.mbUnread (smbwDir 0) = false ∧
    (let s := with_ run [((smbwDir 0).full, 1)]
     (∀ m ∈ [1, 2, 3], s.mbUnread (smbwDir m) = false) ∧ s.mbUnread (smbwDir 0) = true ∧ s.mbBusy (smbwDir 4) = false) := by
  decide +kernel

/-- A token for a scope that breaks no rule, against a challenge of zeros, with the neutral signature or none. -/
def tokenIn (scope : Nat) (sig : List Byte) : List Byte :=
  leBytes 4 0x4742444B ++ leBytes 1 scope ++ List.replicate 3 0 ++ leBytes 8 Config.uid.toNat ++ List.replicate 48 0 ++ sig ++ List.replicate 6 0

/-- A unit in a life-cycle state with a challenge in force, its owner's key the neutral one. -/
def challenged (lc : Nat) : State :=
  let s := unlocked 14 (with_ run [(DBG_STAT_CHAL_VALID, 1)])
  { s with keys := { s.keys with lc := lc, chalAt := 1000, owner := neutralKey } }

theorem meets_token : (challenged 1).mayWrite 14 DBG_CTL ∧ (challenged 3).keys.lc = 3 ∧ (challenged 1).keys.lc ≠ 3 := by
  unfold State.mayWrite State.settled; decide +kernel

/-- A token for scope 7 in DEPLOYED breaks no rule but, perhaps, that of its challenge and its time. -/
theorem tokenCodes_7 (s : State) (ho : s.keys.owner = neutralKey) (hl : s.keys.lc = 1) :
    s.tokenCodes (tokenIn 7 neutralSig) = broken [(s.rd DBG_STAT_CHAL_VALID == 1 && decide (s.now ≤ s.keys.chalAt + 60 * cycPerS) &&
      List.replicate 32 0 == s.challenge && decide (s.time ≤ 0), E_TIMEOUT)] := by
  have hu : inU (tokenIn 7 neutralSig) 8 8 = Config.uid.toNat := by
    show ofLeBytes (leBytes 8 Config.uid.toNat) = _
    rw [ofLeBytes_leBytes]; exact Nat.mod_eq_of_lt (by have := Config.uid.isLt; omega)
  have hs : s.tokenSigned (tokenIn 7 neutralSig) = true := neutral_signed ho (by decide +kernel) _ _
  have hf : ((tokenIn 7 neutralSig).length == 184 && inU (tokenIn 7 neutralSig) 0 4 == 0x4742444B && decide (inU (tokenIn 7 neutralSig) 4 1 < 8) &&
      inZero (tokenIn 7 neutralSig) 5 3 && inZero (tokenIn 7 neutralSig) 0x38 8 && inZero (tokenIn 7 neutralSig) 0xB2 6) = true := by
    decide +kernel
  have hc : ((tokenIn 7 neutralSig).drop 0x18).take 32 = List.replicate 32 0 := by decide +kernel
  have ht : inU (tokenIn 7 neutralSig) 0x10 8 = 0 := by decide +kernel
  unfold State.tokenCodes
  simp only [hu, hs, hf, hl, hc, ht, broken]
  simp

/-- The challenge has been in force too long. -/
def lapsed : State := { challenged 1 with now := 1001 + 60 * cycPerS }

theorem meets_tokens : (challenged 1).tokenCodes (tokenIn 7 neutralSig) = [] ∧
    pickCode (lapsed.tokenCodes (tokenIn 7 neutralSig)) = some E_TIMEOUT := by
  rw [tokenCodes_7 _ rfl rfl, tokenCodes_7 _ rfl rfl]
  decide +kernel

theorem meets_debug : (let s := with_ { run with keys := { run.keys with lc := 1 } } []
     s.placeCodes 14 DBG_CTL true = [] ∧ s.settled ∧ s.unlocked 14 = false) ∧
    run.keys.tokens.filter (fun t => decide (t.2 < run.time)) = [] ∧
    (let s : State := { run with keys := { run.keys with tokens := [(1, 0)] }, cal := cycPerS }
     s.keys.tokens.filter (fun t => decide (t.2 < s.time)) ≠ []) ∧
    (let s : State := { run with keys := { run.keys with lc := 1, tokens := [(1, 0)] } }
     bitOf s.scopes 0 = true ∧ s.scopes < 2) ∧
    (bitOf run.scopes 0 = true ∧ 2 ≤ run.scopes ∧ run.rd GLOBAL_MODE_AUTH = 0) ∧
    (let s : State := with_ run [(GLOBAL_MODE_AUTH, 1)]
     bitOf s.scopes 0 = true ∧ s.rd GLOBAL_MODE_AUTH = 1) ∧
    (let s : State := { run with keys := { run.keys with lc := 1 } }
     bitOf s.scopes 0 = false) := by
  unfold State.settled; decide +kernel

/-! States that meet the hypotheses of the statements about the Gleaner, the harrow and the step. -/

/-- A unit whose Gleaner has been changed. -/
def gleaning (l : List (Fld × Nat)) (f : Gleaner → Gleaner) : State := let s := with_ run l; { s with gleaner := f s.gleaner }

/-- A report. -/
def report : Report := ⟨0, 0, 0, 1, 1, 1, 0, 0⟩

theorem meets_freeze : (let s := unlocked 15 (gleaning [(GL_CTL_FREEZE_MAX, 1)] id)
     s.settled ∧ s.canAccess 15 = true ∧ s.placeCodes 15 GL_CTL true = [] ∧ 1 ≤ s.rd GL_CTL_FREEZE_MAX ∧ s.rd GL_CTL_FREEZE_MAX ≤ 50 ∧
       s.rd GL_CTL_FREEZE = 0 ∧ s.gleaner.freezeSince = none) ∧
    (let s := unlocked 15 (gleaning [(GL_CTL_FREEZE_MAX, 50), (GL_CTL_FREEZE, 1), (GL_STAT_FROZEN, 1)] id)
     s.settled ∧ s.canAccess 15 = true ∧ s.placeCodes 15 GL_CTL true = [] ∧ s.rd GL_CTL_FREEZE_MAX = 50 ∧ s.rd GL_CTL_FREEZE = 1 ∧
       s.gleaner.heldMinute = none ∧ s.gleaner.lastWritten = none ∧ s.gleaner.heldDefs = []) ∧
    (let s := unlocked 15 (gleaning [(GL_CTL_FREEZE_MAX, 50), (GL_CTL_FREEZE, 1), (GL_STAT_FROZEN, 1)]
        (fun g => { g with heldDefs := [(1023, some (List.replicate 32 0))] }))
     s.settled ∧ s.canAccess 15 = true ∧ s.placeCodes 15 GL_CTL true = [] ∧ s.gleaner.heldMinute = none ∧ s.gleaner.lastWritten = none ∧
       s.gleaner.heldDefs = [(1023, some (List.replicate 32 0))] ∧ (List.replicate 32 (0 : Byte)).length = 32) ∧
    (let s := { gleaning [(GL_CTL_FREEZE_MAX, 1)] (fun g => { g with freezeSince := some 0 }) with now := cycPerS - 1 }
     s.gleaner.freezeSince = some 0 ∧ s.now < 0 + s.rd GL_CTL_FREEZE_MAX * cycPerS) ∧
    (let s := { gleaning [(GL_CTL_FREEZE_MAX, 1)] (fun g => { g with freezeSince := some 0 }) with now := cycPerS }
     s.gleaner.freezeSince = some 0 ∧ 0 + s.rd GL_CTL_FREEZE_MAX * cycPerS ≤ s.now) := by
  unfold State.settled; decide +kernel

theorem meets_minute : run.seconds / 60 ≤ run.gleaner.liveMinute ∧
    (let s := { gleaning [(GL_STAT_FROZEN, 1)] id with cal := 60 * cycPerS }
     s.gleaner.liveMinute < s.seconds / 60 ∧ s.rd GL_STAT_FROZEN = 1 ∧ s.gleaner.heldMinute = none) ∧
    (let s := { gleaning [(GL_STAT_FROZEN, 1)] (fun g => { g with heldMinute := some 0 }) with cal := 60 * cycPerS }
     s.rd GL_STAT_FROZEN = 1 ∧ s.gleaner.heldMinute.isSome = true) ∧
    (let s := { gleaning [] id with cal := 60 * cycPerS, mem := [(defAddr 1023, 1)] }
     s.gleaner.liveMinute < s.seconds / 60 ∧ s.rd GL_STAT_FROZEN = 0 ∧ (∀ e ∈ s.gleaner.live ++ s.gleaner.carried, e.2.bins.length = 32) ∧
       s.gleaner.live.lookup 1023 = none ∧ s.seconds / 60 = s.gleaner.liveMinute + 1 ∧ s.seconds / 60 < 2 ^ 40 ∧ 1023 ∈ s.usedDefs) := by
  decide +kernel

theorem meets_log : run.gleaner.errQueue = [] ∧
    (let s := gleaning [(GL_LOG_WR_INDEX, 4096)] (fun g => { g with errQueue := [report] })
     s.gleaner.errQueue = report :: [] ∧ s.rd GL_STAT_FROZEN = 0 ∧ s.logLevel = 4096) ∧
    (gleaning [] (fun g => { g with errQueue := [report] })).logLevel ≠ 4096 ∧
    (let s := unlocked 15 (gleaning [(GL_LOG_WR_INDEX, 5000)] id)
     s.settled ∧ s.canAccess 15 = true ∧ s.placeCodes 15 GL_LOG_RD true = [] ∧
       (s.rd GL_LOG_WR_INDEX + 2 ^ 32 - (904 : Word).toNat) % 2 ^ 32 ≤ 4096 ∧
       4096 < (s.rd GL_LOG_WR_INDEX + 2 ^ 32 - (903 : Word).toNat) % 2 ^ 32) ∧
    (let s := unlocked 15 (with_ run [(HR_ARCH_WR_SEQ, 5)])
     s.mayWrite 15 HR_ARCH_ACK ∧ s.rd HR_ARCH_ACK_SEQ ≤ (5 : Word).toNat ∧ (5 : Word).toNat ≤ s.rd HR_ARCH_WR_SEQ ∧
       s.rd HR_ARCH_WR_SEQ < (6 : Word).toNat) := by
  unfold State.mayWrite State.settled; decide +kernel

theorem meets_scrub : run.scrubArea 0x3FFFFFFFF = none ∧ fitted.scrubArea (sd 0) = some 0 ∧ run.scrubArea 0x3FFFFF = some 5 ∧
    run.scrubArea (sliceBase 255) = some 1 ∧ laneAt (sliceBase 255) = 255 ∧ run.rd (LANE_STAT_STATE 255) = laneIdle ∧
    (with_ run [(LANE_STAT_STATE 255, laneRun)]).rd (LANE_STAT_STATE 255) = laneRun ∧
    (with_ run [(LANE_STAT_STATE 255, laneTest)]).rd (LANE_STAT_STATE 255) = laneTest ∧
    (with_ run ((List.range 32).map (fun c => (CL_CTL_TEST_EN c, 0)))).nextTestLane = none ∧
    (let s := with_ { timed phHeadland id with now := cycPerS } [(HR_CFG_TEST_S, 1), (CL_CTL_TEST_EN 31, 1), (HR_TEST_LAST_LANE, 254)]
     s.rd HR_CFG_TEST_S ≠ 0 ∧ s.rd PASS_PHASE_PHASE = phHeadland ∧ s.camp.inFlight = none ∧
       s.gleaner.lastTest + s.rd HR_CFG_TEST_S * cycPerS ≤ s.now ∧ s.nextTestLane = some 255) ∧
    (timed phLogic id).rd PASS_PHASE_PHASE ≠ phHeadland := by
  decide +kernel

/-- An archive of one record, and a request of three words on QCH_06. -/
def archive (st : Nat) (words : List Word) : State :=
  let s := with_ (stage st) [(HR_ARCH_WR_SEQ, 1)]
  let s1 := s.putBytes (s.archPlace 0).2 (archRecord 1 0 0 (List.replicate 72 0) 0 0 0)
  { s1 with queues := [((qchXY 6).data, words.map (fun w => ⟨w, 0⟩))] }

theorem meets_archive : (run.requestWords (qchXY 6)).length < 3 ∧ (with_ run [(GL_STAT_FROZEN, 1)]).rd GL_STAT_FROZEN = 1 ∧
    (let s := archive 9 [0x02070000, 0, 1]
     s.rd GL_STAT_FROZEN = 0 ∧ s.requestWords (qchXY 6) = (2 * 2 ^ 24 + 7 * 2 ^ 16 + 0) :: 0 :: 1 :: [] ∧ s.requests.replies = [] ∧
       (s.waiting (qchYX 6).data).length ≤ 30) ∧
    ((archive 9 [0x01070001, 0, 8193]).requestWords (qchXY 6) = (1 * 2 ^ 24 + 7 * 2 ^ 16 + 1) :: 0 :: 8193 :: []) ∧
    (archive 9 [0x01070000, 0, 2]).archPresent (0 + 1) = false ∧
    ((archive 9 [0x01070000, 0, 1]).requestWords (qchXY 6) = (2 ^ 24 + 7 * 2 ^ 16) :: 0 :: 1 :: []) ∧
    (∀ k < 1, (archive 9 [0x01070000, 0, 1]).archPresent (0 + k) = true) ∧
    (archive 9 [0x01070000, 0, 1]).rd CP_BOOT_STAT_STAGE = 9 ∧
    (∀ k < 1, (archive 8 [0x01070000, 0, 1]).archPresent (0 + k) = true) ∧ (archive 8 [0x01070000, 0, 1]).rd CP_BOOT_STAT_STAGE = 8 := by
  decide +kernel

theorem meets_temps : (∀ x ∈ ([0] : List (BitVec 16)), x.toInt < 16 * 100) ∧ (16 * 100 : Int) ≤ (1600 : BitVec 16).toInt ∧
    (16 * 80 : Int) ≤ (1599 : BitVec 16).toInt := by
  simp

theorem meets_telemetry :
    (let s := with_ (gleaning [] (fun g => { g with critRuns := [(0, 9)] })) [(HR_CFG_TEMP_CRIT, 100), (HR_CFG_TEMP_WARN, 80)]
     s.rd HR_CFG_TEMP_CRIT = 100 ∧ s.rd HR_CFG_TEMP_WARN = 80 ∧ s.healthyStandby = false ∧ s.gleaner.critRuns.lookup 0 = some 9 ∧
       s.rd PASS_PHASE_PHASE ≠ phLogic) := by
  decide +kernel

theorem meets_step : (let s := { run with pending := [Instr.aonPowerLoss] }
     s.pending = .aonPowerLoss :: []) ∧ run.pending = [] ∧ ((run.now + 1) % 2 = 1) ∧ run.meter.pulse.length = 32 ∧
    (let s := { pairing prActive 1 [] id with now := cycPerUs - 1 }
     s.paired = true ∧ s.linkUp = true ∧ (s.now + 1) % cycPerUs = 0) ∧
    (run.paired = false ∧ (∀ n < 4, run.rd (FP_CTL_EN n) = 0 ∨ run.rd (FP_STAT_LINK n) = 0) ∧
      (∀ c < 32, (run.pulseIn c).raw = (run.pulseIn c).level)) ∧
    (let s := { gleaning [] (fun g => { g with fifo := [(1023, 0, 0)] }) with now := 999 }
     (s.now + 1) % 2 = 0 ∧ s.gleaner.fifo = (1023, 0, 0) :: [] ∧ s.defUsed 1023 = false) ∧
    (let s := { gleaning [] (fun g => { g with fifo := [(1023, 0, 0)] }) with now := 999, mem := [(defAddr 1023, 1)] }
     s.defUsed 1023 = true) := by
  decide +kernel

/-! Words of the manual (chapter 9, "Two strips and a timer"), and what spells no instruction. -/

theorem test_words_strip0 :
    [0x3E043814, 0x25040004, 0x3900D6D8, 0x01040120, 0x6000000A, 0x10000002, 0x01200040, 0x04200041, 0x11000000, 0x3E08B000, 0x09180000,
      0x78000000, 0x79000000].map (decodeFurrow 0) =
    [some (.furLdb 0 1 0x03814), some (.furLw32s 0 false ⟨0, 1, 4⟩), some (.furLdi1 0 55000), some (.furLd 0 ⟨0, 1, 0x120⟩),
      some (.furCmp 0 1 2), some (.furPush 0 2), some (.furLd 0 ⟨2, 0, 0x40⟩), some (.furAndn 0 ⟨2, 0, 0x41⟩), some (.furPop 0),
      some (.furLdb 0 2 0x0B000), some (.furSt 0 ⟨1, 2, 0⟩), some (.furBar 0 0), some (.furEnd 0)] := by
  decide +kernel

theorem test_words_strip1 : [0x01180000, 0x38001388, 0x80000007, 0x09100318].map (decodeFurrow 1) =
    [some (.furLd 1 ⟨1, 2, 0⟩), some (.furLdi 1 5000), some (.furTon 1 7), some (.furSt 1 ⟨1, 0, 0x318⟩)] := by
  decide +kernel

theorem test_words_refused : [0x00000000, 0x0D000000, 0x10000007, 0x11000001, 0x3E000000, 0xFF000000].map (decodeFurrow 0) =
    [none, none, none, none, none, none] := by
  decide +kernel

theorem meets_furrowWord : (Instr.furEnd 3).wf = true ∧ furrowCore (.furEnd 3) = some 3 ∧ 0x79000000 < 2 ^ 32 ∧
    decodeFurrow 3 0x79000000 = some (.furEnd 3) := by
  decide +kernel

/-! Commands that are not well formed: one for each check. -/

theorem test_illFormed : [Instr.sdramInit 3, .sdramInit 17, .bar2Write false 0 [], .bar2Write false (2 ^ 32) [none], .bar2Read false 0 0,
      .bar2Read false 0 4097, .bar2Read false (2 ^ 32) 1, .furPush 0 7, .furLdb 0 0 1, .furAdb 0 0, .furCmp 0 4 0, .furCmpu 0 0 6,
      .furFcmp 0 7 7, .ptpMessage ⟨0, 1200000001⟩, .canFrameReceived 0 ⟨false, 2 ^ 11, false, false, false, false, 0, []⟩,
      .canFrameReceived 0 ⟨false, 0, false, false, false, false, 1, []⟩, .canFrameReceived 0 ⟨false, 0, true, true, false, false, 0, []⟩,
      .meterSample [], .rtdConversion [], .pairBlocks 0 0 [.bytes 0 0 []] true,
      .pairJoinFrame (.blocks [.bytes 0 0 []]) true, .channelWake 0 (.frame ⟨false, 2 ^ 11, false, false, false, false, 0, []⟩),
      .canFrameReceived 0 ⟨false, 0, false, false, false, false, 16, []⟩,
      .samplePreload (2 ^ 835) 0, .samplePreload 0 (2 ^ 835), .jtagToken [] (), .telemetryRead [] [], .pcieLinkUp 3 1,
      .pcieLinkUp 1 5].map Instr.wf = List.replicate 29 false := by
  decide +kernel

theorem test_longFrame (frame : List Byte) (h : frame.length = 65536) : (Instr.frameReceive 0 frame).wf = false := by
  show decide (frame.length < 65536) = false
  rw [h]; rfl

theorem test_wellFormed : [Instr.sdramInit 4, .sdramInit 16, .bar2Write false 0 [none], .bar2Read false 0 4096, .furPush 0 6, .furLdb 0 3 0,
      .furAdb 0 1, .furCmp 0 3 5, .pcieLinkUp 4 4, .canFrameReceived 0 ⟨true, 2 ^ 29 - 1, false, true, false, false, 9, List.replicate 12 0⟩].map
    Instr.wf = List.replicate 10 true := by
  decide +kernel

/-! Reset, and single steps. -/

theorem test_reset : State.reset.pending = [] ∧ State.reset.mem = [] ∧ Memory.wf State.reset.mem = true ∧ Regs.wf State.reset.regs = true := by
  decide +kernel

/-- A check of the state that a command leads to. -/
def after (i : Instr) (s : State) (p : State → Bool) : Bool :=
  match step { s with pending := [i] } with
  | .next t => p t
  | _ => false

theorem test_add_wraps : after (.furAdd 0) (fed (.furAdd 0) (core { core0 with w0 := 1, w1 := BitVec.ofInt 64 (-1) })) (fun t => (t.core 0).w0 == 0) = true := by
  decide +kernel

theorem test_semaphore_read_acquires :
    after (.semaphoreAcquireRead 15 31) run (fun t => t.rd (ACCESS_SEM_STATE 31) == 1 && t.rd (ACCESS_SEM_OWNER 31) == 15) = true := by
  decide +kernel

theorem test_integration_takes_part : after (.integrationComplete 7) (busCh cbIntegrating [] []) (fun t => t.cbState 7 == cbActive) = true := by
  decide +kernel

theorem test_idle_step : after .aonPowerLoss run (fun t => !t.boot.aon && t.pending.isEmpty) = true := by
  decide +kernel

end Sys2Proof.Tests
end

section
/-! The register fabric's rejections (R10, R35, R36, R73, R77, R78, R81): what an access does that breaks a rule, that reaches
memory, or that its master cannot make. -/

namespace Sys2Proof.Machine

/-! Codes. -/

/-- The code reported is one of those broken, and the lowest of them (R10). -/
theorem pickCode_lowest {cs : List Nat} {c : Nat} (h : pickCode cs = some c) : c ∈ cs ∧ ∀ d ∈ cs, c ≤ d := by
  induction cs generalizing c with
  | nil => cases h
  | cons x xs ih =>
    rw [pickCode] at h
    cases hp : pickCode xs with
    | none =>
      have hx : x = c := by simpa [hp] using h
      simp [pickCode_none hp, hx]
    | some d =>
      have hc : min x d = c := by simpa [hp] using h
      obtain ⟨hmem, hle⟩ := ih hp
      refine ⟨?_, fun e he => ?_⟩
      · rcases Nat.le_total x d with hxd | hdx
        · rw [← hc, Nat.min_eq_left hxd]
          exact List.mem_cons_self
        · rw [← hc, Nat.min_eq_right hdx]
          exact List.mem_cons_of_mem x hmem
      · rcases List.mem_cons.mp he with rfl | he
        · omega
        · have := hle e he; omega

/-- No check fails where all hold. -/
theorem broken_eq_nil_iff (cs : List (Bool × Nat)) : broken cs = [] ↔ ∀ x ∈ cs, x.1 = true := by
  simp [broken]

variable {s : State}

/-- A memory access that breaks no rule has a width of R73. -/
theorem State.memCodes_width {m width addr : Nat} {w : Bool} (h : s.memCodes m width addr w = []) :
    width = 8 ∨ width = 16 ∨ width = 32 ∨ width = 64 := by
  have hw := (broken_eq_nil_iff _).mp h (width == 8 || width == 16 || width == 32 || width == 64, E_WIDTH) (by simp)
  simpa [or_assoc] using hw

/-! Registers. -/

/-- A register write that breaks a rule is rejected with its code, after re-arming its master's lock or not (R77, R81). -/
theorem State.regWrite_rejected {m width addr data c : Nat} (hw : width ≠ 0) (ha : s.canAccess m = true)
    (hlt : addr < 0x400000) (hc : pickCode (s.regWriteCodes m width addr data) = some c) :
    s.regWrite m width addr data = s.reject m addr c true ∨
      s.regWrite m width addr data = (s.relock m).reject m addr c true := by
  simp only [State.regWrite, State.regWriteBy, hw, ha, Nat.not_le.mpr hlt, hc, decide_false, Bool.not_true, Bool.or_self,
    Bool.false_eq_true, if_false]
  split
  · exact .inr rfl
  · exact .inl rfl

/-- A register read that breaks a rule of width or place returns 0 and is rejected with its code (R73, R77). -/
theorem State.regRead_rejected {m width addr c : Nat} (hw : width ≠ 0) (ha : s.canAccess m = true) (hlt : addr < 0x400000)
    (hc : pickCode (widthCodes false width addr ++ s.placeCodes m (addr / 4 * 4) false) = some c) :
    s.regRead m width addr = (0, s.reject m addr c false) := by
  simp only [State.regRead, hw, ha, Nat.not_le.mpr hlt, hc, decide_false, Bool.not_true, Bool.or_self, Bool.false_eq_true,
    if_false]

/-! Memory. -/

/-- Above the register blocks a write goes to memory (R35). -/
theorem State.regWrite_mem {m width addr data : Nat} (hw : width ≠ 0) (ha : s.canAccess m = true) (hle : 0x400000 ≤ addr) :
    s.regWrite m width addr data = s.memWrite m width addr data := by
  simp only [State.regWrite, State.regWriteBy, hw, ha, hle, decide_false, Bool.not_true, Bool.or_self, Bool.false_eq_true,
    if_false, if_true]

/-- Above the register blocks a read goes to memory (R35). -/
theorem State.regRead_mem {m width addr : Nat} (hw : width ≠ 0) (ha : s.canAccess m = true) (hle : 0x400000 ≤ addr) :
    s.regRead m width addr = s.memRead m width addr := by
  simp only [State.regRead, hw, ha, hle, decide_false, Bool.not_true, Bool.or_self, Bool.false_eq_true, if_false, if_true]

theorem State.memWrite_rejected {m width addr data c : Nat} (hc : pickCode (s.memCodes m width addr true) = some c) :
    s.memWrite m width addr data = s.reject m addr c true := by rw [State.memWrite, hc]

theorem State.memRead_rejected {m width addr c : Nat} (hc : pickCode (s.memCodes m width addr false) = some c) :
    s.memRead m width addr = (0, s.reject m addr c false) := by rw [State.memRead, hc]

theorem State.memWrite_accepted {m width addr data : Nat} (hc : s.memCodes m width addr true = []) :
    s.memWrite m width addr data = (s.st addr (width / 8) data).healWords addr (width / 8) := by
  rw [State.memWrite, hc, pickCode]

/-- Bytes written and healed: they read the value, no other byte changes, and no other state but the marks of words. -/
theorem State.healWords_st (a n v : Nat) : let t := (s.st a n v).healWords a n
    t.ld a n = v % 256 ^ n ∧ (∀ k, k < a ∨ a + n ≤ k → t.byte k = s.byte k) ∧
      t = { s with mem := t.mem, memBad := t.memBad } := by
  have hb : ∀ k, ((s.st a n v).healWords a n).byte k = (s.st a n v).byte k := fun k => State.byte_of_mem rfl
  refine ⟨?_, fun k hk => (hb k).trans (s.byte_st_out a n v k hk), ?_⟩
  · rw [State.ld, State.bytes_congr (s.st a n v) _ a n (fun k _ _ => hb k)]
    exact s.ld_st a n v
  · rw [State.healWords, State.st_eq]

/-! Masters that can make no access (R39, R101, R102). -/

theorem State.regWrite_noAccess {m : Nat} (width addr data : Nat) (ha : s.canAccess m = false) :
    s.regWrite m width addr data = s := by
  simp [State.regWrite, State.regWriteBy, ha]

/-- Only the host is answered where it can make no access. -/
theorem State.answerRead_noAccess {m : Nat} (width addr : Nat) (ha : s.canAccess m = false) (hm : isHost m = false) :
    s.answerRead m width addr = s := by
  simp [State.answerRead, ha, hm]

theorem State.answerRead_access {m : Nat} (width addr : Nat) (ha : s.canAccess m = true) :
    s.answerRead m width addr = (s.regRead m width addr).2.send (.readData m addr (s.regRead m width addr).1) := by
  simp [State.answerRead, ha]

/-! The commands. -/

theorem exec_registerWrite (m : Fin 16) (width addr data : Nat) :
    exec (.registerWrite m width addr data) s = .next (s.regWrite m width addr data) := rfl

theorem exec_registerRead (m : Fin 16) (width addr : Nat) :
    exec (.registerRead m width addr) s = .next (s.answerRead m width addr) := rfl

/-- A read whose access is rejected answers 0 after the report (R73, R78). -/
theorem registerRead_completes_rejected {m : Fin 16} {width addr c : Nat} (ha : s.canAccess m = true)
    (h : s.regRead m width addr = (0, s.reject m addr c false)) :
    Completes (.registerRead m width addr) s (fun t =>
      ∃ u, s.rejects m addr c false u ∧ t = u.send (.readData m addr 0)) :=
  ⟨_, exec_registerRead m width addr, _, s.reject_rejects m addr c false m.isLt, by
    rw [State.answerRead_access width addr ha, h]⟩

/-- A register write that breaks a rule is reported alone, but for its master's lock (R10, R78, R81). -/
theorem registerWrite_completes_rejected {m : Fin 16} {width addr data c : Nat} (hw : width ≠ 0)
    (ha : s.canAccess m = true) (hlt : addr < 0x400000) (hc : pickCode (s.regWriteCodes m width addr data) = some c) :
    Completes (.registerWrite m width addr data) s (fun t =>
      s.rejects m addr c true t ∨ (s.relock m).rejects m addr c true t) := by
  refine ⟨_, exec_registerWrite m width addr data, ?_⟩
  rcases State.regWrite_rejected hw ha hlt hc with h | h <;> rw [h]
  · exact .inl (s.reject_rejects m addr c true m.isLt)
  · exact .inr ((s.relock m).reject_rejects m addr c true m.isLt)

/-- A memory write that breaks a rule is reported alone (R36, R78). -/
theorem registerWrite_completes_memRejected {m : Fin 16} {width addr data c : Nat} (hw : width ≠ 0)
    (ha : s.canAccess m = true) (hle : 0x400000 ≤ addr) (hc : pickCode (s.memCodes m width addr true) = some c) :
    Completes (.registerWrite m width addr data) s (s.rejects m addr c true) := by
  refine ⟨_, exec_registerWrite m width addr data, ?_⟩
  rw [State.regWrite_mem hw ha hle, State.memWrite_rejected hc]
  exact s.reject_rejects m addr c true m.isLt

/-- A memory write that breaks no rule changes the bytes it names (R36). -/
theorem registerWrite_completes_memAccepted {m : Fin 16} {width addr data : Nat} (hw : width ≠ 0)
    (ha : s.canAccess m = true) (hle : 0x400000 ≤ addr) (hc : s.memCodes m width addr true = []) :
    Completes (.registerWrite m width addr data) s (fun t => t.ld addr (width / 8) = data % 2 ^ width ∧
      (∀ k, k < addr ∨ addr + width / 8 ≤ k → t.byte k = s.byte k) ∧ t = { s with mem := t.mem, memBad := t.memBad }) := by
  refine ⟨_, exec_registerWrite m width addr data, ?_⟩
  rw [State.regWrite_mem hw ha hle, State.memWrite_accepted hc]
  have hbytes : 256 ^ (width / 8) = 2 ^ width := by
    rcases State.memCodes_width hc with rfl | rfl | rfl | rfl <;> rfl
  rw [← hbytes]
  exact State.healWords_st addr (width / 8) data

/-- Settles O18: each clause is what the write or the read comes to, with `State.reject_rejects` for what a rejection
reports. -/
theorem rejectedAccessesAreReportedAlone : Obligations.RejectedAccessesAreReportedAlone := by
  refine ⟨fun cs c h => pickCode_lowest h, fun s m width addr data c hw => ⟨fun ha hlt => ⟨?_, ?_⟩,
    fun ha hle => ⟨?_, ?_, ?_⟩, fun ha => ⟨?_, fun hm => ?_⟩⟩⟩
  · exact registerWrite_completes_rejected hw ha hlt
  · exact fun hc => registerRead_completes_rejected ha (State.regRead_rejected hw ha hlt hc)
  · exact registerWrite_completes_memRejected hw ha hle
  · exact fun hc => registerRead_completes_rejected ha ((State.regRead_mem hw ha hle).trans (State.memRead_rejected hc))
  · exact registerWrite_completes_memAccepted hw ha hle
  · rw [exec_registerWrite, State.regWrite_noAccess width addr data ha]
  · rw [exec_registerRead, State.answerRead_noAccess width addr ha hm]

end Sys2Proof.Machine
end
